-- ==== Sys2Proof/Word.lean ====
section
/-! DEFINITION. The words the 4120's host link, capture memory and time base are made of. -/

namespace Sys2Proof

/-- A byte of the host link (R188). -/
abbrev Byte := BitVec 8

/-- A word: 32 bits (00_scope section 7, "Sizes and times"). -/
abbrev Word := BitVec 32

/-- A 16-bit field. -/
abbrev Half := BitVec 16

/-- A 24-bit probe-line value (R121, R122). -/
abbrev Value := BitVec 24

/-- A time base value: 48 bits, in µs (R47). -/
abbrev Time := BitVec 48

end Sys2Proof
end

