-- ==== Sys2Proof/Syntax.lean ====
section
/-! DEFINITION. The commands of the 4120: one constructor per row of spec/opcode_table.json. A host request
carries its tag and its body fields as they stand on the wire (Table 10-12), in range or not; an event carries
the number of the unit it happens at, and what arrives with it. -/

namespace Sys2Proof

/-- An encoded step of APPEND-STEPS as the host sends it (Table 10-14). -/
structure EncodedStep where
  kind  : Byte
  port  : Byte
  /-- Byte 2: sub-address, busy policy, tolerate. -/
  flags : Byte
  count : Half
  value : Value
  deriving DecidableEq, Repr

/-- The commands. Host requests first (each is a VALID FRAME that has just arrived, R192), then the events. -/
inductive Instr where
  -- Host Link (Chapter 10)
  | openSession (tag : Byte)
  | closeSession (tag : Byte)
  | identify (tag : Byte)
  | abortRequest (tag target : Byte)
  | resetDevice (tag : Byte)
  -- rings (Chapter 1)
  | defineRing (tag ring count size policy : Byte) (limit : Half) (autoRelease : Byte)
  | deleteRing (tag ring : Byte)
  | sealRing (tag ring : Byte)
  | releaseSegment (tag ring : Byte) (seqNo : Word)
  | queryRing (tag ring : Byte)
  | listSegments (tag ring start : Byte)
  -- plans (Chapter 2)
  | openPlan (tag plan priority ring bindType bindNumber overlap sealOnEnd : Byte)
  | appendSteps (tag plan : Byte) (steps : List EncodedStep)
  | closePlan (tag plan : Byte)
  | armPlan (tag plan : Byte)
  | disarmPlan (tag plan : Byte)
  | deletePlan (tag plan : Byte)
  | queryPlan (tag plan : Byte)
  | fire (tag plan : Byte)
  -- time base, triggers, cadences (Chapter 3)
  | setTime (tag : Byte) (time : Time)
  | readTime (tag : Byte)
  | setTriggerInput (tag input enabled edge : Byte) (holdoff : Half)
  | setCadence (tag generator enable : Byte) (period : Value)
  -- runs (Chapter 4)
  | abortRun (tag plan : Byte)
  | clearAcquisition (tag : Byte)
  -- ports (Chapters 5 to 7)
  | portPowerOn (tag port : Byte)
  | portPowerOff (tag port : Byte)
  | queryPort (tag port : Byte)
  | probeAccess (tag port function subAddress : Byte) (value : Value)
  | setProfile (tag port present rate timeout spacing retryLimit width signExtend silenceLimit attention : Byte)
  | commitProfile (tag port : Byte)
  | readProfile (tag port choice : Byte)
  -- readout and notices (Chapters 8 and 9)
  | readSegment (tag ring selector : Byte) (seqNo : Word)
  | setNoticeMode (tag mode : Byte)
  | grantCredits (tag count : Byte)
  | takeNotices (tag maximum : Byte)
  | ackNotices (tag : Byte) (number : Half)
  | resendNotices (tag : Byte)
  -- events at the host line
  | rxdByte (byte : Byte) (stopBit : Bool)
  | gapTimerExpiry
  | txdFrameEnd
  | transmitterTake
  -- resets; the straps are LRS1, LRS0
  | resetAsserted (straps : BitVec 2)
  | resetReleased
  | deviceResetRequest
  -- events at the Trigger Unit
  | trgEdge (input : Fin 4) (rising : Bool)
  | holdoffExpiry (input : Fin 4)
  | cadenceExpiry (generator : Fin 4)
  -- events on a probe line; bit 31 of `word` is the bit received first; `early`: its start bit came before the
  -- last bit of the port's own request word
  | probeResponse (port : Fin 8) (word : Word) (early : Bool)
  | responseTimeout (port : Fin 8)
  | quietPeriodEnd (port : Fin 8)
  -- timers of engines, rings and ports
  | spacingExpiry (engine : Fin 4)
  | waitExpiry (engine : Fin 4)
  | stallTimerExpiry (engine : Fin 4)
  | hostWaitLimitExpiry (port : Fin 8)
  | powerSettleExpiry (port : Fin 8)
  | clockSettleExpiry (port : Fin 8)
  | retrainSettleExpiry (port : Fin 8)
  | identifySpacingExpiry (port : Fin 8)
  | stopClockExpiry (port : Fin 8)
  | dischargeExpiry (port : Fin 8)
  -- lines of a probe port; `asserted` is the level PnOC goes to
  | overcurrent (port : Fin 8) (asserted : Bool)
  | attentionEdge (port : Fin 8) (rising : Bool)
  -- internal events
  | runTake
  | stallWake (ring : Fin 4)
  | drainEnd (port : Fin 8)
  | grant (port : Fin 8)
  | profileCopy (port : Fin 8)
  | acquisitionClear
  deriving DecidableEq, Repr

end Sys2Proof
end

