-- ==== Sys2Proof/Decode.lean ====
section
/-! DEFINITION. Words that spell a command, and the bytes that spell a host request. The rows of
spec/opcode_table.json give no bits, so no word spells a command: a host request is spelled by the body of its frame
(Table 10-12), an event by what happens at its unit. -/

namespace Sys2Proof

/-- The command a word spells by the table's bits: none, since no row gives bits. -/
def decodeTableWord (_nbits _w : Nat) : Option Instr := none

/-- A host request as it travels: its tag, its kind, and its body (Table 10-12). -/
structure Request where
  tag  : Byte
  kind : Byte
  body : List Byte
  deriving DecidableEq, Repr

/-- The two bytes of a 16-bit field, most significant first (R207). -/
def Request.bytes2 (x : Half) : List Byte := [x.extractLsb' 8 8, x.extractLsb' 0 8]

/-- The three bytes of a 24-bit field. -/
def Request.bytes3 (x : Value) : List Byte := [x.extractLsb' 16 8, x.extractLsb' 8 8, x.extractLsb' 0 8]

/-- The four bytes of a 32-bit field. -/
def Request.bytes4 (x : Word) : List Byte :=
  [x.extractLsb' 24 8, x.extractLsb' 16 8, x.extractLsb' 8 8, x.extractLsb' 0 8]

/-- The six bytes of a time. -/
def Request.bytes6 (x : Time) : List Byte :=
  [x.extractLsb' 40 8, x.extractLsb' 32 8, x.extractLsb' 24 8, x.extractLsb' 16 8, x.extractLsb' 8 8,
   x.extractLsb' 0 8]

/-- The eight bytes of an encoded step (Table 10-14). -/
def EncodedStep.bytes (x : EncodedStep) : List Byte :=
  [x.kind, x.port, x.flags] ++ Request.bytes2 x.count ++ Request.bytes3 x.value

/-- The host request a command is (Table 10-12); none for an event. -/
def Instr.request : Instr → Option Request
  | .openSession tag => some ⟨tag, 0x01#8, []⟩
  | .closeSession tag => some ⟨tag, 0x02#8, []⟩
  | .identify tag => some ⟨tag, 0x03#8, []⟩
  | .abortRequest tag target => some ⟨tag, 0x04#8, [target]⟩
  | .resetDevice tag => some ⟨tag, 0x05#8, []⟩
  | .defineRing tag ring count size policy limit autoRelease =>
    some ⟨tag, 0x10#8, [ring, count, size, policy] ++ Request.bytes2 limit ++ [autoRelease]⟩
  | .deleteRing tag ring => some ⟨tag, 0x11#8, [ring]⟩
  | .sealRing tag ring => some ⟨tag, 0x12#8, [ring]⟩
  | .releaseSegment tag ring seqNo => some ⟨tag, 0x13#8, ring :: Request.bytes4 seqNo⟩
  | .queryRing tag ring => some ⟨tag, 0x14#8, [ring]⟩
  | .listSegments tag ring start => some ⟨tag, 0x15#8, [ring, start]⟩
  | .openPlan tag plan priority ring bindType bindNumber overlap sealOnEnd =>
    some ⟨tag, 0x20#8, [plan, priority, ring, bindType, bindNumber, overlap, sealOnEnd]⟩
  | .appendSteps tag plan steps => some ⟨tag, 0x21#8, plan :: steps.flatMap EncodedStep.bytes⟩
  | .closePlan tag plan => some ⟨tag, 0x22#8, [plan]⟩
  | .armPlan tag plan => some ⟨tag, 0x23#8, [plan]⟩
  | .disarmPlan tag plan => some ⟨tag, 0x24#8, [plan]⟩
  | .deletePlan tag plan => some ⟨tag, 0x25#8, [plan]⟩
  | .queryPlan tag plan => some ⟨tag, 0x26#8, [plan]⟩
  | .fire tag plan => some ⟨tag, 0x27#8, [plan]⟩
  | .setTime tag time => some ⟨tag, 0x30#8, Request.bytes6 time⟩
  | .readTime tag => some ⟨tag, 0x31#8, []⟩
  | .setTriggerInput tag input enabled edge holdoff =>
    some ⟨tag, 0x32#8, [input, enabled, edge] ++ Request.bytes2 holdoff⟩
  | .setCadence tag generator enable period => some ⟨tag, 0x33#8, [generator, enable] ++ Request.bytes3 period⟩
  | .abortRun tag plan => some ⟨tag, 0x38#8, [plan]⟩
  | .clearAcquisition tag => some ⟨tag, 0x39#8, []⟩
  | .portPowerOn tag port => some ⟨tag, 0x40#8, [port, 0x01#8]⟩
  | .portPowerOff tag port => some ⟨tag, 0x40#8, [port, 0x00#8]⟩
  | .queryPort tag port => some ⟨tag, 0x41#8, [port]⟩
  | .probeAccess tag port function subAddress value =>
    some ⟨tag, 0x42#8, [port, function, subAddress] ++ Request.bytes3 value⟩
  | .setProfile tag port present rate timeout spacing retryLimit width signExtend silenceLimit attention =>
    some ⟨tag, 0x48#8,
      [port, present, rate, timeout, spacing, retryLimit, width, signExtend, silenceLimit, attention]⟩
  | .commitProfile tag port => some ⟨tag, 0x49#8, [port]⟩
  | .readProfile tag port choice => some ⟨tag, 0x4A#8, [port, choice]⟩
  | .readSegment tag ring selector seqNo => some ⟨tag, 0x50#8, [ring, selector] ++ Request.bytes4 seqNo⟩
  | .setNoticeMode tag mode => some ⟨tag, 0x58#8, [mode]⟩
  | .grantCredits tag count => some ⟨tag, 0x59#8, [count]⟩
  | .takeNotices tag maximum => some ⟨tag, 0x5A#8, [maximum]⟩
  | .ackNotices tag number => some ⟨tag, 0x5B#8, Request.bytes2 number⟩
  | .resendNotices tag => some ⟨tag, 0x5C#8, []⟩
  | .rxdByte _ _ | .gapTimerExpiry | .txdFrameEnd | .transmitterTake | .resetAsserted _ | .resetReleased
  | .deviceResetRequest | .trgEdge _ _ | .holdoffExpiry _ | .cadenceExpiry _ | .probeResponse _ _ _
  | .responseTimeout _ | .quietPeriodEnd _ | .spacingExpiry _ | .waitExpiry _ | .stallTimerExpiry _
  | .hostWaitLimitExpiry _ | .powerSettleExpiry _ | .clockSettleExpiry _ | .retrainSettleExpiry _
  | .identifySpacingExpiry _ | .stopClockExpiry _ | .dischargeExpiry _ | .overcurrent _ _ | .attentionEdge _ _
  | .runTake | .stallWake _ | .drainEnd _ | .grant _ | .profileCopy _ | .acquisitionClear => none

end Sys2Proof
end

