-- ==== Sys2Proof/Config.lean ====
section
/-! DEFINITION. What is fixed for the part (Table 0-4 and the chapters), and the constants the model itself fixes. -/

namespace Sys2Proof.Config

/-- Part code 4120 = 1018H (R202). -/
def partCode : Half := 0x1018#16
/-- Revision code 03H (R202). -/
def revision : Byte := 0x03#8

/-- Blocks of capture memory (R1). -/
def blocks : Nat := 1024
/-- Words of one block (R1). -/
def blockWords : Nat := 256
/-- Steps of the step pool (R28). -/
def poolSteps : Nat := 1024
/-- Most steps a plan may hold (R28). -/
def planSteps : Nat := 128
/-- Samples the record builder holds (R77). -/
def builderSamples : Nat := 64
/-- Words one data frame carries (R155). -/
def frameWords : Nat := 60
/-- Places of the notice queue, the last kept for a marker (R168). -/
def noticePlaces : Nat := 256
/-- Most notices in one frame or one TAKE-NOTICES (R179, R180). -/
def noticesPerFrame : Nat := 8
/-- Most notice credits (R177). -/
def maxCredits : Nat := 32
/-- Places of the request window (R194). -/
def window : Nat := 4
/-- Places of the refusal queue and of the reject queue (R191, R193). -/
def linkQueue : Nat := 4

/-- Inter-byte gap limit, µs (R191). -/
def gapLimit : Nat := 2000
/-- POWERING settle, µs (R99). -/
def powerSettle : Nat := 20000
/-- Clock settle of CLOCKING and RETRAINING, µs (R100, R103). -/
def clockSettle : Nat := 1000
/-- First phase of STOPPING, µs (R106). -/
def stopClock : Nat := 1000
/-- Discharge phase of STOPPING, µs (R106). -/
def discharge : Nat := 20000
/-- Wait limit of a host access, µs (R135). -/
def hostWait : Nat := 100000
/-- Identify attempts of one phase (R101). -/
def identifyAttempts : Nat := 3

/-- What a 16-bit saturating count stops at. -/
def max16 : Nat := 0xFFFF
/-- What a 32-bit saturating count stops at. -/
def max32 : Nat := 0xFFFFFFFF
/-- What the silence tally stops at (R111). -/
def maxTally : Nat := 255

/-- DESIGN CHOICE (notes/assumptions/9): what an unlisted byte of capture memory reads as. -/
def unlistedByte : Byte := 0#8

/-- DESIGN CHOICE (notes/assumptions/5): how many RUN_BEGIN commits one event carries out.
A run taken beyond them rests in STARTING until the next RUN_TAKE or tick. -/
def beginsPerEvent : Nat := 64

/-- DESIGN CHOICE (notes/assumptions/5): fuel of one event's internal actions, above what
`beginsPerEvent` runs of at most 128 steps can use. -/
def eventFuel : Nat := 1048576

/-- DESIGN CHOICE (notes/assumptions/5): fuel of the actions that close an event, above the three for each of the runs
that can end in it. -/
def settleFuel : Nat := 1024

end Sys2Proof.Config
end

