-- ==== Sys2Proof/Machine/State.lean ====
section
/-! DEFINITION. The state of the 4120, block by block (Table 0-1), as plain data, and the state after reset. -/

namespace Sys2Proof.Machine

/-! ## Why a step can stop -/

/-- Reasons the machine stops with a fault. There is none: the spec gives every command an effect in every state,
an event that finds nothing to act on is discarded or ignored by the spec's own rules (R53, R125, R113), and capture
memory is reached only through the segments of defined rings (R1), so no access leaves it. -/
inductive Fault : Type
  deriving DecidableEq, Repr

/-- Reasons a command has no meaning. -/
inductive Refusal where
  /-- Raised by an arm of `exec` whose command has no meaning yet; no arm raises it. Safe. -/
  | notModelled (mnemonic : String)
  deriving DecidableEq, Repr

/-! ## Trigger sources (Chapter 3) -/

/-- A trigger source as recorded in run requests and records (Table 3-3). -/
inductive Source where
  | ext (n : Fin 4)
  | cadence (n : Fin 4)
  | attn (n : Fin 8)
  | done (p : Fin 32)
  | host
  | held
  deriving DecidableEq, Repr

/-- A plan's binding (Table 2-4). -/
inductive Binding where
  | unbound
  | ext (n : Fin 4)
  | cadence (n : Fin 4)
  | attn (n : Fin 8)
  | done (p : Fin 32)
  deriving DecidableEq, Repr

inductive Edge where
  | rising
  | falling
  deriving DecidableEq, Repr

/-- A trigger input (Table 3-1). `timer` is the holdoff timer: `none` is ELAPSED, `some t` RUNNING with t µs left. -/
structure TrigInput where
  enabled : Bool
  edge    : Edge
  holdoff : Nat
  timer   : Option Nat
  deriving DecidableEq, Repr

/-- A cadence generator (Table 3-2). -/
structure Cadence where
  enabled   : Bool
  period    : Nat
  countdown : Option Nat
  deriving DecidableEq, Repr

/-! ## Plans (Chapter 2) -/

inductive PlanState where
  | empty
  | opened
  | ready
  | armed
  deriving DecidableEq, Repr

inductive RunStatus where
  | idle
  | queued
  | running
  deriving DecidableEq, Repr

inductive Overlap where
  | miss
  | hold
  deriving DecidableEq, Repr

/-- Plan attributes (Table 2-4). -/
structure Attributes where
  priority  : Fin 4
  ring      : Fin 4
  binding   : Binding
  overlap   : Overlap
  sealOnEnd : Bool
  deriving DecidableEq, Repr

inductive BusyPolicy where
  | stop
  | retry
  | accept
  deriving DecidableEq, Repr

/-- The function of an ordinary probe transaction (R121), a WRITE with its value. -/
inductive PortFn where
  | read
  | write (value : Value)
  | control
  deriving DecidableEq, Repr

/-- The fields of a port step (Table 2-5). -/
structure PortStep where
  fn       : PortFn
  port     : Fin 8
  sub      : Fin 16
  count    : Nat
  busy     : BusyPolicy
  tolerate : Bool
  deriving DecidableEq, Repr

/-- A step of a plan (R29). -/
inductive PlanStep where
  | port (p : PortStep)
  | stamp
  | notify (code : Byte)
  | wait (duration : Nat)
  deriving DecidableEq, Repr

/-- A plan slot (R26). An EMPTY slot holds the all-zero attributes QUERY-PLAN reports for it (R44). -/
structure Plan where
  state     : PlanState
  runStatus : RunStatus
  held      : Bool
  attrs     : Attributes
  steps     : List PlanStep
  runNumber : Half
  missCount : Nat
  deriving DecidableEq, Repr

/-- An entry of the Run Queue (R59). -/
structure RunRequest where
  plan      : Fin 32
  priority  : Fin 4
  source    : Source
  trigTime  : Time
  queueTime : Time
  deriving DecidableEq, Repr

/-! ## Records (Chapter 1) -/

/-- Why a run failed, or a step faulted (R8, R87). -/
inductive Reason where
  | rejected
  | silent
  | busyLimit
  | portDown
  | subaddrAbsent
  | ringStall
  deriving DecidableEq, Repr

inductive AbortCause where
  | host
  | disarm
  | clear
  deriving DecidableEq, Repr

/-- How a run ended (R88). -/
inductive RunOutcome where
  | done
  | failed (reason : Reason)
  | aborted (cause : AbortCause)
  deriving DecidableEq, Repr

/-- A sample word (R8): DATA with its value, or the BUSY placeholder. -/
inductive Sample where
  | data (value : Value)
  | busy
  deriving DecidableEq, Repr

/-- The body of a record (Table 1-5). A RUN_END with no reason is DONE. -/
inductive RecordBody where
  | runBegin (runNumber : Half) (source : Source) (trigTime : Time)
  | samples (samples : List Sample)
  | stamp
  | runEnd (reason : Option Reason) (remaining missCount samplesWritten : Nat)
  deriving DecidableEq, Repr

/-- A record (R7). -/
structure Record where
  plan : Fin 32
  step : Nat
  time : Time
  body : RecordBody
  deriving DecidableEq, Repr

/-! ## Rings (Chapter 1) -/

inductive Policy where
  | stall
  | discard
  deriving DecidableEq, Repr

/-- Segment states (Table 1-2). READING keeps the state the segment came from (R21): READ or SEALED. -/
inductive SegState where
  | free
  | filling
  | sealed
  | reading (wasRead : Bool)
  | read
  deriving DecidableEq, Repr

inductive SealCause where
  | full
  | host
  | runEnd
  deriving DecidableEq, Repr

/-- A segment descriptor (Table 1-4); its index is its place in the ring. -/
structure Segment where
  state       : SegState
  seqNo       : Word
  wordsUsed   : Nat
  recordCount : Nat
  firstTime   : Time
  lastTime    : Time
  gapBefore   : Bool
  sealCause   : Option SealCause
  deriving DecidableEq, Repr

/-- An entry of a ring's stall list (section 1.6); `timer` is in µs. -/
structure StallEntry where
  engine    : Fin 4
  record    : Record
  sealOnEnd : Bool
  timer     : Nat
  deriving DecidableEq, Repr

/-- A defined ring: its definition (Table 1-1), base block and state (section 1.2). -/
structure Ring where
  count        : Nat
  size         : Nat
  policy       : Policy
  stallLimit   : Nat
  autoRelease  : Bool
  base         : Nat
  segments     : List Segment
  nextSeq      : Word
  discardCount : Nat
  gapPending   : Bool
  /-- Index of the segment most recently opened, or none. -/
  fillPos      : Option Nat
  stallList    : List StallEntry
  deriving DecidableEq, Repr

/-! ## Engines (Chapter 4) -/

/-- What an engine goes on with once its commit is placed or dropped (R78). The number is how many samples the
committed SAMPLES record holds. -/
inductive Resume where
  | runBegin
  | midStep (samples : Nat)
  | stepEnd (samples : Nat)
  | stepFault (samples : Nat) (reason : Reason)
  | stamp
  | runEnd (reason : Option Reason)
  deriving DecidableEq, Repr

/-- Engine states (Table 4-1), each with its timer in µs where it has one. STARTING keeps the time of the take,
STALLED what the engine goes on with. -/
inductive EngineState where
  | idle
  | starting (takeTime : Time)
  | awaitPort
  | transact
  | spacing (left : Nat)
  | waiting (left : Nat)
  | stalled (resume : Resume)
  | ending
  deriving DecidableEq, Repr

/-- The run record (Table 4-2). -/
structure Run where
  plan           : Fin 32
  priority       : Fin 4
  runNumber      : Half
  source         : Source
  trigTime       : Time
  stepIndex      : Nat
  remaining      : Nat
  retry          : Nat
  samplesWritten : Nat
  portLost       : Bool
  abortCause     : Option AbortCause
  builder        : List (Sample × Time)
  deriving DecidableEq, Repr

/-- An engine. `abortTags`: the ABORT-RUN requests answered when it becomes IDLE, in order of admission (R91). -/
structure Engine where
  state     : EngineState
  run       : Option Run
  abortTags : List Byte
  deriving DecidableEq, Repr

/-- A CLEAR-ACQUISITION in progress (R93): its tag, its two counts, and whether its reply has been placed. -/
structure Clear where
  tag     : Byte
  removed : Nat
  aborted : Nat
  placed  : Bool
  deriving DecidableEq, Repr

/-! ## Probe ports (Chapters 5 to 7) -/

inductive PortState where
  | off
  | powering
  | clocking
  | identifying
  | up
  | retraining
  | draining
  | stopping
  | fault
  deriving DecidableEq, Repr

inductive FaultCause where
  | overcurrent
  | noIdentity
  | silent
  | identityChanged
  deriving DecidableEq, Repr

/-- The identity record (R102). -/
structure Identity where
  model    : BitVec 12
  subCount : Nat
  wide     : Bool
  atn      : Bool
  deriving DecidableEq, Repr

/-- Link rates (Table 7-1), Mbit/s. -/
inductive Rate where
  | r1
  | r2
  | r4
  | r8
  deriving DecidableEq, Repr

/-- Word widths (Table 7-1). -/
inductive Width where
  | w16
  | w24
  deriving DecidableEq, Repr

/-- A profile (Table 7-1); timeout and spacing in units of 10 µs. -/
structure Profile where
  rate         : Rate
  timeout      : Nat
  spacing      : Nat
  retryLimit   : Nat
  width        : Width
  signExtend   : Bool
  silenceLimit : Nat
  attention    : Bool
  deriving DecidableEq, Repr

/-- The grant holder of a port, or a requester on its wait list (R126). -/
inductive Requester where
  | engine (e : Fin 4)
  | host
  deriving DecidableEq, Repr

/-- The function of a transaction in flight (R121). -/
inductive TxFn where
  | read
  | write
  | control
  | identify
  deriving DecidableEq, Repr

/-- A transaction in flight (R120). `requester` none is the port itself. `wordLeft`: µs left of the request word;
`left`: µs left of the response timeout, which runs from the last bit of the request word (R123). -/
structure Transaction where
  requester : Option Requester
  fn        : TxFn
  sub       : Fin 16
  data      : Value
  timeout   : Nat
  wordLeft  : Nat
  left      : Nat
  deriving DecidableEq, Repr

/-- A host access at a port (R134), waiting while `waitLeft` is present (R135). -/
structure HostAccess where
  tag      : Byte
  fn       : PortFn
  sub      : Fin 16
  waitLeft : Option Nat
  deriving DecidableEq, Repr

/-- An entry of a port's wait list with its rank: a priority 0 to 3, or 4 for HOST (R126). -/
structure Waiter where
  who  : Requester
  rank : Nat
  deriving DecidableEq, Repr

/-- A probe port (Table 5-1). `supply` is the level of PnPWR, `ocLine` that of PnOC; `quiet` the time left of
the quiet period of R125. -/
structure Port where
  state         : PortState
  phase         : Option Nat
  attempts      : Nat
  faultCause    : Option FaultCause
  identity      : Option Identity
  tally         : Nat
  holder        : Option Requester
  waiters       : List Waiter
  access        : Option HostAccess
  txn           : Option Transaction
  quiet         : Option Nat
  staged        : Profile
  active        : Profile
  commitPending : Bool
  supply        : Bool
  ocLine        : Bool
  deriving DecidableEq, Repr

/-! ## Readout (Chapter 8) -/

/-- A stream record (Table 8-1). -/
structure Stream where
  tag        : Byte
  ring       : Fin 4
  segment    : Nat
  seqNo      : Word
  words      : Nat
  frameCount : Nat
  nextChunk  : Nat
  deriving DecidableEq, Repr

/-! ## Notices (Chapter 9) -/

inductive NoticeKind where
  | restarted
  | segmentSealed
  | runDone
  | runFailed
  | runAborted
  | triggerMissed
  | stepFault
  | ringOverrun
  | portState
  | probeAttention
  | notify
  | overflow
  deriving DecidableEq, Repr

/-- A notice entry (Table 9-1). -/
structure Notice where
  number    : Half
  kind      : NoticeKind
  subject   : Byte
  time      : Time
  argA      : Word
  argB      : Half
  delivered : Bool
  deriving DecidableEq, Repr

inductive NoticeMode where
  | poll
  | push
  deriving DecidableEq, Repr

/-- The notice queue (section 9.1). -/
structure NoticeQueue where
  entries  : List Notice
  nextNo   : Half
  heldLost : Nat
  mode     : NoticeMode
  credits  : Nat
  deriving DecidableEq, Repr

/-! ## Host Link (Chapter 10) -/

/-- The receiver (R189). In FRAME: the bytes after SOF, LEN first, and the gap timer, µs left. -/
inductive Receiver where
  | hunt
  | frame (bytes : List Byte) (gap : Nat)
  deriving DecidableEq, Repr

inductive RejectReason where
  | length
  | crc
  | truncated
  deriving DecidableEq, Repr

/-- A frame reject (R191). -/
structure FrameReject where
  reason : RejectReason
  tag    : Byte
  deriving DecidableEq, Repr

inductive Stage where
  | withOwner
  | placed
  | sending
  deriving DecidableEq, Repr

/-- An entry of the outstanding-request table (R194). -/
structure OutEntry where
  tag   : Byte
  kind  : Byte
  stage : Stage
  deriving DecidableEq, Repr

/-- An entry of the reply list (R193, R195): a refusal or a final reply, `kind` the reply kind. -/
structure Reply where
  tag     : Byte
  kind    : Byte
  body    : List Byte
  refusal : Bool
  deriving DecidableEq, Repr

/-- What the frame being sent is, as far as its end on TXD acts on the Host Link (R198). -/
inductive Sending where
  | other
  | finalReply (tag : Byte)
  deriving DecidableEq, Repr

/-- The transmitter while SENDING: all bytes of the frame, SOF to CRC. -/
structure TxFrame where
  bytes : List Byte
  what  : Sending
  deriving DecidableEq, Repr

inductive ResetCause where
  | pin
  | request
  deriving DecidableEq, Repr

/-- The Host Link (Table 10-1). The refusal queue is the refusals of the reply list (R193). `linkRate`: the
strap value sampled last; `resetCause`: the cause the ANNOUNCE frame carries. -/
structure Link where
  receiver        : Receiver
  rejects         : List FrameReject
  outstanding     : List OutEntry
  replies         : List Reply
  announcePending : Bool
  transmitter     : Option TxFrame
  lastServed      : Option Byte
  sessionOpen     : Bool
  resetPending    : Bool
  linkRate        : BitVec 2
  resetCause      : ResetCause
  deriving DecidableEq, Repr

/-! ## The whole part -/

/-- The state of the 4120, and the queue of the commands that are waiting. -/
structure State where
  /-- RESET is asserted. -/
  inReset   : Bool
  timeBase  : Time
  inputs    : Vector TrigInput 4
  cadences  : Vector Cadence 4
  plans     : Vector Plan 32
  /-- Free steps of the step pool (R28). -/
  poolFree  : Nat
  runQueue  : List RunRequest
  engines   : Vector Engine 4
  clear     : Option Clear
  rings     : Vector (Option Ring) 4
  /-- Capture memory: bytes by byte address, in canonical form. -/
  mem       : List Host.Cell
  ports     : Vector Port 8
  streams   : List Stream
  notices   : NoticeQueue
  link      : Link
  pending   : List Instr
  deriving DecidableEq, Repr

/-! ## Reset values -/

/-- Table 3-1, after device reset. -/
def TrigInput.reset : TrigInput := { enabled := false, edge := .rising, holdoff := 0, timer := none }

/-- Table 3-2, after device reset. -/
def Cadence.reset : Cadence := { enabled := false, period := 10, countdown := none }

/-- The attributes of an EMPTY plan (R44). -/
def Attributes.zero : Attributes :=
  { priority := 0, ring := 0, binding := .unbound, overlap := .miss, sealOnEnd := false }

/-- R46. -/
def Plan.reset : Plan :=
  { state := .empty, runStatus := .idle, held := false, attrs := .zero, steps := [], runNumber := 0#16
    missCount := 0 }

/-- R95. -/
def Engine.reset : Engine := { state := .idle, run := none, abortTags := [] }

/-- Table 7-1, reset values. -/
def Profile.reset : Profile :=
  { rate := .r1, timeout := 20, spacing := 5, retryLimit := 16, width := .w24, signExtend := false
    silenceLimit := 8, attention := false }

/-- Table 5-1, after device reset. `ocLine` is the level of a line outside the part. -/
def Port.reset (ocLine : Bool) : Port :=
  { state := .off, phase := none, attempts := 0, faultCause := none, identity := none, tally := 0
    holder := none, waiters := [], access := none, txn := none, quiet := none
    staged := .reset, active := .reset, commitPending := false, supply := false, ocLine := ocLine }

/-- Table 10-1, after device reset. -/
def Link.reset (rate : BitVec 2) (cause : ResetCause) : Link :=
  { receiver := .hunt, rejects := [], outstanding := [], replies := [], announcePending := true
    transmitter := none, lastServed := none, sessionOpen := false, resetPending := false
    linkRate := rate, resetCause := cause }

/-- The notice queue when a device reset has ended: the RESTARTED entry alone (R186). -/
def NoticeQueue.restarted (cause : ResetCause) : NoticeQueue :=
  { entries := [{ number := 0#16, kind := .restarted
                  subject := match cause with | .pin => 0x00#8 | .request => 0x01#8
                  time := 0#48, argA := 0#32, argB := 0#16, delivered := false }]
    nextNo := 1#16, heldLost := 0, mode := .poll, credits := 0 }

/-- The part right after a device reset by the RESET pin has ended. The straps' value (115,200 bit/s) and the PnOC
levels (not asserted) come from outside the part: DESIGN CHOICE (notes/assumptions/8). -/
def State.reset : State :=
  { inReset := false
    timeBase := 0#48
    inputs := Vector.replicate 4 .reset
    cadences := Vector.replicate 4 .reset
    plans := Vector.replicate 32 .reset
    poolFree := Config.poolSteps
    runQueue := []
    engines := Vector.replicate 4 .reset
    clear := none
    rings := Vector.replicate 4 none
    mem := []
    ports := Vector.replicate 8 (.reset false)
    streams := []
    notices := .restarted .pin
    link := .reset 0#2 .pin
    pending := [] }

end Sys2Proof.Machine
end

