-- ==== Sys2Proof/Machine/Formats.lean ====
section
/-! DEFINITION. Every byte and bit layout the host or a probe sees (section 10.8), and the CRC (R190). -/

namespace Sys2Proof.Machine

/-! ## Bytes -/

/-- `n` as `k` bytes, most significant first (R207). -/
def bytesBE : Nat → Nat → List Byte
  | 0, _ => []
  | k + 1, n => BitVec.ofNat 8 (n / 256 ^ k) :: bytesBE k n

/-- The number that bytes sent most significant first stand for. -/
def natBE (bs : List Byte) : Nat := bs.foldl (fun n b => 256 * n + b.toNat) 0

/-- A one-byte number. -/
def byte (n : Nat) : Byte := BitVec.ofNat 8 n

/-- A flag occupies one byte (R207). -/
def flagByte (b : Bool) : Byte := if b then 0x01#8 else 0x00#8

/-- Argument B of a notice that carries two items: the first is the high byte (Table 9-2, Table 10-17). -/
def pair (hi lo : Byte) : Half := hi ++ lo

/-! ## CRC and frames -/

/-- One shift of R190 step 3. -/
def crcShift (r : Half) : Half :=
  if r.msb then (r <<< 1) ^^^ 0x1021#16 else r <<< 1

/-- One byte into the CRC register (R190 steps 2 and 3). -/
def crcByte (r : Half) (b : Byte) : Half :=
  Nat.repeat crcShift 8 (r ^^^ (b ++ 0#8))

/-- The CRC of R190. -/
def crc (bs : List Byte) : Half := bs.foldl crcByte 0xFFFF#16

/-- Start of frame, A5H (Table 10-10). -/
def sof : Byte := 0xA5#8

/-- The bytes of a frame (Table 10-10). -/
def frameBytes (tag kind : Byte) (body : List Byte) : List Byte :=
  let covered := byte (body.length + 2) :: tag :: kind :: body
  sof :: covered ++ bytesBE 2 (crc covered).toNat

/-! ## Codes -/

/-- Status codes (Table 10-13). -/
inductive Status where
  | ok
  | badTag
  | noSession
  | tagInUse
  | windowFull
  | unknownKind
  | badLength
  | badValue
  | badState
  | inUse
  | noMemory
  | noSpace
  | noRing
  | notFound
  | portDown
  | portBusy
  | subaddrAbsent
  | aborted
  | tooLate
  deriving DecidableEq, Repr

def Status.code : Status → Byte
  | .ok => 0x00#8 | .badTag => 0x01#8 | .noSession => 0x02#8 | .tagInUse => 0x03#8 | .windowFull => 0x04#8
  | .unknownKind => 0x05#8 | .badLength => 0x06#8 | .badValue => 0x10#8 | .badState => 0x11#8 | .inUse => 0x12#8
  | .noMemory => 0x13#8 | .noSpace => 0x14#8 | .noRing => 0x15#8 | .notFound => 0x16#8 | .portDown => 0x17#8
  | .portBusy => 0x18#8 | .subaddrAbsent => 0x19#8 | .aborted => 0x1A#8 | .tooLate => 0x1B#8

/-- Trigger source codes (Table 10-16). -/
def Source.code : Source → Byte
  | .ext n => byte n
  | .cadence n => byte (0x10 + n)
  | .attn n => byte (0x20 + n)
  | .done p => byte (0x40 + p)
  | .host => 0x80#8
  | .held => 0x81#8

/-- Outcome and reason codes (Table 10-16); 00H is DONE. -/
def Reason.code : Reason → Byte
  | .rejected => 0x01#8 | .silent => 0x02#8 | .busyLimit => 0x03#8 | .portDown => 0x04#8
  | .subaddrAbsent => 0x05#8 | .ringStall => 0x06#8

def AbortCause.code : AbortCause → Byte
  | .host => 0x01#8 | .disarm => 0x02#8 | .clear => 0x03#8

def PortState.code : PortState → Byte
  | .off => 0x00#8 | .powering => 0x01#8 | .clocking => 0x02#8 | .identifying => 0x03#8 | .up => 0x04#8
  | .retraining => 0x05#8 | .draining => 0x06#8 | .stopping => 0x07#8 | .fault => 0x08#8

/-- Fault cause codes; absent is 00H. -/
def faultCode : Option FaultCause → Byte
  | none => 0x00#8
  | some .overcurrent => 0x01#8
  | some .noIdentity => 0x02#8
  | some .silent => 0x03#8
  | some .identityChanged => 0x04#8

def SegState.code : SegState → Byte
  | .free => 0x00#8 | .filling => 0x01#8 | .sealed => 0x02#8 | .reading _ => 0x03#8 | .read => 0x04#8

/-- Seal cause codes; absent is 00H. -/
def sealCode : Option SealCause → Byte
  | none => 0x00#8
  | some .full => 0x01#8
  | some .host => 0x02#8
  | some .runEnd => 0x03#8

def ResetCause.code : ResetCause → Byte
  | .pin => 0x00#8 | .request => 0x01#8

def PlanState.code : PlanState → Byte
  | .empty => 0x00#8 | .opened => 0x01#8 | .ready => 0x02#8 | .armed => 0x03#8

def RunStatus.code : RunStatus → Byte
  | .idle => 0x00#8 | .queued => 0x01#8 | .running => 0x02#8

/-- Grant holder codes; none is FFH. -/
def holderCode : Option Requester → Byte
  | some (.engine e) => byte e
  | some .host => 0x04#8
  | none => 0xFF#8

def NoticeKind.code : NoticeKind → Byte
  | .restarted => 0x01#8 | .segmentSealed => 0x02#8 | .runDone => 0x03#8 | .runFailed => 0x04#8
  | .runAborted => 0x05#8 | .triggerMissed => 0x06#8 | .stepFault => 0x07#8 | .ringOverrun => 0x08#8
  | .portState => 0x09#8 | .probeAttention => 0x0A#8 | .notify => 0x0B#8 | .overflow => 0x0C#8

def NoticeMode.code : NoticeMode → Byte
  | .poll => 0x00#8 | .push => 0x01#8

def RejectReason.code : RejectReason → Byte
  | .length => 0x01#8 | .crc => 0x02#8 | .truncated => 0x03#8

def Policy.code : Policy → Byte
  | .stall => 0x00#8 | .discard => 0x01#8

def Overlap.code : Overlap → Byte
  | .miss => 0x00#8 | .hold => 0x01#8

/-- Binding type and number (Table 10-12, OPEN-PLAN). -/
def Binding.codes : Binding → List Byte
  | .unbound => [0x00#8, 0x00#8]
  | .ext n => [0x01#8, byte n]
  | .cadence n => [0x02#8, byte n]
  | .attn n => [0x03#8, byte n]
  | .done p => [0x04#8, byte p]

/-! ## Profiles -/

/-- The rate in Mbit/s, also its code (Table 10-12, SET-PROFILE). -/
def Rate.mbps : Rate → Nat
  | .r1 => 1 | .r2 => 2 | .r4 => 4 | .r8 => 8

def Width.bits : Width → Nat
  | .w16 => 16 | .w24 => 24

/-- The eight profile fields in the order and encoding of the SET-PROFILE body (R207). -/
def Profile.bytes (p : Profile) : List Byte :=
  [byte p.rate.mbps, byte p.timeout, byte p.spacing, byte p.retryLimit, byte p.width.bits, flagByte p.signExtend,
   byte p.silenceLimit, flagByte p.attention]

/-! ## Record words (Table 10-15) -/

/-- A time in two words. -/
def timeWords (t : Time) : List Word :=
  [BitVec.ofNat 32 (t.toNat / 2 ^ 32), BitVec.ofNat 32 t.toNat]

def Sample.word : Sample → Word
  | .data v => 0x00#8 ++ v
  | .busy => 0x01#8 ++ 0#24

def RecordBody.kind : RecordBody → Nat
  | .runBegin .. => 1
  | .samples _ => 2
  | .stamp => 3
  | .runEnd .. => 4

/-- The body words of a record (R8). The failing step index of RUN_END is FFH for DONE. -/
def RecordBody.words (step : Nat) : RecordBody → List Word
  | .runBegin n src t => (n ++ 0#8 ++ src.code) :: timeWords t
  | .samples ss => ss.map Sample.word
  | .stamp => []
  | .runEnd reason remaining misses written =>
    [ 0#16 ++ (match reason with | none => pair 0x00#8 0xFF#8 | some r => pair r.code (byte step)),
      BitVec.ofNat 16 remaining ++ BitVec.ofNat 16 misses,
      BitVec.ofNat 32 written ]

/-- How many words the body takes (Table 1-5). -/
def RecordBody.length : RecordBody → Nat
  | .runBegin .. => 3
  | .samples ss => ss.length
  | .stamp => 0
  | .runEnd .. => 3

/-- The record length counts header, timestamp and body (R7). -/
def Record.length (r : Record) : Nat := 3 + r.body.length

/-- The words of a record, as they are placed in a segment. -/
def Record.words (r : Record) : List Word :=
  BitVec.ofNat 32 (r.body.kind * 2 ^ 29 + r.plan * 2 ^ 24 + r.step * 2 ^ 17 + r.length * 2 ^ 10)
    :: timeWords r.time ++ r.body.words r.step

/-! ## Notice entries and segment descriptors -/

/-- Table 10-17. -/
def Notice.bytes (n : Notice) : List Byte :=
  bytesBE 2 n.number.toNat ++ [n.kind.code, n.subject] ++ bytesBE 6 n.time.toNat ++ bytesBE 4 n.argA.toNat
    ++ bytesBE 2 n.argB.toNat

/-- Table 10-18. -/
def Segment.bytes (i : Nat) (g : Segment) : List Byte :=
  [byte i, g.state.code, sealCode g.sealCause, flagByte g.gapBefore] ++ bytesBE 4 g.seqNo.toNat
    ++ bytesBE 2 g.wordsUsed ++ bytesBE 2 g.recordCount ++ bytesBE 6 g.firstTime.toNat
    ++ bytesBE 6 g.lastTime.toNat

/-! ## Probe-line words (Table 10-19); bit 31 is the first bit on the line -/

/-- Whether a word holds an odd number of ones. -/
def oddOnes (w : Word) : Bool :=
  (List.range 32).foldl (fun odd i => odd ^^ w.getLsbD i) false

def TxFn.code : TxFn → BitVec 2
  | .read => 0#2 | .write => 1#2 | .control => 2#2 | .identify => 3#2

/-- The request word on PnDO (R121, R208): start, function, sub-address, data, and the parity that makes bits 2
to 32 even. -/
def requestWord (fn : TxFn) (sub : Fin 16) (data : Value) : Word :=
  let covered : BitVec 30 := fn.code ++ BitVec.ofNat 4 sub ++ data
  1#1 ++ covered ++ (if oddOnes (covered.zeroExtend 32) then 1#1 else 0#1)

/-- Outcomes of a transaction (R124). -/
inductive TxnOutcome where
  | data
  | busy
  | reject
  | silent
  deriving DecidableEq, Repr

def TxnOutcome.code : TxnOutcome → Byte
  | .data => 0x00#8 | .busy => 0x01#8 | .reject => 0x02#8 | .silent => 0x03#8

/-- The outcome of a received response word, judged in the order of R124; pad bits are not checked (R122). -/
def judge (w : Word) : TxnOutcome :=
  if oddOnes (w &&& 0x7FFFFFFF#32) then .silent
  else match (w.extractLsb' 29 2).toNat with
    | 0 => .data
    | 1 => .busy
    | 2 => .reject
    | _ => .silent

/-- The 24 data bits of a response word. -/
def responseData (w : Word) : Value := w.extractLsb' 5 24

/-- The identity a 24-bit value gives (R209). -/
def identityOf (v : Value) : Identity :=
  { model := v.extractLsb' 12 12
    subCount := (v.extractLsb' 8 4).toNat + 1
    wide := v.getLsbD 7
    atn := v.getLsbD 6 }

/-- The identity in the QUERY-PORT reply after its present flag (R209); zeros when absent (R207). -/
def identityBytes : Option Identity → List Byte
  | none => [0x00#8, 0x00#8, 0x00#8, 0x00#8, 0x00#8, 0x00#8]
  | some d => [0x01#8] ++ bytesBE 2 d.model.toNat ++ [byte d.subCount, flagByte d.wide, flagByte d.atn]

end Sys2Proof.Machine
end

