-- ==== Sys2Proof/Machine/Memory.lean ====
section
/-! DEFINITION. Capture memory (R1): bytes by address, in one canonical form. Word w of capture memory is the bytes
4w to 4w + 3, most significant first (DESIGN CHOICE, notes/assumptions/9: the spec numbers words, and the host sees
bytes only as a data frame sends them). -/

namespace Sys2Proof.Machine

/-- Reading a byte: what the list holds, else what an unlisted address reads as. -/
def Memory.readByte : List Host.Cell → Nat → Byte
  | [], _ => Config.unlistedByte
  | (b, v) :: m, a => if a = b then v else Memory.readByte m a

/-- Writing a byte, keeping addresses rising and no entry equal to the unlisted value. -/
def Memory.writeByte : List Host.Cell → Nat → Byte → List Host.Cell
  | [], a, v => if v = Config.unlistedByte then [] else [(a, v)]
  | (b, w) :: m, a, v =>
    if a < b then (if v = Config.unlistedByte then (b, w) :: m else (a, v) :: (b, w) :: m)
    else if a = b then (if v = Config.unlistedByte then m else (a, v) :: m)
    else (b, w) :: Memory.writeByte m a v

/-- The canonical form: addresses strictly rising from `lo` on, and no entry that reads as unlisted. -/
def Memory.wfFrom : Nat → List Host.Cell → Bool
  | _, [] => true
  | lo, (a, v) :: m => decide (lo ≤ a) && v != Config.unlistedByte && Memory.wfFrom (a + 1) m

/-- The canonical form of a memory. -/
def Memory.wf (m : List Host.Cell) : Bool := Memory.wfFrom 0 m

/-- Writing bytes at rising addresses. -/
def Memory.writeBytes : List Host.Cell → Nat → List Byte → List Host.Cell
  | m, _, [] => m
  | m, a, v :: vs => Memory.writeBytes (Memory.writeByte m a v) (a + 1) vs

/-- Word `w` of capture memory. -/
def Memory.readWord (m : List Host.Cell) (w : Nat) : Word :=
  BitVec.ofNat 32 (natBE [readByte m (4 * w), readByte m (4 * w + 1), readByte m (4 * w + 2), readByte m (4 * w + 3)])

/-- Writing words from word `w` on. -/
def Memory.writeWords : List Host.Cell → Nat → List Word → List Host.Cell
  | m, _, [] => m
  | m, w, x :: xs => Memory.writeWords (writeBytes m (4 * w) (bytesBE 4 x.toNat)) (w + 1) xs

/-- Reading `n` words from word `w` on. -/
def Memory.readWords (m : List Host.Cell) : Nat → Nat → List Word
  | _, 0 => []
  | w, n + 1 => readWord m w :: readWords m (w + 1) n

end Sys2Proof.Machine
end

