-- ==== Sys2Proof/Machine/Ops.lean ====
section
/-! DEFINITION. The named operations every block shares: reading and updating one unit of a block, posting a notice
(Chapter 9), and placing a reply (R193 to R195). -/

namespace Sys2Proof.Machine

/-! ## One unit of a block -/

def State.plan (s : State) (p : Fin 32) : Plan := s.plans[p]
def State.engine (s : State) (e : Fin 4) : Engine := s.engines[e]
def State.ring (s : State) (r : Fin 4) : Option Ring := s.rings[r]
def State.port (s : State) (p : Fin 8) : Port := s.ports[p]
def State.input (s : State) (n : Fin 4) : TrigInput := s.inputs[n]
def State.cadence (s : State) (n : Fin 4) : Cadence := s.cadences[n]

def State.setPlan (s : State) (p : Fin 32) (x : Plan) : State := { s with plans := s.plans.set p x }
def State.setEngine (s : State) (e : Fin 4) (x : Engine) : State := { s with engines := s.engines.set e x }
def State.setRing (s : State) (r : Fin 4) (x : Option Ring) : State := { s with rings := s.rings.set r x }
def State.setPort (s : State) (p : Fin 8) (x : Port) : State := { s with ports := s.ports.set p x }
def State.setInput (s : State) (n : Fin 4) (x : TrigInput) : State := { s with inputs := s.inputs.set n x }
def State.setCadence (s : State) (n : Fin 4) (x : Cadence) : State := { s with cadences := s.cadences.set n x }

/-- The engine's state, its run kept. -/
def State.setEngineState (s : State) (e : Fin 4) (x : EngineState) : State :=
  s.setEngine e { s.engine e with state := x }

/-- The engine's run record, its state kept. -/
def State.setRun (s : State) (e : Fin 4) (r : Run) : State :=
  s.setEngine e { s.engine e with run := some r }

/-- The engine executing a run of plan `p`, if one is (R44, R89). -/
def State.engineOf (s : State) (p : Fin 32) : Option (Fin 4) :=
  (List.finRange 4).find? fun e => (s.engine e).run.any fun r => r.plan == p

/-- The port whose grant the engine holds: at most one (R65). -/
def State.heldPort (s : State) (e : Fin 4) : Option (Fin 8) :=
  (List.finRange 8).find? fun p => (s.port p).holder == some (.engine e)

/-- The lowest-numbered IDLE engine (R60). -/
def State.idleEngine (s : State) : Option (Fin 4) :=
  (List.finRange 4).find? fun e => (s.engine e).state == .idle

/-- Every engine is IDLE (R93 step 4). -/
def State.allIdle (s : State) : Bool :=
  (List.finRange 4).all fun e => (s.engine e).state == .idle

/-! ## The notice queue -/

/-- Appending an entry (R169). -/
def NoticeQueue.append (q : NoticeQueue) (kind : NoticeKind) (subject : Byte) (now : Time) (a : Word) (b : Half) :
    NoticeQueue :=
  { q with
    entries := q.entries ++ [{ number := q.nextNo, kind, subject, time := now, argA := a, argB := b, delivered := false }]
    nextNo := q.nextNo + 1 }

/-- One more loss in the lost count of a marker, saturating at 65,535 (R173). -/
def Notice.countLoss (n : Notice) : Notice :=
  if n.argB = 0xFFFF#16 then n else { n with argB := n.argB + 1 }

/-- A loss that finds a full queue (R173): counted in the undelivered marker, else in the held lost count. -/
def NoticeQueue.lose (q : NoticeQueue) : NoticeQueue :=
  match q.entries.getLast? with
  | some m =>
    if m.delivered then { q with heldLost := min (q.heldLost + 1) Config.max32 }
    else { q with entries := q.entries.dropLast ++ [m.countLoss] }
  | none => q

/-- A posting (R170 to R173). -/
def NoticeQueue.post (q : NoticeQueue) (kind : NoticeKind) (subject : Byte) (now : Time) (a : Word) (b : Half) :
    NoticeQueue :=
  if q.entries.length < Config.noticePlaces - 1 then q.append kind subject now a b
  else if q.entries.length = Config.noticePlaces - 1 then q.append .overflow 0x00#8 now 0#32 1#16
  else q.lose

/-- Entries not yet delivered, oldest first. -/
def NoticeQueue.undelivered (q : NoticeQueue) : List Notice := q.entries.filter fun n => !n.delivered

/-- Marking the `n` oldest undelivered entries delivered (R179, R180). -/
def markDelivered : Nat → List Notice → List Notice
  | 0, es => es
  | _, [] => []
  | n + 1, e :: es =>
    if e.delivered then e :: markDelivered (n + 1) es else { e with delivered := true } :: markDelivered n es

/-- The `n` oldest undelivered entries as handed to the host, and the queue with them marked. -/
def NoticeQueue.deliver (q : NoticeQueue) (n : Nat) : List Notice × NoticeQueue :=
  (q.undelivered.take n, { q with entries := markDelivered n q.entries })

/-- Every delivered mark cleared (R183, R185). -/
def NoticeQueue.clearMarks (q : NoticeQueue) : NoticeQueue :=
  { q with entries := q.entries.map fun n => { n with delivered := false } }

/-- A notice frame is on offer (R178). -/
def NoticeQueue.offering (q : NoticeQueue) : Bool :=
  q.mode == .push && decide (0 < q.credits) && !q.undelivered.isEmpty

/-- The session effects (R185). -/
def NoticeQueue.session (q : NoticeQueue) : NoticeQueue :=
  { q.clearMarks with mode := .poll, credits := 0 }

/-- A posting by a block: it takes the time base value as its timestamp. -/
def State.post (s : State) (kind : NoticeKind) (subject : Byte) (a : Word) (b : Half) : State :=
  { s with notices := s.notices.post kind subject s.timeBase a b }

/-! ## Replies -/

/-- The reply kind of a request kind (R195). -/
def replyKind (kind : Byte) : Byte := kind + 0x80#8

/-- Placing a final reply: at the end of the reply list, its outstanding entry PLACED (R194, R195). -/
def State.placeReply (s : State) (tag kind : Byte) (body : List Byte) : State :=
  { s with link := { s.link with
      replies := s.link.replies ++ [{ tag, kind := replyKind kind, body, refusal := false }]
      outstanding := s.link.outstanding.map fun o => if o.tag = tag then { o with stage := .placed } else o } }

/-- A final reply with status OK and its fields (R195). -/
def State.replyOk (s : State) (tag kind : Byte) (fields : List Byte) : State :=
  s.placeReply tag kind (Status.ok.code :: fields)

/-- A final reply with another status and its detail byte (R195). -/
def State.replyNot (s : State) (tag kind : Byte) (st : Status) (detail : Byte := 0x00#8) : State :=
  s.placeReply tag kind [st.code, detail]

end Sys2Proof.Machine
end

