-- ==== Sys2Proof/Machine/Operands.lean ====
section
/-! DEFINITION. Reading the body fields of a request: each answers none where the field is outside its range, which
the owner then answers BAD_VALUE (R207). -/

namespace Sys2Proof.Machine

/-- A number below `n`. -/
def number? (n : Nat) (b : Byte) : Option (Fin n) := if h : b.toNat < n then some ⟨b.toNat, h⟩ else none

/-- A flag or two-way choice: 0 or 1. -/
def flag? (b : Byte) : Option Bool :=
  match b.toNat with
  | 0 => some false
  | 1 => some true
  | _ => none

/-- A count from `lo` to `hi`. -/
def range? (lo hi : Nat) (n : Nat) : Option Nat := if lo ≤ n ∧ n ≤ hi then some n else none

/-- Policy: 0 STALL, 1 DISCARD. -/
def policy? (b : Byte) : Option Policy := (flag? b).map fun d => if d then .discard else .stall

/-- Overlap policy: 0 MISS, 1 HOLD. -/
def overlap? (b : Byte) : Option Overlap := (flag? b).map fun h => if h then .hold else .miss

/-- Edge: 0 RISING, 1 FALLING. -/
def edge? (b : Byte) : Option Edge := (flag? b).map fun f => if f then .falling else .rising

/-- Notice mode: 0 POLL, 1 PUSH. -/
def mode? (b : Byte) : Option NoticeMode := (flag? b).map fun p => if p then .push else .poll

/-- Binding type and number; the number is ignored for NONE (R207). -/
def binding? (type num : Byte) : Option Binding :=
  match type.toNat with
  | 0 => some .unbound
  | 1 => (number? 4 num).map .ext
  | 2 => (number? 4 num).map .cadence
  | 3 => (number? 8 num).map .attn
  | 4 => (number? 32 num).map .done
  | _ => none

/-- The five attributes of OPEN-PLAN (Table 2-4). -/
def attributes? (priority ring bindType bindNumber overlap sealOnEnd : Byte) : Option Attributes := do
  let priority ← number? 4 priority
  let ring ← number? 4 ring
  let binding ← binding? bindType bindNumber
  let overlap ← overlap? overlap
  let sealOnEnd ← flag? sealOnEnd
  pure { priority, ring, binding, overlap, sealOnEnd }

/-- Function of a host access: 0 READ, 1 WRITE with the value, 2 CONTROL (R134). -/
def portFn? (fn : Byte) (value : Value) : Option PortFn :=
  match fn.toNat with
  | 0 => some .read
  | 1 => some (.write value)
  | 2 => some .control
  | _ => none

/-- Busy policy: bits 5 and 4 of byte 2 of an encoded step (Table 10-14). -/
def busyPolicy? (flags : Byte) : Option BusyPolicy :=
  match (flags.extractLsb' 4 2).toNat with
  | 0 => some .stop
  | 1 => some .retry
  | 2 => some .accept
  | _ => none

/-- The port fields of an encoded READ, WRITE or CONTROL step. -/
def encodedPortStep? (x : EncodedStep) (fn : PortFn) : Option PlanStep := do
  let port ← number? 8 x.port
  let busy ← busyPolicy? x.flags
  let count ← range? 1 65535 x.count.toNat
  pure (.port { fn, port, sub := (x.flags.extractLsb' 0 4).toFin, count, busy, tolerate := x.flags.getLsbD 6 })

/-- The step an encoded step stands for; none where it is invalid (R29). Fields absent for its kind are ignored. -/
def encodedStep? (x : EncodedStep) : Option PlanStep :=
  match x.kind.toNat with
  | 0 => encodedPortStep? x .read
  | 1 => encodedPortStep? x (.write x.value)
  | 2 => encodedPortStep? x .control
  | 3 => some .stamp
  | 4 => (range? 0 255 x.value.toNat).map fun c => .notify (byte c)
  | 5 => (range? 1 1000000 x.value.toNat).map .wait
  | _ => none

/-- The steps of an APPEND-STEPS, or the position of the first invalid one (R32). -/
def steps? : Nat → List EncodedStep → Except Nat (List PlanStep)
  | _, [] => .ok []
  | i, x :: xs =>
    match encodedStep? x with
    | none => .error i
    | some st => (steps? (i + 1) xs).map (st :: ·)

/-- Rate code: 1, 2, 4 or 8 (R141). -/
def rate? (b : Byte) : Option Rate :=
  match b.toNat with
  | 1 => some .r1
  | 2 => some .r2
  | 4 => some .r4
  | 8 => some .r8
  | _ => none

/-- Word width: 16 or 24 (R141). -/
def width? (b : Byte) : Option Width :=
  match b.toNat with
  | 16 => some .w16
  | 24 => some .w24
  | _ => none

/-- The eight profile fields of a SET-PROFILE body, in order, each as a change to a profile or none where its value
is outside its range (R141). -/
def profileFields (rate timeout spacing retryLimit width signExtend silenceLimit attention : Byte) :
    List (Profile → Option Profile) :=
  [ fun p => (rate? rate).map fun x => { p with rate := x },
    fun p => (range? 1 255 timeout.toNat).map fun x => { p with timeout := x },
    fun p => (range? 1 255 spacing.toNat).map fun x => { p with spacing := x },
    fun p => (range? 1 255 retryLimit.toNat).map fun x => { p with retryLimit := x },
    fun p => (width? width).map fun x => { p with width := x },
    fun p => (flag? signExtend).map fun x => { p with signExtend := x },
    fun p => some { p with silenceLimit := silenceLimit.toNat },
    fun p => (flag? attention).map fun x => { p with attention := x } ]

/-- Writing the present fields in order, from bit `i` of the mask on; the error is the bit number plus 1 of the first
field out of range (R207). -/
def writeFields (present : Byte) : Nat → List (Profile → Option Profile) → Profile → Except Nat Profile
  | _, [], p => .ok p
  | i, f :: fs, p =>
    if present.getLsbD i then
      match f p with
      | none => .error (i + 1)
      | some p' => writeFields present (i + 1) fs p'
    else writeFields present (i + 1) fs p

end Sys2Proof.Machine
end

