-- ==== Sys2Proof/Machine/RingOps.lean ====
section
/-! DEFINITION. The Ring Manager's operations (Chapter 1): the block pool, placement, sealing, the stall list. -/

namespace Sys2Proof.Machine

/-! ## The block pool -/

/-- How many blocks a ring holds (R3). -/
def Ring.blockCount (r : Ring) : Nat := r.count * r.size

/-- Block `b` is held by a defined ring (R1). The pool is this view of the rings' ranges. -/
def State.blockHeld (s : State) (b : Nat) : Bool :=
  (List.finRange 4).any fun i => (s.ring i).any fun r => decide (r.base ≤ b) && decide (b < r.base + r.blockCount)

/-- Blocks `b` to `b + n - 1` overlap no defined ring's range. -/
def State.rangeFree (s : State) (b n : Nat) : Bool :=
  (List.finRange 4).all fun i =>
    (s.ring i).all fun r => decide (b + n ≤ r.base) || decide (r.base + r.blockCount ≤ b)

/-- First fit (R4): the lowest block from which `n` blocks are all free. -/
def State.firstFit (s : State) (n : Nat) : Option Nat :=
  if n ≤ Config.blocks then (List.range (Config.blocks - n + 1)).find? fun b => s.rangeFree b n else none

/-! ## Segments -/

/-- The descriptor of a FREE segment (R6). -/
def Segment.empty : Segment :=
  { state := .free, seqNo := 0#32, wordsUsed := 0, recordCount := 0, firstTime := 0#48, lastTime := 0#48
    gapBefore := false, sealCause := none }

/-- Segment `i` of the ring. -/
def Ring.seg (r : Ring) (i : Nat) : Segment := r.segments.getD i .empty

def Ring.setSeg (r : Ring) (i : Nat) (g : Segment) : Ring := { r with segments := r.segments.set i g }

/-- Words a segment holds. -/
def Ring.segWords (r : Ring) : Nat := r.size * Config.blockWords

/-- The word of capture memory where segment `i` begins (R4). -/
def Ring.segBase (r : Ring) (i : Nat) : Nat := (r.base + i * r.size) * Config.blockWords

/-- The ring's FILLING segment, if it has one: the one at the filling position (R10). -/
def Ring.filling (r : Ring) : Option Nat := r.fillPos.filter fun i => (r.seg i).state == .filling

/-- The awaited segment (R10). -/
def Ring.awaited (r : Ring) : Nat :=
  match r.fillPos with
  | none => 0
  | some i => (i + 1) % r.count

/-- A segment that carries a sequence number: SEALED, READING or READ (R20). -/
def SegState.numbered : SegState → Bool
  | .sealed | .reading _ | .read => true
  | .free | .filling => false

/-- The segment that carries a sequence number (R20, R153). -/
def Ring.find (r : Ring) (n : Word) : Option Nat :=
  (List.range r.count).find? fun i => (r.seg i).state.numbered && (r.seg i).seqNo == n

/-- How many seals ago a sequence number was given out, counting modulo 2^32: the oldest has the greatest age
(R11). -/
def Ring.age (r : Ring) (n : Word) : Nat := (r.nextSeq - n).toNat

/-- The SEALED segment with the oldest sequence number (R153). -/
def Ring.oldestSealed (r : Ring) : Option Nat :=
  ((List.range r.count).filter fun i => (r.seg i).state == .sealed).foldl
    (fun best i =>
      match best with
      | none => some i
      | some j => if r.age (r.seg j).seqNo < r.age (r.seg i).seqNo then some i else some j) none

/-- How many segments are in a state that `f` picks. -/
def Ring.countState (r : Ring) (f : SegState → Bool) : Nat := (r.segments.filter fun g => f g.state).length

/-! ## Opening, appending, sealing -/

/-- Opening the awaited segment (R10). -/
def Ring.openAwaited (r : Ring) : Ring :=
  { r.setSeg r.awaited { r.seg r.awaited with state := .filling } with fillPos := some r.awaited }

/-- The descriptor after a record is appended (R9 step 1). -/
def Segment.appended (g : Segment) (rec : Record) : Segment :=
  { g with
    wordsUsed := g.wordsUsed + rec.length
    recordCount := g.recordCount + 1
    firstTime := if g.recordCount = 0 then rec.time else g.firstTime
    lastTime := rec.time }

/-- Appending a record to segment `i`: its words after those used, and the descriptor (R7, R9). -/
def State.appendRecord (s : State) (k : Fin 4) (r : Ring) (i : Nat) (rec : Record) : State :=
  { s.setRing k (some (r.setSeg i ((r.seg i).appended rec))) with
    mem := Memory.writeWords s.mem (r.segBase i + (r.seg i).wordsUsed) rec.words }

/-- The ring after the seal of segment `i` (R11). -/
def Ring.sealed (r : Ring) (i : Nat) (cause : SealCause) : Ring :=
  { r.setSeg i { r.seg i with
      state := .sealed, seqNo := r.nextSeq, sealCause := some cause, gapBefore := r.gapPending } with
    nextSeq := r.nextSeq + 1
    gapPending := false }

/-- Sealing segment `i`, with its notice (R11). -/
def State.sealSegment (s : State) (k : Fin 4) (r : Ring) (i : Nat) (cause : SealCause) : State :=
  (s.setRing k (some (r.sealed i cause))).post .segmentSealed (byte k) r.nextSeq
    (BitVec.ofNat 16 (r.seg i).wordsUsed)

/-! ## Placement -/

/-- R9 step 2: a FILLING segment in which the record does not fit is sealed FULL. -/
def State.sealIfFull (s : State) (k : Fin 4) (rec : Record) : State :=
  match s.ring k with
  | none => s
  | some r =>
    match r.filling with
    | none => s
    | some i => if (r.seg i).wordsUsed + rec.length ≤ r.segWords then s else s.sealSegment k r i .full

/-- R9 step 3: with no FILLING segment, the awaited segment is opened if it is FREE. -/
def State.openIfNeeded (s : State) (k : Fin 4) : State :=
  match s.ring k with
  | none => s
  | some r =>
    match r.filling with
    | some _ => s
    | none => if (r.seg r.awaited).state = .free then s.setRing k (some r.openAwaited) else s

/-- The record appended to the FILLING segment, and that segment sealed at a RUN_END with the seal-on-end indication
(R9 step 1, R19). -/
def State.appendFilling (s : State) (k : Fin 4) (rec : Record) (sealOnEnd : Bool) : State × Bool :=
  match s.ring k with
  | none => (s, false)
  | some r =>
    match r.filling with
    | none => (s, false)
    | some i =>
      let s1 := s.appendRecord k r i rec
      (if sealOnEnd then s1.sealSegment k (r.setSeg i ((r.seg i).appended rec)) i .runEnd else s1, true)

/-- Placing a record by R9 steps 1 to 3; the Bool says whether it was placed. -/
def State.place (s : State) (k : Fin 4) (rec : Record) (sealOnEnd : Bool) : State × Bool :=
  ((s.sealIfFull k rec).openIfNeeded k).appendFilling k rec sealOnEnd

/-- How a commit ends for the committing engine (R12). -/
inductive CommitEnd where
  | placed
  | dropped
  | stalled
  deriving DecidableEq, Repr

/-- Dropping a record under DISCARD (R17). -/
def State.drop (s : State) (k : Fin 4) (r : Ring) : State :=
  let n := min (r.discardCount + 1) Config.max32
  let s1 := s.setRing k (some { r with discardCount := n, gapPending := true })
  if r.gapPending then s1 else s1.post .ringOverrun (byte k) (BitVec.ofNat 32 n) 0#16

/-- A record commit at ring `k` by engine `e` (R9, R12, R13, R17). -/
def State.commit (s : State) (k : Fin 4) (e : Fin 4) (rec : Record) (sealOnEnd : Bool) : State × CommitEnd :=
  let (s1, placed) := s.place k rec sealOnEnd
  if placed then (s1, .placed)
  else
    match s1.ring k with
    | none => (s1, .dropped)
    | some r =>
      match r.policy with
      | .discard => (s1.drop k r, .dropped)
      | .stall =>
        (s1.setRing k (some { r with
          stallList := r.stallList ++
            [{ engine := e, record := rec, sealOnEnd := sealOnEnd, timer := r.stallLimit * 1000 }] }), .stalled)

/-! ## The stall list -/

/-- Placing stalled records in list order while they find room (R14): the state, the entries left, and the engines
whose records were placed. -/
def State.placeStalled (k : Fin 4) : List StallEntry → State → State × List StallEntry × List (Fin 4)
  | [], s => (s, [], [])
  | x :: xs, s =>
    let (s1, placed) := s.place k x.record x.sealOnEnd
    if placed then
      let (s2, left, es) := State.placeStalled k xs s1
      (s2, left, x.engine :: es)
    else (s1, x :: xs, [])

/-- The wake of ring `k` (R14): acts only when the stall list is not empty and the awaited segment is FREE. -/
def State.wakeRing (s : State) (k : Fin 4) : State × List (Fin 4) :=
  match s.ring k with
  | none => (s, [])
  | some r =>
    if r.stallList.isEmpty || (r.seg r.awaited).state != .free then (s, [])
    else
      let (s1, left, es) := State.placeStalled k r.stallList s
      match s1.ring k with
      | none => (s1, es)
      | some r1 => (s1.setRing k (some { r1 with stallList := left }), es)

/-- The ring with engine `e` gone from its stall list, its record with it (R15, R16). -/
def Ring.removeStalled (r : Ring) (e : Fin 4) : Ring :=
  { r with stallList := r.stallList.filter fun x => x.engine != e }

/-- Engine `e` leaves every stall list: it is on one at most (R12). -/
def State.leaveStall (s : State) (e : Fin 4) : State :=
  { s with rings := s.rings.map fun o => o.map fun r => r.removeStalled e }

/-! ## Segments changing hands (R20, R21) -/

/-- Segment `i` of ring `k` becomes FREE with its descriptor reset (R6). -/
def State.freeSegment (s : State) (k : Fin 4) (r : Ring) (i : Nat) : State :=
  s.setRing k (some (r.setSeg i .empty))

/-- The state a READING segment came from (R21). -/
def SegState.beforeRead : SegState → SegState
  | .reading true => .read
  | .reading false => .sealed
  | st => st

/-- A stream's segment returns to the state recorded at the claim (R21). -/
def State.unclaim (s : State) (k : Fin 4) (i : Nat) : State :=
  match s.ring k with
  | none => s
  | some r => s.setRing k (some (r.setSeg i { r.seg i with state := (r.seg i).state.beforeRead }))

/-- The ring emptied by an acquisition clear (R24). -/
def Ring.cleared (r : Ring) : Ring :=
  { r with
    segments := r.segments.map fun _ => .empty
    discardCount := 0
    gapPending := false
    fillPos := none }

end Sys2Proof.Machine
end

