-- ==== Sys2Proof/Machine/PortOps.lean ====
section
/-! DEFINITION. A probe port's own operations: transactions (R120 to R125), the arbiter's wait list (R126 to R132),
the profile copy (R144), the identify sequence (R99 to R104) and powering down (R105, R106). -/

namespace Sys2Proof.Machine

/-! ## Transactions -/

/-- µs one probe-line word takes at a rate (section 6.1). -/
def Rate.wordTime (r : Rate) : Nat := 32 / r.mbps

/-- A transaction put in flight under the active profile (R71, R101, R121). -/
def Port.startTxn (p : Port) (who : Option Requester) (fn : TxFn) (sub : Fin 16) (data : Value) : Port :=
  { p with txn := some { requester := who, fn, sub, data, timeout := p.active.timeout * 10
                         wordLeft := p.active.rate.wordTime, left := p.active.timeout * 10 } }

/-- An ordinary transaction for the grant holder: a READ and a CONTROL carry data 0 (R121). -/
def Port.startOrdinary (p : Port) (who : Requester) (fn : PortFn) (sub : Fin 16) : Port :=
  match fn with
  | .read => p.startTxn (some who) .read sub 0#24
  | .write v => p.startTxn (some who) .write sub v
  | .control => p.startTxn (some who) .control sub 0#24

/-- Abandoning a transaction in flight for a rate change: the quiet period lasts until its timeout would have
expired (R125, R148). A request word that is still going out is cut on PnDO at once, which R104, R121 and R125 leave open:
DESIGN CHOICE (notes/assumptions/30). -/
def Port.abandonQuiet (p : Port) : Port :=
  match p.txn with
  | none => p
  | some t => { p with txn := none, quiet := some (t.wordLeft + t.left) }

/-- The effective word width (R116). -/
def Port.effectiveWidth (p : Port) : Width :=
  if p.active.width == .w24 && p.identity.any (·.wide) then .w24 else .w16

/-- Shaping a returned value to the effective width (R72, R136). -/
def Port.shape (p : Port) (v : Value) : Value :=
  match p.effectiveWidth with
  | .w24 => v
  | .w16 => if p.active.signExtend then (v.truncate 16).signExtend 24 else (v.truncate 16).zeroExtend 24

/-- The silence tally after the outcome of an ordinary transaction (R111). -/
def Port.tallied (p : Port) (o : TxnOutcome) : Port :=
  { p with tally := if o = .silent then min (p.tally + 1) Config.maxTally else 0 }

/-- The tally has reached the silence limit (R112); a limit of 0 is none. -/
def Port.silenceReached (p : Port) : Bool :=
  decide (0 < p.active.silenceLimit) && decide (p.active.silenceLimit ≤ p.tally)

/-! ## The arbiter -/

/-- How many sub-addresses the probe serves; a port without identity grants no one (R70). -/
def Port.subCount (p : Port) : Nat :=
  match p.identity with
  | none => 0
  | some d => d.subCount

/-- Joining the wait list: behind every entry that ranks above or equals, ahead of every entry that ranks below
(R128). -/
def joinWaiters (w : Waiter) : List Waiter → List Waiter
  | [] => [w]
  | x :: xs => if w.rank ≤ x.rank then x :: joinWaiters w xs else w :: x :: xs

def Port.join (p : Port) (w : Waiter) : Port := { p with waiters := joinWaiters w p.waiters }

/-- Leaving the wait list; the entries behind close up (R132). -/
def Port.leave (p : Port) (who : Requester) : Port :=
  { p with waiters := p.waiters.filter fun w => w.who != who }

/-- The answer to a request for the grant (R127). -/
inductive GrantAnswer where
  | granted
  | wait
  | portDown
  deriving DecidableEq, Repr

def Port.answer (p : Port) : GrantAnswer :=
  match p.state with
  | .up => if p.holder.isNone then .granted else .wait
  | .retraining => .wait
  | .off | .powering | .clocking | .identifying | .draining | .stopping | .fault => .portDown

/-! ## Identification and retraining -/

/-- One identify attempt, or, in a quiet period, an attempt that falls due when it ends (R101, R125). -/
def Port.attempt (p : Port) : Port :=
  if p.quiet.isSome then { p with phase := none }
  else { p.startTxn none .identify 0 0#24 with phase := none, attempts := p.attempts + 1 }

/-- An identify attempt is due and waits for the quiet period (R125). -/
def Port.attemptDue (p : Port) : Bool :=
  (p.state == .identifying || p.state == .retraining) && p.phase.isNone && p.txn.isNone

/-- Entry to POWERING (R97, R99). -/
def Port.enterPowering (p : Port) : Port :=
  { p with state := .powering, supply := true, phase := some Config.powerSettle, tally := 0 }

/-- Entry to CLOCKING (R100). -/
def Port.enterClocking (p : Port) : Port :=
  { p with state := .clocking, phase := some Config.clockSettle }

/-- Entry to RETRAINING from UP (R103). -/
def Port.enterRetraining (p : Port) : Port :=
  { p with state := .retraining, tally := 0, attempts := 0, phase := some Config.clockSettle }

/-- Entry to UP with an identity (R101, R103). -/
def Port.enterUp (p : Port) (d : Identity) : Port :=
  { p with state := .up, identity := some d, attempts := 0, phase := none }

/-! ## The profile copy -/

/-- What a copy that changed the rate does to the sequence (R104, R147, Table 7-3). -/
def Port.rateChanged (p : Port) : Port :=
  match p.state with
  | .clocking => { p with phase := some Config.clockSettle }
  | .identifying => { p.abandonQuiet with attempts := 0, state := .clocking, phase := some Config.clockSettle }
  | .up => p.enterRetraining
  | .retraining => { p.abandonQuiet with attempts := 0, phase := some Config.clockSettle }
  | .off | .powering | .draining | .stopping | .fault => p

/-- The copy of the staged profile to the active one, with its effect on the sequence (R144). -/
def Port.copy (p : Port) : Port :=
  let p1 := { p with active := p.staged, commitPending := false }
  if p.staged.rate = p.active.rate then p1 else p1.rateChanged

/-- A pending commit completed (R105, R108, R129). -/
def Port.copyIfPending (p : Port) : Port := if p.commitPending then p.copy else p

/-! ## Powering down -/

/-- Entry to STOPPING: the clock stops, and with it any IDENTIFY transaction and quiet period (R98, R106, R125). -/
def Port.enterStopping (p : Port) : Port :=
  { p with state := .stopping, phase := some Config.stopClock, attempts := 0, txn := none, quiet := none }

/-- Entry to OFF (R106, R110). -/
def Port.enterOff (p : Port) : Port :=
  { p with state := .off, phase := none, attempts := 0, faultCause := none, identity := none, supply := false }

/-- Entry to FAULT, steps 1 and 2 of R108, with what was in flight gone. -/
def Port.enterFault (p : Port) (cause : FaultCause) : Port :=
  { p with state := .fault, supply := false, phase := none, attempts := 0, txn := none, quiet := none
           faultCause := some cause }

/-- The grant withdrawn and the wait list emptied (R131). -/
def Port.vacate (p : Port) : Port := { p with holder := none, waiters := [], access := none }

end Sys2Proof.Machine
end

