-- ==== Sys2Proof/Machine/Acts.lean ====
section
/-! DEFINITION. What comes about within one event: internal actions, each taken whole, run from a list until none is
left. A plan receives its trigger arrivals (Chapter 2), an engine carries on with its run (Chapter 4), a port gives,
takes back and answers grants (Chapters 5 and 6). -/

namespace Sys2Proof.Machine

/-- An internal action waiting to be taken within the present event. -/
inductive Act where
  /-- A trigger arrival at a plan (R37). -/
  | arrive (p : Fin 32) (source : Source) (time : Time)
  /-- An engine in STARTING commits its RUN_BEGIN (R67). -/
  | commitBegin (e : Fin 4)
  /-- The step at the run's step index begins (R68). -/
  | step (e : Fin 4)
  /-- A step ended without stopping the run (R68). -/
  | next (e : Fin 4)
  /-- The engine has been given the grant (R70). -/
  | granted (e : Fin 4)
  /-- The engine's commit was placed or dropped (R78). -/
  | resume (e : Fin 4) (r : Resume)
  /-- The port step has a fault (R79). A STEP_FAULT stands before what the builder's commit posts, which is the model's
  choice where R112 does not say it (notes/assumptions/29). -/
  | faultStep (e : Fin 4) (reason : Reason)
  /-- The faulted step's builder is committed (R79). -/
  | commitFault (e : Fin 4) (reason : Reason)
  /-- A waiting engine is answered PORT_DOWN (R69). -/
  | portDown (e : Fin 4)
  /-- The grant has been withdrawn from the engine (R75). -/
  | withdrawn (e : Fin 4)
  /-- The engine releases the grant, if it holds one (R129). -/
  | release (e : Fin 4)
  /-- The grant of a port is released (R129). -/
  | releasePort (p : Fin 8)
  /-- The host access of a port has been given the grant (R136). -/
  | hostGranted (p : Fin 8)
  /-- A host access is answered PORT_DOWN (R131). -/
  | hostDown (tag : Byte)
  /-- The run has completed its steps (R85). -/
  | finish (e : Fin 4)
  /-- A fault that is not tolerated ends the run (R86). -/
  | fail (e : Fin 4) (reason : Reason)
  /-- A stall expiry has failed the run, its grant released (R87). -/
  | stallFailed (e : Fin 4)
  /-- An aborted run stops (R91 steps 1 and 2). -/
  | stop (e : Fin 4)
  /-- An aborted run has stopped (R91 steps 4 and 5). -/
  | stopped (e : Fin 4)
  /-- The Plan Table takes the end report (R42). -/
  | endReport (e : Fin 4) (outcome : RunOutcome)
  /-- The engine becomes IDLE (R88). -/
  | idle (e : Fin 4)
  /-- The Run Queue hands out requests to the IDLE engines (R60). -/
  | take
  /-- The clear reaches the Ring Manager if every engine is IDLE (R93 step 4). -/
  | clearCheck
  /-- PORT_STATE is posted (R114). -/
  | portNotice (p : Fin 8)
  deriving DecidableEq, Repr

/-- What an action leaves: the state, the actions that follow at once, those that follow when the others at hand are
done, and those that close the event: engines become IDLE, and the Run Queue hands out to them, when nothing else of
the event is left to do (R60). -/
structure Eff where
  st    : State
  now   : List Act
  later : List Act
  last  : List Act
  deriving DecidableEq, Repr

/-- An action after which nothing follows. -/
def Eff.just (s : State) : Eff := ⟨s, [], [], []⟩

/-- An action after which others follow at once. -/
def Eff.andThen (x : State × List Act) : Eff := ⟨x.1, x.2, [], []⟩

/-- An action after which others follow when those at hand are done. -/
def Eff.thenLater (x : State × List Act) : Eff := ⟨x.1, [], x.2, []⟩

/-! ## Triggers and the Run Queue (Chapters 2 and 3) -/

/-- The source a binding names (R27). -/
def Binding.source : Binding → Option Source
  | .unbound => none
  | .ext n => some (.ext n)
  | .cadence n => some (.cadence n)
  | .attn n => some (.attn n)
  | .done p => some (.done p)

/-- The arrivals a firing makes: one at every plan whose binding names the source (R58). -/
def State.arrivals (s : State) (source : Source) (time : Time) : List Act :=
  ((List.finRange 32).filter fun p => (s.plan p).attrs.binding.source == some source).map fun p =>
    .arrive p source time

/-- The outcome of a trigger arrival (Table 2-6). -/
inductive Arrival where
  | ignored
  | queued
  | held
  | missed
  deriving DecidableEq, Repr

def Plan.arrival (pl : Plan) : Arrival :=
  match pl.state with
  | .armed =>
    match pl.runStatus with
    | .idle => .queued
    | .queued | .running =>
      match pl.attrs.overlap with
      | .miss => .missed
      | .hold => if pl.held then .missed else .held
  | .empty | .opened | .ready => .ignored

/-- `x` stays ahead of a request `q` that joins (R59). -/
def RunRequest.ahead (x q : RunRequest) : Bool :=
  decide (q.priority < x.priority) || (x.priority == q.priority && decide (x.queueTime ≤ q.queueTime))

/-- A request joins the Run Queue at its place (R59). -/
def insertRequest (q : RunRequest) : List RunRequest → List RunRequest
  | [] => [q]
  | x :: xs => if x.ahead q then x :: insertRequest q xs else q :: x :: xs

/-- The run record made at the take of a request (R67). -/
def RunRequest.run (q : RunRequest) (runNumber : Half) : Run :=
  { plan := q.plan, priority := q.priority, runNumber, source := q.source, trigTime := q.trigTime, stepIndex := 0
    remaining := 0, retry := 0, samplesWritten := 0, portLost := false, abortCause := none, builder := [] }

/-- The lowest-numbered IDLE engine takes the head of the Run Queue, if there are both (R41, R60, R67). -/
def State.takeHead (s : State) : State × List Act :=
  match s.runQueue, s.idleEngine with
  | q :: rest, some e =>
    let pl := s.plan q.plan
    let n := pl.runNumber + 1
    let s1 := { s with runQueue := rest }.setPlan q.plan { pl with runStatus := .running, runNumber := n }
    (s1.setEngine e { s.engine e with state := .starting s.timeBase, run := some (q.run n) }, [.commitBegin e])
  | _, _ => (s, [])

/-- The Run Queue hands its head to the lowest-numbered IDLE engine, the next head to the next, until the requests or
the IDLE engines run out (R60). -/
def State.handOut (s : State) : State × List Act :=
  (List.finRange 4).foldl (fun x _ => let y := x.1.takeHead; (y.1, x.2 ++ y.2)) (s, [])

/-- A run request is queued for plan `p` (R38), and taken at once if an engine is IDLE (R60): it is then the only one in
the queue, since an engine becomes IDLE only at the close of an event, just before the Run Queue hands out. -/
def State.queueRun (s : State) (p : Fin 32) (source : Source) (time : Time) : State × List Act :=
  let pl := s.plan p
  let q : RunRequest :=
    { plan := p, priority := pl.attrs.priority, source, trigTime := time, queueTime := s.timeBase }
  ({ s with runQueue := insertRequest q s.runQueue }.setPlan p
    { pl with runStatus := .queued, missCount := 0 }).takeHead

/-- A miss (R39). -/
def State.miss (s : State) (p : Fin 32) (source : Source) : State :=
  let pl := s.plan p
  let s1 := s.setPlan p { pl with missCount := min (pl.missCount + 1) Config.max16 }
  if pl.missCount = 0 then s1.post .triggerMissed (byte p) (source.code.zeroExtend 32) 0#16 else s1

/-- A trigger arrival is received (R37 to R39). -/
def State.arrive (s : State) (p : Fin 32) (source : Source) (time : Time) : Eff :=
  match (s.plan p).arrival with
  | .ignored => .just s
  | .queued => .thenLater (s.queueRun p source time)
  | .held => .just (s.setPlan p { s.plan p with held := true })
  | .missed => .just (s.miss p source)

/-! ## Commits (R77, R78) -/

/-- The step at a run's step index. -/
def State.currentStep (s : State) (r : Run) : Option PlanStep := (s.plan r.plan).steps[r.stepIndex]?

/-- A record of engine `e`'s run goes to the ring its plan names; a stalled engine keeps what it goes on with. -/
def State.commitRecord (s : State) (e : Fin 4) (r : Run) (time : Time) (body : RecordBody) (sealOnEnd : Bool)
    (nx : Resume) : State × List Act :=
  let x := s.commit (s.plan r.plan).attrs.ring e { plan := r.plan, step := r.stepIndex, time, body } sealOnEnd
  match x.2 with
  | .stalled => (x.1.setEngineState e (.stalled nx), [])
  | .placed | .dropped => (x.1, [.resume e nx])

/-- The builder's samples committed as one SAMPLES record, the builder emptied (R77). -/
def State.commitSamples (s : State) (e : Fin 4) (r : Run) (nx : Nat → Resume) : State × List Act :=
  match r.builder with
  | [] => (s, [.resume e (nx 0)])
  | (x, t) :: rest =>
    let samples := x :: rest.map (·.1)
    (s.setRun e { r with builder := [] }).commitRecord e r t (.samples samples) false (nx samples.length)

/-- The RUN_END record (R85, R86). -/
def State.commitRunEnd (s : State) (e : Fin 4) (r : Run) (reason : Option Reason) : State × List Act :=
  let pl := s.plan r.plan
  ((s.setRun e r).setEngineState e .ending).commitRecord e r s.timeBase
    (.runEnd reason r.remaining pl.missCount r.samplesWritten) pl.attrs.sealOnEnd (.runEnd reason)

/-- Samples written, saturating (R78). -/
def Run.wrote (r : Run) (n : Nat) : Run := { r with samplesWritten := min (r.samplesWritten + n) Config.max32 }

/-! ## Port steps (R69 to R76) -/

/-- The engine starts a transaction of its port step (R71). -/
def State.startTransfer (s : State) (e : Fin 4) (st : PortStep) : State :=
  (s.setPort st.port ((s.port st.port).startOrdinary (.engine e) st.fn st.sub)).setEngineState e .transact

/-- A port step begins and asks for the grant (R69). -/
def State.beginPortStep (s : State) (e : Fin 4) (r : Run) (st : PortStep) : State × List Act :=
  let s1 := s.setRun e { r with remaining := st.count, retry := 0, builder := [] }
  let p := s1.port st.port
  match p.answer with
  | .granted => (s1.setPort st.port { p with holder := some (.engine e) }, [.granted e])
  | .wait => ((s1.setPort st.port (p.join ⟨.engine e, r.priority⟩)).setEngineState e .awaitPort, [])
  | .portDown => (s1, [.faultStep e .portDown])

/-- The check made once the grant is held (R70). -/
def State.checkSubAddress (s : State) (e : Fin 4) (st : PortStep) : State × List Act :=
  if (s.port st.port).subCount ≤ st.sub then (s, [.faultStep e .subaddrAbsent]) else (s.startTransfer e st, [])

/-- A port step ends normally (R76). -/
def State.endPortStep (s : State) (e : Fin 4) (r : Run) : State × List Act :=
  s.commitSamples e r .stepEnd

/-- After a transfer has been counted: a full builder is committed first, then the next transfer starts, or the step
ends (R72, R73). -/
def State.afterTransfer (s : State) (e : Fin 4) (r : Run) (st : PortStep) : State × List Act :=
  if r.builder.length = Config.builderSamples then
    s.commitSamples e r (if r.remaining = 0 then .stepEnd else .midStep)
  else if r.remaining = 0 then s.endPortStep e r
  else (s.startTransfer e st, [])

/-- A counted transfer, with the sample a READ makes of it (R72, R73). -/
def Run.counted (r : Run) (st : PortStep) (x : Sample) (time : Time) : Run :=
  { r with
    remaining := r.remaining - 1
    retry := 0
    builder := match st.fn with
      | .read => r.builder ++ [(x, time)]
      | .write _ | .control => r.builder }

/-- A BUSY outcome (R73, R74). -/
def State.busyOutcome (s : State) (e : Fin 4) (r : Run) (st : PortStep) : State × List Act :=
  match st.busy with
  | .stop => s.endPortStep e r
  | .accept =>
    let r1 := r.counted st .busy s.timeBase
    (s.setRun e r1).afterTransfer e r1 st
  | .retry =>
    let prof := (s.port st.port).active
    if r.retry < prof.retryLimit then
      ((s.setRun e { r with retry := r.retry + 1 }).setEngineState e (.spacing (prof.spacing * 10)), [])
    else (s, [.faultStep e .busyLimit])

/-- The outcome of an engine's transaction, as the engine handles it (Table 4-3, R91). -/
def State.engineOutcome (s : State) (e : Fin 4) (o : TxnOutcome) (v : Value) : State × List Act :=
  match (s.engine e).run with
  | none => (s, [])
  | some r =>
    if r.abortCause.isSome then (s, [.stop e])
    else
      match s.currentStep r, o with
      | some (.port st), .data =>
        let r1 := r.counted st (.data ((s.port st.port).shape v)) s.timeBase
        (s.setRun e r1).afterTransfer e r1 st
      | some (.port st), .busy => s.busyOutcome e r st
      | some (.port _), .reject => (s, [.faultStep e .rejected])
      | some (.port _), .silent => (s, [.faultStep e .silent])
      | _, _ => (s, [])

/-! ## Step faults (R79 to R81) -/

/-- A tolerated fault posts STEP_FAULT in the event of the fault (R80). It does so before the builder is committed, as in
R112; at the other faults that is the model's choice (notes/assumptions/29). -/
def State.postStepFault (s : State) (r : Run) (reason : Reason) : State :=
  match s.currentStep r with
  | some (.port st) =>
    if st.tolerate then
      s.post .stepFault (byte r.plan) (BitVec.ofNat 32 r.remaining) (pair reason.code (byte r.stepIndex))
    else s
  | _ => s

/-- What follows the commit of a faulted step's builder: the grant released, then the next step (R80) or the end of
the run (R81). -/
def State.afterFault (s : State) (e : Fin 4) (r : Run) (reason : Reason) : State × List Act :=
  match s.currentStep r with
  | some (.port st) => (s, [.release e, if st.tolerate then .next e else .fail e reason])
  | _ => (s, [.release e, .fail e reason])

/-- The grant has been withdrawn from the engine by its port (R75). -/
def State.grantWithdrawn (s : State) (e : Fin 4) : State × List Act :=
  match (s.engine e).run with
  | none => (s, [])
  | some r =>
    match (s.engine e).state with
    | .transact => (s, [if r.abortCause.isSome then .stop e else .faultStep e .portDown])
    | .spacing _ => (s, [.faultStep e .portDown])
    | .stalled (.midStep _) => (s.setRun e { r with portLost := true }, [])
    | _ => (s, [])

/-! ## The arbiter (R129 to R131) -/

/-- The head of the wait list is given the grant (R129 step 4, R130). -/
def State.grantHead (s : State) (p : Fin 8) : State × List Act :=
  let q := s.port p
  match q.waiters with
  | [] => (s, [])
  | w :: ws =>
    (s.setPort p { q with holder := some w.who, waiters := ws },
      [match w.who with | .engine e => .granted e | .host => .hostGranted p])

/-- A release of the grant of port `p` (R129). What the next holder then does comes before the releasing engine's own
next step, which is the model's choice (notes/assumptions/28). -/
def State.releaseGrant (s : State) (p : Fin 8) : State × List Act :=
  let q := { s.port p with holder := none }
  match q.state with
  | .up =>
    let q1 := q.copyIfPending
    match q1.state with
    | .up => (s.setPort p q1).grantHead p
    | _ => (s.setPort p q1, [])
  | _ => (s.setPort p q, [])

/-- The host access's tag, if the port has one. -/
def Port.accessTag (p : Port) : List Byte := p.access.toList.map (·.tag)

/-- The holder is handed PORT_DOWN, then every waiter, in wait-list order (R131). That each goes on to where it next
rests before the next is handed it is the model's choice (notes/assumptions/28). -/
def Port.downActs (p : Port) : List Act :=
  let answer : (Fin 4 → Act) → Requester → List Act := fun f w =>
    match w with
    | .engine e => [f e]
    | .host => p.accessTag.map .hostDown
  p.holder.toList.flatMap (answer .withdrawn) ++ p.waiters.flatMap fun w => answer .portDown w.who

/-- A host access receives the grant (R136). -/
def State.hostGranted (s : State) (p : Fin 8) : State × List Act :=
  let q := s.port p
  match q.access with
  | none => (s, [])
  | some a =>
    if q.subCount ≤ a.sub then
      ((s.setPort p { q with access := none }).replyNot a.tag 0x42#8 .subaddrAbsent, [.releasePort p])
    else
      (s.setPort p ({ q with access := some { a with waitLeft := none } }.startOrdinary .host a.fn a.sub), [])

/-- The final reply of a host access whose transaction has ended with an outcome (R136). -/
def State.hostOutcome (s : State) (p : Fin 8) (o : TxnOutcome) (v : Value) : State :=
  let q := s.port p
  match q.access with
  | none => s
  | some a =>
    (s.setPort p { q with access := none }).replyOk a.tag 0x42#8
      (o.code :: bytesBE 6 s.timeBase.toNat ++ bytesBE 3 (if o = .data then (q.shape v).toNat else 0))

/-! ## Ports: faults, drains, identification -/

/-- Entry to FAULT (R108), the transaction in flight ended with it (R109). -/
def State.portFault (s : State) (p : Fin 8) (cause : FaultCause) : State × List Act :=
  let q := s.port p
  (s.setPort p ((q.enterFault cause).vacate.copyIfPending), q.downActs ++ [.portNotice p])

/-- The end of a drain (R105). -/
def State.drained (s : State) (p : Fin 8) : State × List Act :=
  let q := s.port p
  (s.setPort p q.vacate.copyIfPending.enterStopping, q.downActs)

/-- A port without a holder stops: its waiters are answered PORT_DOWN (R98). -/
def State.stopPort (s : State) (p : Fin 8) : State × List Act :=
  let q := s.port p
  (s.setPort p q.vacate.enterStopping, q.downActs)

/-- PORT_STATE with the port's state and fault cause (R114). -/
def State.postPortState (s : State) (p : Fin 8) : State :=
  s.post .portState (byte p) 0#32 (pair (s.port p).state.code (faultCode (s.port p).faultCause))

/-- A failed identify attempt: the retry spacing, or FAULT at the third (R101, R103). -/
def State.identifyFailed (s : State) (p : Fin 8) : State × List Act :=
  let q := s.port p
  if q.attempts < Config.identifyAttempts then (s.setPort p { q with phase := some (q.active.spacing * 10) }, [])
  else s.portFault p .noIdentity

/-- The end of an IDENTIFY transaction (R101 to R103); `s` has it no longer in flight. -/
def State.identifyEnd (s : State) (p : Fin 8) (o : TxnOutcome) (v : Value) : State × List Act :=
  let q := s.port p
  match q.state, o with
  | .identifying, .data => ((s.setPort p (q.enterUp (identityOf v))).postPortState p, [])
  | .retraining, .data =>
    if q.identity.any fun d => d.model == (identityOf v).model then
      ((s.setPort p (q.enterUp (identityOf v))).postPortState p).grantHead p
    else s.portFault p .identityChanged
  | .identifying, _ => s.identifyFailed p
  | .retraining, _ => s.identifyFailed p
  | _, _ => (s, [])

/-- A SILENT outcome that brings the tally to the silence limit (R112): the outcome goes to its requester first, an
engine's STEP_FAULT with it; then the port enters FAULT, the grant gone; then the engine goes on. -/
def State.silenceFault (s : State) (p : Fin 8) (who : Requester) : State × List Act :=
  match who with
  | .host =>
    let s1 := s.hostOutcome p .silent 0#24
    (s1.setPort p { s1.port p with holder := none }).portFault p .silent
  | .engine e =>
    let s0 := s.setPort p { s.port p with holder := none }
    match (s.engine e).run with
    | none => s0.portFault p .silent
    | some r =>
      if r.abortCause.isSome then
        let x := s0.portFault p .silent
        (x.1, x.2 ++ [.stop e])
      else
        let x := (s0.postStepFault r .silent).portFault p .silent
        (x.1, x.2 ++ [.commitFault e .silent])

/-- A transaction's outcome is taken (R123): judged for the port itself, or counted in the silence tally and handed to
its requester. -/
def State.txnEnd (s : State) (p : Fin 8) (o : TxnOutcome) (v : Value) : State × List Act :=
  match (s.port p).txn with
  | none => (s, [])
  | some t =>
    let q := { s.port p with txn := none }
    match t.requester with
    | none => (s.setPort p q).identifyEnd p o v
    | some who =>
      let q1 := q.tallied o
      let s1 := s.setPort p q1
      if q1.state = .draining then s1.drained p
      else if q1.state = .up ∧ o = .silent ∧ q1.silenceReached then s1.silenceFault p who
      else
        match who with
        | .engine e => s1.engineOutcome e o v
        | .host => (s1.hostOutcome p o v, [.releasePort p])

/-! ## Streams and the clear -/

/-- A stream record is removed; a last stream served that has ended is none (R197). -/
def State.dropStream (s : State) (tag : Byte) : State :=
  { s with
    streams := s.streams.filter fun st => st.tag != tag
    link := { s.link with
      lastServed := if s.link.lastServed = some tag then none else s.link.lastServed } }

/-- A stream is aborted: its segment returns to its prior state and the ABORTED reply is placed (R160, R195). -/
def State.abortStream (s : State) (st : Stream) : State :=
  ((s.unclaim st.ring st.segment).dropStream st.tag).placeReply st.tag 0x50#8
    ([Status.aborted.code, 0x00#8] ++ bytesBE 4 st.seqNo.toNat ++ bytesBE 2 st.nextChunk)

/-- Every open stream is aborted, in the order of their claims (R163, R164). -/
def State.abortStreams (s : State) : State := s.streams.foldl State.abortStream s

/-- The acquisition clear reaches the Ring Manager once every engine is IDLE, and its reply is placed (R24, R93 steps
4 and 5). -/
def State.clearRings (s : State) : State :=
  match s.clear with
  | none => s
  | some c =>
    if c.placed || !s.allIdle then s
    else
      let s1 := s.abortStreams
      let s2 : State := { s1 with
        rings := s1.rings.map fun o => o.map Ring.cleared
        clear := some { c with placed := true } }
      s2.replyOk c.tag 0x39#8 [byte c.removed, byte c.aborted]

/-! ## The end of a run (R42, R85 to R91) -/

/-- The Plan Table takes the end report (R42): the run status, a HELD run, and the firing of DONE p. The engine becomes
IDLE at the close of the event (R60, R88; notes/assumptions/16). -/
def State.endReport (s : State) (e : Fin 4) (o : RunOutcome) : Eff :=
  match (s.engine e).run with
  | none => .just s
  | some r =>
    let pl := s.plan r.plan
    let s1 := s.setPlan r.plan { pl with runStatus := .idle, held := false }
    let x := if pl.state = .armed ∧ pl.held then s1.queueRun r.plan .held s.timeBase else (s1, [])
    ⟨x.1, if o = .done then x.1.arrivals (.done r.plan) s.timeBase else [], x.2, [.idle e]⟩

/-- The engine becomes IDLE: waiting ABORT-RUN replies are placed in order (R88, R91). The Run Queue hands out requests
when every engine that becomes IDLE with it is IDLE too (R60). -/
def State.becomeIdle (s : State) (e : Fin 4) : Eff :=
  let tags := (s.engine e).abortTags
  let s1 := s.setEngine e { state := .idle, run := none, abortTags := [] }
  ⟨tags.foldl (fun st t => st.replyOk t 0x38#8 []) s1, [], [], [.take, .clearCheck]⟩

/-- An engine takes an abort (R90): the cause, the held flag, and what its state has it leave or stop. -/
def State.abortEngine (s : State) (e : Fin 4) (cause : AbortCause) : State × List Act :=
  match (s.engine e).run with
  | none => (s, [])
  | some r =>
    if r.abortCause.isSome then (s, [])
    else
      let s1 := (s.setRun e { r with abortCause := some cause }).setPlan r.plan { s.plan r.plan with held := false }
      match (s.engine e).state with
      | .idle | .transact => (s1, [])
      | .starting _ | .spacing _ | .waiting _ | .ending => (s1, [.stop e])
      | .awaitPort => ({ s1 with ports := s1.ports.map fun q => q.leave (.engine e) }, [.stop e])
      | .stalled _ => (s1.leaveStall e, [.stop e])

/-- An engine goes on once its commit is placed or dropped (R78). -/
def State.resume (s : State) (e : Fin 4) (r : Run) (x : Resume) : State × List Act :=
  match x with
  | .runBegin => (s, [.step e])
  | .midStep n =>
    let r1 := { r.wrote n with portLost := false }
    if r.portLost then (s.setRun e r1, [.faultStep e .portDown])
    else
      match s.currentStep r with
      | some (.port st) => ((s.setRun e r1).startTransfer e st, [])
      | _ => (s.setRun e r1, [])
  | .stepEnd n => (s.setRun e { r.wrote n with portLost := false }, [.release e, .next e])
  | .stepFault n reason =>
    let r1 := { r.wrote n with portLost := false }
    (s.setRun e r1).afterFault e r1 reason
  | .stamp => (s, [.next e])
  | .runEnd none =>
    (s.post .runDone (byte r.plan) (BitVec.ofNat 32 r.samplesWritten) r.runNumber, [.endReport e .done])
  | .runEnd (some reason) =>
    (s.post .runFailed (byte r.plan) (BitVec.ofNat 32 r.remaining) (pair reason.code (byte r.stepIndex)),
      [.endReport e (.failed reason)])

/-- A step begins (R68). -/
def State.beginStep (s : State) (e : Fin 4) (r : Run) : State × List Act :=
  match s.currentStep r with
  | some (.port st) => s.beginPortStep e r st
  | some .stamp => s.commitRecord e r s.timeBase .stamp false .stamp
  | some (.notify code) => (s.post .notify (byte r.plan) 0#32 (code.zeroExtend 16), [.next e])
  | some (.wait d) => (s.setEngineState e (.waiting d), [])
  | none => (s, [.finish e])

/-- A step has ended without stopping the run (R68). -/
def State.nextStep (s : State) (e : Fin 4) (r : Run) : State × List Act :=
  if r.stepIndex + 1 < (s.plan r.plan).steps.length then
    (s.setRun e { r with stepIndex := r.stepIndex + 1, remaining := 0, retry := 0 }, [.step e])
  else (s.setRun e { r with remaining := 0, retry := 0 }, [.finish e])

/-! ## The actions -/

/-- An action of an engine with a run. -/
def State.withRun (s : State) (e : Fin 4) (f : Run → State × List Act) : Eff :=
  match (s.engine e).run with
  | none => .just s
  | some r => .andThen (f r)

/-- One internal action. -/
def act (a : Act) (s : State) : Eff :=
  match a with
  | .arrive p source time => s.arrive p source time
  | .commitBegin e =>
    s.withRun e fun r =>
      match (s.engine e).state with
      | .starting t => s.commitRecord e r t (.runBegin r.runNumber r.source r.trigTime) false .runBegin
      | _ => (s, [])
  | .step e => s.withRun e fun r => s.beginStep e r
  | .next e => s.withRun e fun r => s.nextStep e r
  | .granted e =>
    s.withRun e fun r =>
      match s.currentStep r with
      | some (.port st) => s.checkSubAddress e st
      | _ => (s, [])
  | .resume e x => s.withRun e fun r => s.resume e r x
  | .faultStep e reason => s.withRun e fun r => (s.postStepFault r reason, [.commitFault e reason])
  | .commitFault e reason => s.withRun e fun r => s.commitSamples e r fun n => .stepFault n reason
  | .portDown e => .andThen (s, [.faultStep e .portDown])
  | .withdrawn e => .andThen (s.grantWithdrawn e)
  | .release e =>
    match s.heldPort e with
    | none => .just s
    | some p => .andThen (s.releaseGrant p)
  | .releasePort p => .andThen (s.releaseGrant p)
  | .hostGranted p => .andThen (s.hostGranted p)
  | .hostDown tag => .just (s.replyNot tag 0x42#8 .portDown)
  | .finish e => s.withRun e fun r => s.commitRunEnd e { r with remaining := 0 } none
  | .fail e reason => s.withRun e fun r => s.commitRunEnd e r (some reason)
  | .stallFailed e =>
    s.withRun e fun r =>
      (s.post .runFailed (byte r.plan) (BitVec.ofNat 32 r.remaining)
        (pair Reason.ringStall.code (byte r.stepIndex)), [.endReport e (.failed .ringStall)])
  | .stop e =>
    s.withRun e fun r =>
      ((s.setRun e { r with builder := [], portLost := false }).setEngineState e .ending, [.release e, .stopped e])
  | .stopped e =>
    s.withRun e fun r =>
      let cause := r.abortCause.getD .host
      (s.post .runAborted (byte r.plan) (BitVec.ofNat 32 r.remaining) (pair cause.code (byte r.stepIndex)),
        [.endReport e (.aborted cause)])
  | .endReport e o => s.endReport e o
  | .idle e => s.becomeIdle e
  | .take => .thenLater s.handOut
  | .clearCheck => .just s.clearRings
  | .portNotice p => .just (s.postPortState p)

/-- Whether an action begins a run: one event carries out at most `Config.beginsPerEvent` of them
(notes/assumptions/5). -/
def Act.begins : Act → Bool
  | .commitBegin _ => true
  | _ => false

/-- An event under way: the state, the actions that close it, and how many runs it may still begin. -/
structure Moment where
  st     : State
  last   : List Act
  begins : Nat
  deriving DecidableEq, Repr

/-- An event that has only begun. -/
def Moment.start (s : State) : Moment := ⟨s, [], Config.beginsPerEvent⟩

/-- The actions of one event, in order, but for those that close it: what follows an action at once comes before the
rest, what follows later comes after it. So an engine that is handed a grant or an outcome goes on to where it next rests
before the event's remaining actions, which is the model's choice (notes/assumptions/28). With no begin left, a begin is
left undone and its engine rests in STARTING (notes/assumptions/5). -/
def carryOut : Nat → List Act → Moment → Moment
  | _, [], x => x
  | 0, _ :: _, x => x
  | fuel + 1, a :: rest, x =>
    if a.begins && x.begins == 0 then carryOut fuel rest x
    else
      let y := act a x.st
      carryOut fuel (y.now ++ rest ++ y.later)
        ⟨y.st, x.last ++ y.last, if a.begins then x.begins - 1 else x.begins⟩

/-- The close of an event: its closing actions in order, each with all that follows from it. No event ends with an IDLE
engine beside a waiting request (R60). -/
def settle : Nat → Moment → State
  | _, ⟨s, [], _⟩ => s
  | 0, ⟨s, _ :: _, _⟩ => (act .take s).st
  | fuel + 1, ⟨s, a :: rest, begins⟩ =>
    let y := act a s
    settle fuel (carryOut Config.eventFuel (y.now ++ y.later) ⟨y.st, rest ++ y.last, begins⟩)

/-- What comes about at one moment may be several effects one after another, each with the actions it leads to. -/
def Moment.also (x : Moment) (f : State → State × List Act) : Moment :=
  carryOut Config.eventFuel (f x.st).2 { x with st := (f x.st).1 }

/-- An event: its own effect, then the internal actions it leads to, to the last. -/
def event (x : State × List Act) : State :=
  settle Config.settleFuel ((Moment.start x.1).also fun s => (s, x.2))

/-- Resting engines in STARTING, in order of number. -/
def State.startingActs (s : State) : List Act :=
  ((List.finRange 4).filter fun e => match (s.engine e).state with | .starting _ => true | _ => false).map .commitBegin

end Sys2Proof.Machine
end

