-- ==== Sys2Proof/Machine/LinkOps.lean ====
section
/-! DEFINITION. The Host Link's operations (Chapter 10): admission (R192, R193), the transmitter (R196, R197, R155 to
R157, R179), and the device reset (R205 and the reset rules of every chapter). -/

namespace Sys2Proof.Machine

/-! ## Admission -/

/-- Whether a body of `len` bytes is one that Table 10-12 allows for `kind`; none: `kind` is no request kind. -/
def bodyAllowed (kind : Byte) (len : Nat) : Option Bool :=
  match kind.toNat with
  | 0x01 | 0x02 | 0x03 | 0x05 | 0x31 | 0x39 | 0x5C => some (len == 0)
  | 0x04 | 0x11 | 0x12 | 0x14 | 0x22 | 0x23 | 0x24 | 0x25 | 0x26 | 0x27 | 0x38 | 0x41 | 0x49 | 0x58 | 0x59 | 0x5A =>
    some (len == 1)
  | 0x15 | 0x40 | 0x4A | 0x5B => some (len == 2)
  | 0x13 | 0x32 | 0x33 => some (len == 5)
  | 0x30 | 0x42 | 0x50 => some (len == 6)
  | 0x10 | 0x20 => some (len == 7)
  | 0x48 => some (len == 10)
  | 0x21 => some (decide (9 ≤ len) && decide (len ≤ 129) && len % 8 == 1)
  | _ => none

/-- The kinds admitted while the session is CLOSED: OPEN-SESSION, IDENTIFY, RESET-DEVICE (R192). -/
def sessionFree (kind : Byte) : Bool := kind == 0x01#8 || kind == 0x03#8 || kind == 0x05#8

/-- The admission checks in order: the refusal they give, or none where the frame is admitted (R192). -/
def State.admission (s : State) (tag kind : Byte) (len : Nat) : Option Status :=
  if tag = 0x00#8 then some .badTag
  else if !s.link.sessionOpen && !sessionFree kind then some .noSession
  else if s.link.outstanding.any fun o => o.tag == tag then some .tagInUse
  else if Config.window ≤ s.link.outstanding.length then some .windowFull
  else
    match bodyAllowed kind len with
    | none => some .unknownKind
    | some false => some .badLength
    | some true => none

/-- The refusal queue: the refusals of the reply list (R193). -/
def State.refusals (s : State) : List Reply := s.link.replies.filter (·.refusal)

/-- A refusal is placed, or dropped where the refusal queue holds 4 (R193, R195). -/
def State.placeRefusal (s : State) (tag kind : Byte) (st : Status) : State :=
  if Config.linkQueue ≤ s.refusals.length then s
  else
    let rk := if (bodyAllowed kind 0).isSome then replyKind kind else 0xFF#8
    { s with link := { s.link with
        replies := s.link.replies ++ [{ tag, kind := rk, body := [st.code, 0x00#8], refusal := true }] } }

/-- An admitted request becomes outstanding (R194). -/
def State.admitted (s : State) (tag kind : Byte) : State :=
  { s with link := { s.link with
      outstanding := s.link.outstanding ++ [{ tag, kind, stage := .withOwner }] } }

/-- A valid frame: judged for admission, and if admitted handed to its owner within the same event (R192). The
receiver takes no frame while RESET is asserted or reset pending is set (R188, R204). -/
def receive (tag kind : Byte) (len : Nat) (owner : State → State) (s : State) : State :=
  if s.inReset || s.link.resetPending then s
  else
    match s.admission tag kind len with
    | some st => s.placeRefusal tag kind st
    | none => owner (s.admitted tag kind)

/-- An event of the part itself: nothing happens while RESET is asserted (R117, R188, R53). -/
def awake (f : State → State) (s : State) : State := if s.inReset then s else f s

/-! ## Frame rejects -/

/-- The receiver returns to HUNT, and a frame reject is queued unless 4 wait (R191). -/
def State.rejectFrame (s : State) (reason : RejectReason) (tag : Byte) : State :=
  { s with link := { s.link with
      receiver := .hunt
      rejects :=
        if Config.linkQueue ≤ s.link.rejects.length then s.link.rejects
        else s.link.rejects ++ [{ reason, tag }] } }

/-! ## The transmitter -/

/-- The transmitter becomes SENDING with a frame. -/
def State.send (s : State) (tag kind : Byte) (body : List Byte) (what : Sending) : State :=
  { s with link := { s.link with transmitter := some { bytes := frameBytes tag kind body, what } } }

/-- The stream served next: the first offering stream after the last one served, wrapping round (R197). -/
def State.nextStream (s : State) : Option Stream :=
  let rotated :=
    match s.link.lastServed with
    | none => s.streams
    | some tag => (s.streams.dropWhile fun (st : Stream) => st.tag != tag).drop 1 ++ s.streams
  rotated.find? fun st => decide (st.nextChunk < st.frameCount)

/-- Engines whose stalled records were placed go on (R14). The rule orders the placements: that the engines then go on
one after another, in stall-list order, is the model's choice (notes/assumptions/26). -/
def State.wakeActs (s : State) (es : List (Fin 4)) : List Act :=
  es.filterMap fun e =>
    match (s.engine e).state with
    | .stalled x => some (.resume e x)
    | _ => none

/-- The wake of a ring's stall list, where its awaited segment is FREE (R14, R20, R21). -/
def State.wake (s : State) (k : Fin 4) : State × List Act :=
  let x := s.wakeRing k
  (x.1, x.1.wakeActs x.2)

/-- The words of data frame `chunk` of a stream (R155). -/
def State.chunkWords (s : State) (st : Stream) : List Word :=
  match s.ring st.ring with
  | none => []
  | some r =>
    Memory.readWords s.mem (r.segBase st.segment + Config.frameWords * st.nextChunk)
      (min Config.frameWords (st.words - Config.frameWords * st.nextChunk))

/-- The normal end of a stream (R157, R158): the segment handed back, the stall list woken, the reply placed, the
record removed. -/
def State.streamEnd (s : State) (st : Stream) : State × List Act :=
  match s.ring st.ring with
  | none => (s.dropStream st.tag, [])
  | some r =>
    let g := r.seg st.segment
    let after : SegState := if r.autoRelease then .free else .read
    let x :=
      if r.autoRelease then (s.freeSegment st.ring r st.segment).wake st.ring
      else (s.setRing st.ring (some (r.setSeg st.segment { g with state := .read })), [])
    ((x.1.dropStream st.tag).replyOk st.tag 0x50#8
      (Segment.bytes st.segment { g with state := after } ++ bytesBE 2 st.frameCount), x.2)

/-- A data frame is taken (R155, R156, R197); the last one ends its stream. -/
def State.takeData (s : State) : State × List Act :=
  match s.nextStream with
  | none => (s, [])
  | some st =>
    let body := bytesBE 2 st.nextChunk ++ (s.chunkWords st).flatMap fun w => bytesBE 4 w.toNat
    let st1 := { st with nextChunk := st.nextChunk + 1 }
    let s1 : State := { s with
      streams := s.streams.map fun x => if x.tag = st.tag then st1 else x
      link := { s.link with lastServed := some st.tag } }
    let s2 := s1.send st.tag 0xF0#8 body .other
    if st1.nextChunk < st1.frameCount then (s2, []) else s2.streamEnd st1

/-- A notice frame is taken: filled, its entries marked, a credit spent (R179). -/
def State.takeNotice (s : State) : State :=
  let d := s.notices.deliver Config.noticesPerFrame
  let s1 : State := { s with notices := { d.2 with credits := d.2.credits - 1 } }
  s1.send 0x00#8 0xF1#8 (byte d.1.length :: d.1.flatMap Notice.bytes) .other

/-- A reply is taken: it leaves the reply list, and its outstanding entry becomes SENDING (R194, R196). -/
def State.takeReply (s : State) (r : Reply) (rest : List Reply) : State :=
  let link := { s.link with replies := rest }
  if r.refusal then { s with link }.send r.tag r.kind r.body .other
  else
    let link1 := { link with
      outstanding := link.outstanding.map fun o => if o.tag = r.tag then { o with stage := .sending } else o }
    { s with link := link1 }.send r.tag r.kind r.body (.finalReply r.tag)

/-- The ANNOUNCE frame's body (R206). -/
def State.announceBody (s : State) : List Byte :=
  bytesBE 2 Config.partCode.toNat ++ [Config.revision, s.link.resetCause.code, byte s.link.linkRate.toNat]

/-- The IDLE transmitter takes the available frame of the highest rank, if there is one (R196). -/
def State.take (s : State) : State × List Act :=
  if s.link.transmitter.isSome then (s, [])
  else
    match s.link.rejects with
    | j :: js =>
      ({ s with link := { s.link with rejects := js } }.send 0x00#8 0xFE#8 [j.reason.code, j.tag] .other, [])
    | [] =>
      if s.link.announcePending then
        ({ s with link := { s.link with announcePending := false } }.send 0x00#8 0xF8#8 s.announceBody .other, [])
      else
        match s.link.replies with
        | r :: rs => (s.takeReply r rs, [])
        | [] => if s.notices.offering then (s.takeNotice, []) else s.takeData

/-- The take as a whole event. -/
def State.transmit (s : State) : State := event s.take

/-! ## Device reset -/

/-- The notice queue while a device reset lasts (R186). -/
def NoticeQueue.emptied : NoticeQueue := { entries := [], nextNo := 0#16, heldLost := 0, mode := .poll, credits := 0 }

/-- Every block as a device reset that has ended leaves it (R25, R46, R64, R95, R118, R139, R165, R186, R205): the
straps' value is the link rate from then on; the PnOC lines and the waiting commands are outside the part. -/
def State.afterReset (s : State) (cause : ResetCause) (rate : BitVec 2) : State :=
  { State.reset with
    ports := s.ports.map fun p => Port.reset p.ocLine
    notices := NoticeQueue.restarted cause
    link := Link.reset rate cause
    pending := s.pending }

/-- The device reset of RESET-DEVICE: performed and ended within one event, the link rate kept (R204, R206). -/
def State.resetByRequest (s : State) : State := s.afterReset .request s.link.linkRate

/-- While RESET is asserted: as after the reset, but nothing posted yet (R47, R117, R186, R188). -/
def State.heldInReset (s : State) (straps : BitVec 2) : State :=
  { s.afterReset .pin straps with inReset := true, notices := .emptied }

/-- RESET is released: the time base starts from 0, RESTARTED is posted, the announce is pending (R47, R186, R206). -/
def State.released (s : State) : State :=
  { s with
    inReset := false
    timeBase := 0#48
    notices := NoticeQueue.restarted .pin
    link := { s.link with announcePending := true, resetCause := .pin } }

end Sys2Proof.Machine
end

