-- ==== Sys2Proof/Machine/EngineEvents.lean ====
section
/-! DEFINITION. The events of the Sweep Engines and the Ring Manager: spacing and WAIT timers (R74, R84), the stall timer
(R15, R87), the stall-list wake (R14) and the acquisition clear (R24, R93). Each acts only where what it ends is
there. -/

namespace Sys2Proof.Machine

/-- The retry spacing expires: the same transfer is started again (R74). -/
def spacingExpiry (e : Fin 4) (s : State) : State :=
  match (s.engine e).state, (s.engine e).run with
  | .spacing _, some r =>
    match s.currentStep r with
    | some (.port st) => s.startTransfer e st
    | _ => s
  | _, _ => s

/-- The WAIT timer ends: the step ends and the next begins (R84). -/
def State.waitEnd (s : State) (e : Fin 4) : State × List Act :=
  match (s.engine e).state with
  | .waiting _ => (s, [.next e])
  | _ => (s, [])

def waitExpiry (e : Fin 4) (s : State) : State := event (s.waitEnd e)

/-- The stall timer of a stalled engine ends: its record leaves the stall list and the run fails (R15, R87). -/
def State.stallEnd (s : State) (e : Fin 4) : State × List Act :=
  match (s.engine e).state, (s.engine e).run with
  | .stalled _, some r =>
    ((s.leaveStall e).setRun e { r with builder := [], portLost := false }, [.release e, .stallFailed e])
  | _, _ => (s, [])

def stallTimerExpiry (e : Fin 4) (s : State) : State := event (s.stallEnd e)

/-- The stall list of ring `k` is woken (R14). -/
def stallWake (k : Fin 4) (s : State) : State := event (s.wake k)

/-- The acquisition clear of a CLEAR-ACQUISITION in progress (R24, R93 steps 4 and 5). -/
def acquisitionClear (s : State) : State := event (s, [.clearCheck])

/-! ## Meanings -/

def execSpacingExpiry (engine : Fin 4) (s : State) : Host.Outcome State Fault Refusal :=
  .next (awake (spacingExpiry engine) s)

def execWaitExpiry (engine : Fin 4) (s : State) : Host.Outcome State Fault Refusal :=
  .next (awake (waitExpiry engine) s)

def execStallTimerExpiry (engine : Fin 4) (s : State) : Host.Outcome State Fault Refusal :=
  .next (awake (stallTimerExpiry engine) s)

def execStallWake (ring : Fin 4) (s : State) : Host.Outcome State Fault Refusal := .next (awake (stallWake ring) s)

def execAcquisitionClear (s : State) : Host.Outcome State Fault Refusal := .next (awake acquisitionClear s)

end Sys2Proof.Machine
end

