-- ==== Sys2Proof/Machine/LinkRequests.lean ====
section
/-! DEFINITION. The requests the Host Link owns (R200 to R204). -/

namespace Sys2Proof.Machine

/-! ## OPEN-SESSION, CLOSE-SESSION -/

/-- The notice queue's session effects (R185). -/
def State.sessionEffects (s : State) : State := { s with notices := s.notices.session }

/-- The number of the head entry, or the next notice number (R200). -/
def NoticeQueue.headNumber (q : NoticeQueue) : Half :=
  match q.entries with
  | [] => q.nextNo
  | n :: _ => n.number

/-- OPEN-SESSION (R200). -/
def ownOpenSession (tag : Byte) (s : State) : State :=
  if s.link.outstanding.any fun o => o.tag != tag then s.replyNot tag 0x01#8 .badState
  else
    let s1 := s.sessionEffects
    let s2 : State := { s1 with link := { s1.link with sessionOpen := true } }
    s2.replyOk tag 0x01#8
      (bytesBE 2 s2.notices.entries.length ++ bytesBE 2 s2.notices.headNumber.toNat ++ [byte s2.link.linkRate.toNat])

/-- The waiting host access of port `p`, if there is one (R135). -/
def Port.waitingAccess (p : Port) : Option HostAccess := p.access.filter fun a => a.waitLeft.isSome

/-- A waiting host access leaves its wait list with a final reply (R132). -/
def State.endWaiting (s : State) (p : Fin 8) (st : Status) : State :=
  match (s.port p).waitingAccess with
  | none => s
  | some a => (s.setPort p { (s.port p).leave .host with access := none }).replyNot a.tag 0x42#8 st

/-- Every host access on a wait list is removed with ABORTED, in port order (R138, R201). -/
def State.abortAccesses (s : State) : State := (List.finRange 8).foldl (fun st p => st.endWaiting p .aborted) s

/-- How many host accesses wait. -/
def State.waitingAccesses (s : State) : Nat :=
  ((List.finRange 8).filter fun p => (s.port p).waitingAccess.isSome).length

/-- CLOSE-SESSION (R201). -/
def ownCloseSession (tag : Byte) (s : State) : State :=
  let s1 := s.abortStreams.abortAccesses.sessionEffects
  let s2 := s1.replyOk tag 0x02#8
    [byte s.streams.length, byte s.waitingAccesses, byte (s1.link.outstanding.length - 1)]
  { s2 with link := { s2.link with sessionOpen := false } }

/-! ## IDENTIFY, ABORT-REQUEST, RESET-DEVICE -/

/-- The fields of the IDENTIFY reply (R202). -/
def State.identifyFields (s : State) : List Byte :=
  bytesBE 2 Config.partCode.toNat ++ [Config.revision, byte 8, byte 4, byte 32] ++ bytesBE 2 Config.poolSteps
    ++ [byte 4] ++ bytesBE 2 Config.blocks ++ bytesBE 2 Config.noticePlaces
    ++ [byte Config.window, byte s.link.linkRate.toNat, flagByte s.link.sessionOpen]

/-- IDENTIFY (R202). -/
def ownIdentify (tag : Byte) (s : State) : State := s.replyOk tag 0x03#8 s.identifyFields

/-- The port whose host access carries a tag. -/
def State.accessPort (s : State) (tag : Byte) : Option (Fin 8) :=
  (List.finRange 8).find? fun p => (s.port p).access.any fun a => a.tag == tag

/-- The owner of the named request acts on the abort (R203 step 4, R137, R160). -/
def abortNamed (tag target : Byte) (s : State) : State :=
  match s.streams.find? fun st => st.tag == target with
  | some st => (s.abortStream st).replyOk tag 0x04#8 []
  | none =>
    match s.accessPort target with
    | none => s.replyNot tag 0x04#8 .tooLate
    | some p =>
      if (s.port p).waitingAccess.isSome then (s.endWaiting p .aborted).replyOk tag 0x04#8 []
      else s.replyNot tag 0x04#8 .tooLate

/-- ABORT-REQUEST (R203). -/
def ownAbortRequest (tag target : Byte) (s : State) : State :=
  match s.link.outstanding.find? fun o => o.tag == target with
  | none => s.replyNot tag 0x04#8 .notFound
  | some o =>
    if o.kind != 0x50#8 && o.kind != 0x42#8 then s.replyNot tag 0x04#8 .badState
    else if o.stage != .withOwner then s.replyNot tag 0x04#8 .tooLate
    else abortNamed tag target s

/-- RESET-DEVICE (R204). -/
def ownResetDevice (tag : Byte) (s : State) : State :=
  let s1 := s.replyOk tag 0x05#8 []
  { s1 with link := { s1.link with resetPending := true } }

/-! ## Meanings -/

def execOpenSession (tag : Byte) (s : State) : Host.Outcome State Fault Refusal :=
  .next (receive tag 0x01#8 0 (ownOpenSession tag) s)

def execCloseSession (tag : Byte) (s : State) : Host.Outcome State Fault Refusal :=
  .next (receive tag 0x02#8 0 (ownCloseSession tag) s)

def execIdentify (tag : Byte) (s : State) : Host.Outcome State Fault Refusal :=
  .next (receive tag 0x03#8 0 (ownIdentify tag) s)

def execAbortRequest (tag target : Byte) (s : State) : Host.Outcome State Fault Refusal :=
  .next (receive tag 0x04#8 1 (ownAbortRequest tag target) s)

def execResetDevice (tag : Byte) (s : State) : Host.Outcome State Fault Refusal :=
  .next (receive tag 0x05#8 0 (ownResetDevice tag) s)

end Sys2Proof.Machine
end

