-- ==== Sys2Proof/Machine/NoticeRequests.lean ====
section
/-! DEFINITION. The requests the Notice Queue owns (R176, R177, R180, R182, R183). -/

namespace Sys2Proof.Machine

/-- SET-NOTICE-MODE (R176). -/
def ownSetNoticeMode (tag mode : Byte) (s : State) : State :=
  match mode? mode with
  | none => s.replyNot tag 0x58#8 .badValue
  | some m =>
    { s with notices := { s.notices with mode := m } }.replyOk tag 0x58#8 [m.code, byte s.notices.credits]

/-- GRANT-CREDITS (R177). -/
def ownGrantCredits (tag count : Byte) (s : State) : State :=
  match range? 1 Config.maxCredits count.toNat with
  | none => s.replyNot tag 0x59#8 .badValue
  | some n =>
    let c := min (s.notices.credits + n) Config.maxCredits
    { s with notices := { s.notices with credits := c } }.replyOk tag 0x59#8 [byte c]

/-- The state of the queue in a TAKE-NOTICES reply (R180). -/
def NoticeQueue.stateFields (q : NoticeQueue) : List Byte :=
  bytesBE 2 q.entries.length ++ bytesBE 2 q.undelivered.length ++ bytesBE 4 q.heldLost ++ [q.mode.code, byte q.credits]

/-- TAKE-NOTICES (R180). -/
def ownTakeNotices (tag maximum : Byte) (s : State) : State :=
  match range? 1 Config.noticesPerFrame maximum.toNat with
  | none => s.replyNot tag 0x5A#8 .badValue
  | some n =>
    let d := s.notices.deliver n
    { s with notices := d.2 }.replyOk tag 0x5A#8 (d.1.flatMap Notice.bytes ++ d.2.stateFields)

/-- The entries after the delivered one with a number, if there is one (R182). -/
def NoticeQueue.afterAck (q : NoticeQueue) (number : Half) : Option (List Notice) :=
  if q.entries.any fun n => n.delivered && n.number == number then
    some ((q.entries.dropWhile fun n => !(n.delivered && n.number == number)).drop 1)
  else none

/-- The marker an acknowledgement appends for the held lost count (R174). -/
def NoticeQueue.ackMarker (q : NoticeQueue) (now : Time) : NoticeQueue :=
  if q.entries.length < Config.noticePlaces ∧ q.heldLost ≠ 0 then
    { q.append .overflow 0x00#8 now 0#32 (BitVec.ofNat 16 (min q.heldLost Config.max16)) with heldLost := 0 }
  else q

/-- ACK-NOTICES (R182, R174). -/
def ownAckNotices (tag : Byte) (number : Half) (s : State) : State :=
  match s.notices.afterAck number with
  | none => s.replyNot tag 0x5B#8 .badValue
  | some rest =>
    let q := { s.notices with entries := rest }.ackMarker s.timeBase
    { s with notices := q }.replyOk tag 0x5B#8
      (bytesBE 2 (s.notices.entries.length - rest.length) ++ bytesBE 2 q.entries.length
        ++ bytesBE 2 q.undelivered.length)

/-- RESEND-NOTICES (R183). -/
def ownResendNotices (tag : Byte) (s : State) : State :=
  { s with notices := s.notices.clearMarks }.replyOk tag 0x5C#8
    (bytesBE 2 (s.notices.entries.filter fun (n : Notice) => n.delivered).length)

/-! ## Meanings -/

def execSetNoticeMode (tag mode : Byte) (s : State) : Host.Outcome State Fault Refusal :=
  .next (receive tag 0x58#8 1 (ownSetNoticeMode tag mode) s)

def execGrantCredits (tag count : Byte) (s : State) : Host.Outcome State Fault Refusal :=
  .next (receive tag 0x59#8 1 (ownGrantCredits tag count) s)

def execTakeNotices (tag maximum : Byte) (s : State) : Host.Outcome State Fault Refusal :=
  .next (receive tag 0x5A#8 1 (ownTakeNotices tag maximum) s)

def execAckNotices (tag : Byte) (number : Half) (s : State) : Host.Outcome State Fault Refusal :=
  .next (receive tag 0x5B#8 2 (ownAckNotices tag number) s)

def execResendNotices (tag : Byte) (s : State) : Host.Outcome State Fault Refusal :=
  .next (receive tag 0x5C#8 0 (ownResendNotices tag) s)

end Sys2Proof.Machine
end

