-- ==== Sys2Proof/Machine/PlanRequests.lean ====
section
/-! DEFINITION. The requests the Plan Table owns (R30 to R36, R40, R44), ABORT-RUN (R89) and CLEAR-ACQUISITION (R93). -/

namespace Sys2Proof.Machine

/-- The check of R30: a plan number in range. -/
def State.withPlan (s : State) (tag kind plan : Byte) (f : Fin 32 → Plan → State) : State :=
  match number? 32 plan with
  | none => s.replyNot tag kind .badValue
  | some p => f p (s.plan p)

/-! ## Loading -/

/-- OPEN-PLAN (R31): the steps of a READY plan return to the pool, the attributes are stored. -/
def ownOpenPlan (tag plan priority ring bindType bindNumber overlap sealOnEnd : Byte) (s : State) : State :=
  s.withPlan tag 0x20#8 plan fun p pl =>
    match attributes? priority ring bindType bindNumber overlap sealOnEnd with
    | none => s.replyNot tag 0x20#8 .badValue
    | some attrs =>
      if (pl.state = .empty ∨ pl.state = .ready) ∧ pl.runStatus = .idle then
        ({ s with poolFree := s.poolFree + pl.steps.length }.setPlan p
          { pl with state := .opened, attrs, steps := [] }).replyOk tag 0x20#8 []
      else s.replyNot tag 0x20#8 .badState

/-- APPEND-STEPS (R32). -/
def ownAppendSteps (tag plan : Byte) (steps : List EncodedStep) (s : State) : State :=
  s.withPlan tag 0x21#8 plan fun p pl =>
    if pl.state ≠ .opened then s.replyNot tag 0x21#8 .badState
    else
      match steps? 0 steps with
      | .error i => s.replyNot tag 0x21#8 .badValue (byte i)
      | .ok new =>
        if Config.planSteps < pl.steps.length + new.length then s.replyNot tag 0x21#8 .noSpace 0x01#8
        else if s.poolFree < new.length then s.replyNot tag 0x21#8 .noSpace 0x02#8
        else
          ({ s with poolFree := s.poolFree - new.length }.setPlan p { pl with steps := pl.steps ++ new }).replyOk
            tag 0x21#8 (byte (pl.steps.length + new.length) :: bytesBE 2 (s.poolFree - new.length))

/-- CLOSE-PLAN (R33). -/
def ownClosePlan (tag plan : Byte) (s : State) : State :=
  s.withPlan tag 0x22#8 plan fun p pl =>
    if pl.state ≠ .opened then s.replyNot tag 0x22#8 .badState
    else if pl.steps.length = 0 then s.replyNot tag 0x22#8 .badValue
    else
      (s.setPlan p { pl with state := .ready, runNumber := 0#16, held := false, missCount := 0 }).replyOk
        tag 0x22#8 [byte pl.steps.length]

/-! ## Arming, disarming, deleting -/

/-- ARM-PLAN (R34). -/
def ownArmPlan (tag plan : Byte) (s : State) : State :=
  s.withPlan tag 0x23#8 plan fun p pl =>
    if pl.state ≠ .ready ∨ s.clear.isSome then s.replyNot tag 0x23#8 .badState
    else if (s.ring pl.attrs.ring).isNone then s.replyNot tag 0x23#8 .noRing
    else (s.setPlan p { pl with state := .armed }).replyOk tag 0x23#8 []

/-- The removal of a queued run request, as it acts on its plan (R43, R61 to R63), with its RUN_ABORTED notice. -/
def State.removeQueued (s : State) (p : Fin 32) (cause : AbortCause) : State :=
  ({ s with runQueue := s.runQueue.filter fun q => q.plan != p }.setPlan p
    { s.plan p with runStatus := .idle, held := false }).post .runAborted (byte p) 0#32 (pair cause.code 0xFF#8)

/-- DISARM-PLAN (R35, R62). -/
def ownDisarmPlan (tag plan : Byte) (s : State) : State :=
  s.withPlan tag 0x24#8 plan fun p pl =>
    if pl.state ≠ .armed then s.replyNot tag 0x24#8 .badState
    else
      let s1 := s.setPlan p { pl with state := .ready, held := false }
      match pl.runStatus with
      | .idle => s1.replyOk tag 0x24#8 [0x00#8]
      | .queued => (s1.removeQueued p .disarm).replyOk tag 0x24#8 [0x01#8]
      | .running => s1.replyOk tag 0x24#8 [0x02#8]

/-- DELETE-PLAN (R36). -/
def ownDeletePlan (tag plan : Byte) (s : State) : State :=
  s.withPlan tag 0x25#8 plan fun p pl =>
    if (pl.state = .opened ∨ pl.state = .ready) ∧ pl.runStatus = .idle then
      let free := s.poolFree + pl.steps.length
      ({ s with poolFree := free }.setPlan p
        { pl with state := .empty, attrs := .zero, steps := [], runNumber := 0#16, missCount := 0 }).replyOk
          tag 0x25#8 (bytesBE 2 free)
    else s.replyNot tag 0x25#8 .badState

/-! ## QUERY-PLAN, FIRE -/

/-- The attributes in a QUERY-PLAN reply (R44, R207). -/
def Attributes.bytes (a : Attributes) : List Byte :=
  [byte a.priority, byte a.ring] ++ a.binding.codes ++ [a.overlap.code, flagByte a.sealOnEnd]

/-- The engine number and step index of a RUNNING plan, after their present flag (R44, R207). -/
def State.runningFields (s : State) (p : Fin 32) : List Byte :=
  match (s.plan p).runStatus, s.engineOf p with
  | .running, some e => [0x01#8, byte e, byte (((s.engine e).run.map (·.stepIndex)).getD 0)]
  | _, _ => [0x00#8, 0x00#8, 0x00#8]

/-- QUERY-PLAN (R44). -/
def ownQueryPlan (tag plan : Byte) (s : State) : State :=
  s.withPlan tag 0x26#8 plan fun p pl =>
    s.replyOk tag 0x26#8
      ([pl.state.code] ++ pl.attrs.bytes ++ [pl.runStatus.code, flagByte pl.held] ++ bytesBE 2 pl.runNumber.toNat
        ++ bytesBE 2 pl.missCount ++ [byte pl.steps.length] ++ bytesBE 2 s.poolFree ++ s.runningFields p)

/-- FIRE outcome codes (Table 10-16). -/
def Arrival.code : Arrival → Byte
  | .queued => 0x00#8
  | .held => 0x01#8
  | .missed => 0x02#8
  | .ignored => 0x02#8

/-- FIRE (R40): an arrival with source HOST at the time base value. -/
def ownFire (tag plan : Byte) (s : State) : State :=
  s.withPlan tag 0x27#8 plan fun p pl =>
    if pl.state ≠ .armed then s.replyNot tag 0x27#8 .badState
    else (event (s, [.arrive p .host s.timeBase])).replyOk tag 0x27#8 [pl.arrival.code]

/-! ## ABORT-RUN, CLEAR-ACQUISITION -/

/-- The ABORT-RUN is answered when engine `e` becomes IDLE (R89, R91). -/
def State.awaitIdle (s : State) (e : Fin 4) (tag : Byte) : State :=
  s.setEngine e { s.engine e with abortTags := (s.engine e).abortTags ++ [tag] }

/-- ABORT-RUN (R61, R89, R90). -/
def ownAbortRun (tag plan : Byte) (s : State) : State :=
  s.withPlan tag 0x38#8 plan fun p pl =>
    match pl.runStatus with
    | .idle => s.replyNot tag 0x38#8 .notFound
    | .queued => (s.removeQueued p .host).replyOk tag 0x38#8 []
    | .running =>
      match s.engineOf p with
      | none => s.replyNot tag 0x38#8 .notFound
      | some e => event ((s.awaitIdle e tag).abortEngine e .host)

/-- Every ARMED plan becomes READY with its held flag clear (R45). -/
def State.disarmAll (s : State) : State :=
  { s with plans := s.plans.map fun pl => if pl.state = .armed then { pl with state := .ready, held := false } else pl }

/-- Every engine that has a run takes an abort with cause CLEAR (R93 step 3): the state, and the actions that follow.
The rule gives the engines no order: that they stop in order of number is the model's choice (notes/assumptions/27). -/
def State.abortAll (s : State) : State × List Act :=
  (List.finRange 4).foldl
    (fun x e => let y := x.1.abortEngine e .clear; (y.1, x.2 ++ y.2)) (s, [])

/-- How many engines have a run. -/
def State.runsOnEngines (s : State) : Nat := ((List.finRange 4).filter fun e => (s.engine e).run.isSome).length

/-- CLEAR-ACQUISITION (R45, R63, R93). -/
def ownClearAcquisition (tag : Byte) (s : State) : State :=
  if s.clear.isSome then s.replyNot tag 0x39#8 .badState
  else
    let s1 := s.disarmAll
    let s2 := s1.runQueue.foldl (fun st q => st.removeQueued q.plan .clear) s1
    let s3 : State := { s2 with
      clear := some { tag, removed := s1.runQueue.length, aborted := s1.runsOnEngines, placed := false } }
    let x := s3.abortAll
    event (x.1, x.2 ++ [.clearCheck])

/-! ## Meanings -/

def execOpenPlan (tag plan priority ring bindType bindNumber overlap sealOnEnd : Byte) (s : State) :
    Host.Outcome State Fault Refusal :=
  .next (receive tag 0x20#8 7 (ownOpenPlan tag plan priority ring bindType bindNumber overlap sealOnEnd) s)

def execAppendSteps (tag plan : Byte) (steps : List EncodedStep) (s : State) : Host.Outcome State Fault Refusal :=
  .next (receive tag 0x21#8 (1 + 8 * steps.length) (ownAppendSteps tag plan steps) s)

def execClosePlan (tag plan : Byte) (s : State) : Host.Outcome State Fault Refusal :=
  .next (receive tag 0x22#8 1 (ownClosePlan tag plan) s)

def execArmPlan (tag plan : Byte) (s : State) : Host.Outcome State Fault Refusal :=
  .next (receive tag 0x23#8 1 (ownArmPlan tag plan) s)

def execDisarmPlan (tag plan : Byte) (s : State) : Host.Outcome State Fault Refusal :=
  .next (receive tag 0x24#8 1 (ownDisarmPlan tag plan) s)

def execDeletePlan (tag plan : Byte) (s : State) : Host.Outcome State Fault Refusal :=
  .next (receive tag 0x25#8 1 (ownDeletePlan tag plan) s)

def execQueryPlan (tag plan : Byte) (s : State) : Host.Outcome State Fault Refusal :=
  .next (receive tag 0x26#8 1 (ownQueryPlan tag plan) s)

def execFire (tag plan : Byte) (s : State) : Host.Outcome State Fault Refusal :=
  .next (receive tag 0x27#8 1 (ownFire tag plan) s)

def execAbortRun (tag plan : Byte) (s : State) : Host.Outcome State Fault Refusal :=
  .next (receive tag 0x38#8 1 (ownAbortRun tag plan) s)

def execClearAcquisition (tag : Byte) (s : State) : Host.Outcome State Fault Refusal :=
  .next (receive tag 0x39#8 0 (ownClearAcquisition tag) s)

end Sys2Proof.Machine
end

