-- ==== Sys2Proof/Machine/PortRequests.lean ====
section
/-! DEFINITION. The requests the Probe Ports own: PORT-POWER (R97, R98, R110), QUERY-PORT (R115), PROBE-ACCESS (R134),
and the profile requests (R141 to R143). -/

namespace Sys2Proof.Machine

/-- The checks every request with a port number makes first: a number in range. -/
def State.withPort (s : State) (tag kind port : Byte) (f : Fin 8 → Port → State) : State :=
  match number? 8 port with
  | none => s.replyNot tag kind .badValue
  | some p => f p (s.port p)

/-! ## PORT-POWER -/

/-- The reply OK with the port state after the request (R97, R98). -/
def State.replyPower (s : State) (tag : Byte) (p : Fin 8) : State := s.replyOk tag 0x40#8 [(s.port p).state.code]

/-- The entry to POWERING, with an overcurrent that is already there taken at once (R97, R99). -/
def State.powerUp (s : State) (p : Fin 8) : State × List Act :=
  let s1 := s.setPort p (s.port p).enterPowering
  if (s.port p).ocLine then s1.portFault p .overcurrent else (s1, [])

/-- PORT-POWER ON (R97, Table 5-4). -/
def State.powerOn (s : State) (tag : Byte) (p : Fin 8) : State :=
  match (s.port p).state with
  | .off => (event (s.powerUp p)).replyPower tag p
  | .powering | .clocking | .identifying | .up | .retraining => s.replyPower tag p
  | .draining | .stopping | .fault => s.replyNot tag 0x40#8 .badState

/-- The entry to DRAINING, with a drain that has nothing to wait for ended at once (R105). -/
def State.startDrain (s : State) (p : Fin 8) : State × List Act :=
  let s1 := s.setPort p { s.port p with state := .draining }
  if (s.port p).txn.isNone then s1.drained p else (s1, [])

/-- What PORT-POWER OFF does at a port (R98, R110, Table 5-4). -/
def State.powerDown (s : State) (p : Fin 8) : State × List Act :=
  let q := s.port p
  match q.state with
  | .off | .draining | .stopping => (s, [])
  | .powering | .clocking | .identifying => (s.setPort p q.enterStopping, [])
  | .retraining => s.stopPort p
  | .up => if q.holder.isSome then s.startDrain p else s.stopPort p
  | .fault => ((s.setPort p q.enterOff).postPortState p, [])

/-- PORT-POWER with its choice: 0 OFF, 1 ON (R97, R98). -/
def ownPortPower (tag port choice : Byte) (s : State) : State :=
  match flag? choice with
  | none => s.replyNot tag 0x40#8 .badValue
  | some on =>
    s.withPort tag 0x40#8 port fun p _ =>
      if on then s.powerOn tag p else (event (s.powerDown p)).replyPower tag p

/-! ## QUERY-PORT -/

/-- QUERY-PORT (R115). -/
def ownQueryPort (tag port : Byte) (s : State) : State :=
  s.withPort tag 0x41#8 port fun _ q =>
    s.replyOk tag 0x41#8
      ([q.state.code, faultCode q.faultCause] ++ identityBytes q.identity
        ++ [byte q.effectiveWidth.bits, byte q.tally, flagByte q.commitPending, holderCode q.holder,
            byte q.waiters.length])

/-! ## PROBE-ACCESS -/

/-- A host access that has passed its checks requests the grant (R127, R134, R135). -/
def State.requestHostGrant (s : State) (p : Fin 8) (a : HostAccess) : State :=
  let q := s.port p
  match q.answer with
  | .granted => event (s.setPort p { q with holder := some .host, access := some a }, [.hostGranted p])
  | .wait => s.setPort p { q.join ⟨.host, 4⟩ with access := some { a with waitLeft := some Config.hostWait } }
  | .portDown => s.replyNot a.tag 0x42#8 .portDown

/-- Checks 2 to 4 of R134. -/
def State.checkAccess (s : State) (p : Fin 8) (sub : Fin 16) : Option Status :=
  let q := s.port p
  if q.state ≠ .up ∧ q.state ≠ .retraining then some .portDown
  else if q.access.isSome then some .portBusy
  else if q.subCount ≤ sub then some .subaddrAbsent
  else none

/-- PROBE-ACCESS (R134). -/
def ownProbeAccess (tag port function subAddress : Byte) (value : Value) (s : State) : State :=
  match number? 8 port, portFn? function value, number? 16 subAddress with
  | some p, some fn, some sub =>
    match s.checkAccess p sub with
    | some st => s.replyNot tag 0x42#8 st
    | none => s.requestHostGrant p { tag, fn, sub, waitLeft := none }
  | _, _, _ => s.replyNot tag 0x42#8 .badValue

/-! ## Profiles -/

/-- SET-PROFILE (R141): the staged profile is taken whole or not at all. -/
def ownSetProfile (tag port present rate timeout spacing retryLimit width signExtend silenceLimit attention : Byte)
    (s : State) : State :=
  s.withPort tag 0x48#8 port fun p q =>
    match writeFields present 0
        (profileFields rate timeout spacing retryLimit width signExtend silenceLimit attention) q.staged with
    | .error i => s.replyNot tag 0x48#8 .badValue (byte i)
    | .ok staged => (s.setPort p { q with staged }).replyOk tag 0x48#8 staged.bytes

/-- COMMIT-PROFILE (R143): APPLIED at once without a holder, else PENDING. -/
def ownCommitProfile (tag port : Byte) (s : State) : State :=
  s.withPort tag 0x49#8 port fun p q =>
    if q.holder.isNone then (s.setPort p q.copy).replyOk tag 0x49#8 [0x00#8, q.copy.state.code]
    else (s.setPort p { q with commitPending := true }).replyOk tag 0x49#8 [0x01#8, q.state.code]

/-- READ-PROFILE (R142): choice 0 is STAGED, 1 ACTIVE. -/
def ownReadProfile (tag port choice : Byte) (s : State) : State :=
  match flag? choice with
  | none => s.replyNot tag 0x4A#8 .badValue
  | some act =>
    s.withPort tag 0x4A#8 port fun _ q =>
      s.replyOk tag 0x4A#8 ((if act then q.active else q.staged).bytes ++ [flagByte q.commitPending])

/-! ## Meanings -/

def execPortPowerOn (tag port : Byte) (s : State) : Host.Outcome State Fault Refusal :=
  .next (receive tag 0x40#8 2 (ownPortPower tag port 0x01#8) s)

def execPortPowerOff (tag port : Byte) (s : State) : Host.Outcome State Fault Refusal :=
  .next (receive tag 0x40#8 2 (ownPortPower tag port 0x00#8) s)

def execQueryPort (tag port : Byte) (s : State) : Host.Outcome State Fault Refusal :=
  .next (receive tag 0x41#8 1 (ownQueryPort tag port) s)

def execProbeAccess (tag port function subAddress : Byte) (value : Value) (s : State) :
    Host.Outcome State Fault Refusal :=
  .next (receive tag 0x42#8 6 (ownProbeAccess tag port function subAddress value) s)

def execSetProfile (tag port present rate timeout spacing retryLimit width signExtend silenceLimit attention : Byte)
    (s : State) : Host.Outcome State Fault Refusal :=
  .next (receive tag 0x48#8 10
    (ownSetProfile tag port present rate timeout spacing retryLimit width signExtend silenceLimit attention) s)

def execCommitProfile (tag port : Byte) (s : State) : Host.Outcome State Fault Refusal :=
  .next (receive tag 0x49#8 1 (ownCommitProfile tag port) s)

def execReadProfile (tag port choice : Byte) (s : State) : Host.Outcome State Fault Refusal :=
  .next (receive tag 0x4A#8 2 (ownReadProfile tag port choice) s)

end Sys2Proof.Machine
end

