-- ==== Sys2Proof/Machine/RingRequests.lean ====
section
/-! DEFINITION. The requests the Ring Manager owns (R2 to R5, R18, R20, R22, R23) and READ-SEGMENT (R153, R154). -/

namespace Sys2Proof.Machine

/-! ## DEFINE-RING, DELETE-RING -/

/-- The ring that DEFINE-RING defines at a base block (R4). -/
def newRing (count size : Nat) (policy : Policy) (limit : Nat) (autoRelease : Bool) (base : Nat) : Ring :=
  { count, size, policy, stallLimit := limit, autoRelease, base
    segments := List.replicate count .empty, nextSeq := 0#32, discardCount := 0, gapPending := false
    fillPos := none, stallList := [] }

/-- The stall limit as held: checked under STALL, 0 under DISCARD (R3). -/
def stallLimit? (policy : Policy) (limit : Half) : Option Nat :=
  match policy with
  | .stall => range? 1 65535 limit.toNat
  | .discard => some 0

/-- The fields of a DEFINE-RING in range (R3 step 1): its number, and the ring it asks for, base block left open. -/
def ringFields? (ring count size policy : Byte) (limit : Half) (autoRelease : Byte) : Option (Fin 4 × (Nat → Ring)) := do
  let k ← number? 4 ring
  let count ← range? 2 16 count.toNat
  let size ← range? 1 64 size.toNat
  let policy ← policy? policy
  let limit ← stallLimit? policy limit
  let autoRelease ← flag? autoRelease
  pure (k, newRing count size policy limit autoRelease)

/-- DEFINE-RING (R3, R4). -/
def ownDefineRing (tag ring count size policy : Byte) (limit : Half) (autoRelease : Byte) (s : State) : State :=
  match ringFields? ring count size policy limit autoRelease with
  | none => s.replyNot tag 0x10#8 .badValue
  | some (k, mk) =>
    if (s.ring k).isSome then s.replyNot tag 0x10#8 .badState
    else
      match s.firstFit (mk 0).blockCount with
      | none => s.replyNot tag 0x10#8 .noMemory
      | some b => (s.setRing k (some (mk b))).replyOk tag 0x10#8 (bytesBE 2 b)

/-- The checks of R2: a ring number in range, and the ring defined. -/
def State.withRing (s : State) (tag kind ring : Byte) (f : Fin 4 → Ring → State) : State :=
  match number? 4 ring with
  | none => s.replyNot tag kind .badValue
  | some k =>
    match s.ring k with
    | none => s.replyNot tag kind .badState
    | some r => f k r

/-- A plan that names ring `k` is ARMED or has a run, or a segment of the ring is READING (R5). -/
def State.ringInUse (s : State) (k : Fin 4) (r : Ring) : Bool :=
  ((List.finRange 32).any fun p =>
    (s.plan p).attrs.ring == k && ((s.plan p).state == .armed || (s.plan p).runStatus != .idle))
  || r.segments.any fun g => match g.state with | .reading _ => true | _ => false

/-- DELETE-RING (R5). -/
def ownDeleteRing (tag ring : Byte) (s : State) : State :=
  s.withRing tag 0x11#8 ring fun k r =>
    if s.ringInUse k r then s.replyNot tag 0x11#8 .inUse else (s.setRing k none).replyOk tag 0x11#8 []

/-! ## SEAL-RING, RELEASE-SEGMENT -/

/-- SEAL-RING (R18). -/
def ownSealRing (tag ring : Byte) (s : State) : State :=
  s.withRing tag 0x12#8 ring fun k r =>
    match r.filling with
    | none => s.replyOk tag 0x12#8 (0x00#8 :: bytesBE 4 0 ++ bytesBE 2 0)
    | some i =>
      (s.sealSegment k r i .host).replyOk tag 0x12#8
        (0x01#8 :: bytesBE 4 r.nextSeq.toNat ++ bytesBE 2 (r.seg i).wordsUsed)

/-- RELEASE-SEGMENT (R20): the freed segment may wake the stall list. -/
def ownReleaseSegment (tag ring : Byte) (seqNo : Word) (s : State) : State :=
  s.withRing tag 0x13#8 ring fun k r =>
    match r.find seqNo with
    | none => s.replyNot tag 0x13#8 .notFound
    | some i =>
      match (r.seg i).state with
      | .sealed | .read => (event ((s.freeSegment k r i).wake k)).replyOk tag 0x13#8 []
      | .free | .filling | .reading _ => s.replyNot tag 0x13#8 .badState

/-! ## QUERY-RING, LIST-SEGMENTS -/

/-- The fields of the QUERY-RING reply for a defined ring, after its marker (R22). The rule gives the five state counts
no order: the model sends them in the order of Table 1-2 (notes/assumptions/14). -/
def Ring.queryFields (r : Ring) : List Byte :=
  [byte r.count, byte r.size, r.policy.code] ++ bytesBE 2 r.stallLimit ++ [flagByte r.autoRelease]
    ++ bytesBE 2 r.base ++ bytesBE 4 r.nextSeq.toNat ++ bytesBE 4 r.discardCount
    ++ [flagByte r.gapPending, byte r.stallList.length,
        byte (r.countState (· == .free)), byte (r.countState (· == .filling)), byte (r.countState (· == .sealed)),
        byte (r.countState fun st => match st with | .reading _ => true | _ => false),
        byte (r.countState (· == .read))]

/-- QUERY-RING (R22): an undefined ring is marked not defined, every other field 0. -/
def ownQueryRing (tag ring : Byte) (s : State) : State :=
  match number? 4 ring with
  | none => s.replyNot tag 0x14#8 .badValue
  | some k =>
    match s.ring k with
    | none => s.replyOk tag 0x14#8 (List.replicate 24 0x00#8)
    | some r => s.replyOk tag 0x14#8 (0x01#8 :: r.queryFields)

/-- The descriptors of segments `start` to `start + 7`, or to the last (R23). -/
def Ring.descriptors (r : Ring) (start : Nat) : List Byte :=
  (List.range (min 8 (r.count - start))).flatMap fun j => (r.seg (start + j)).bytes (start + j)

/-- LIST-SEGMENTS (R23). -/
def ownListSegments (tag ring start : Byte) (s : State) : State :=
  s.withRing tag 0x15#8 ring fun _ r =>
    if r.count ≤ start.toNat then s.replyNot tag 0x15#8 .badValue
    else s.replyOk tag 0x15#8 (r.descriptors start.toNat)

/-! ## READ-SEGMENT -/

/-- The claim (R154): the segment becomes READING and a stream is opened. -/
def State.claim (s : State) (tag : Byte) (k : Fin 4) (r : Ring) (i : Nat) : State :=
  let g := r.seg i
  { s.setRing k (some (r.setSeg i { g with state := .reading (g.state == .read) })) with
    streams := s.streams ++
      [{ tag, ring := k, segment := i, seqNo := g.seqNo, words := g.wordsUsed
         frameCount := (g.wordsUsed + Config.frameWords - 1) / Config.frameWords, nextChunk := 0 }] }

/-- Steps 3 and 4 of R153, and the claim. -/
def readFound (tag : Byte) (k : Fin 4) (r : Ring) (found : Option Nat) (s : State) : State :=
  match found with
  | none => s.replyNot tag 0x50#8 .notFound
  | some i =>
    match (r.seg i).state with
    | .reading _ => s.replyNot tag 0x50#8 .badState
    | .free | .filling | .sealed | .read => s.claim tag k r i

/-- READ-SEGMENT (R153): selector 0 is OLDEST, 1 a sequence number. -/
def ownReadSegment (tag ring selector : Byte) (seqNo : Word) (s : State) : State :=
  match flag? selector with
  | none => s.replyNot tag 0x50#8 .badValue
  | some named =>
    s.withRing tag 0x50#8 ring fun k r => readFound tag k r (if named then r.find seqNo else r.oldestSealed) s

/-! ## Meanings -/

def execDefineRing (tag ring count size policy : Byte) (limit : Half) (autoRelease : Byte) (s : State) :
    Host.Outcome State Fault Refusal :=
  .next (receive tag 0x10#8 7 (ownDefineRing tag ring count size policy limit autoRelease) s)

def execDeleteRing (tag ring : Byte) (s : State) : Host.Outcome State Fault Refusal :=
  .next (receive tag 0x11#8 1 (ownDeleteRing tag ring) s)

def execSealRing (tag ring : Byte) (s : State) : Host.Outcome State Fault Refusal :=
  .next (receive tag 0x12#8 1 (ownSealRing tag ring) s)

def execReleaseSegment (tag ring : Byte) (seqNo : Word) (s : State) : Host.Outcome State Fault Refusal :=
  .next (receive tag 0x13#8 5 (ownReleaseSegment tag ring seqNo) s)

def execQueryRing (tag ring : Byte) (s : State) : Host.Outcome State Fault Refusal :=
  .next (receive tag 0x14#8 1 (ownQueryRing tag ring) s)

def execListSegments (tag ring start : Byte) (s : State) : Host.Outcome State Fault Refusal :=
  .next (receive tag 0x15#8 2 (ownListSegments tag ring start) s)

def execReadSegment (tag ring selector : Byte) (seqNo : Word) (s : State) : Host.Outcome State Fault Refusal :=
  .next (receive tag 0x50#8 6 (ownReadSegment tag ring selector seqNo) s)

end Sys2Proof.Machine
end

