-- ==== Sys2Proof/Machine/TriggerCommands.lean ====
section
/-! DEFINITION. The requests the Trigger Unit owns (R49, R50, R52, R55), its events (R53, R54, R56), and the Run
Queue's hand-over (R60). -/

namespace Sys2Proof.Machine

/-! ## Requests -/

/-- SET-TIME (R49): the reply gives the value held just before the load. -/
def ownSetTime (tag : Byte) (time : Time) (s : State) : State :=
  { s with timeBase := time }.replyOk tag 0x30#8 (bytesBE 6 s.timeBase.toNat)

/-- READ-TIME (R50). -/
def ownReadTime (tag : Byte) (s : State) : State := s.replyOk tag 0x31#8 (bytesBE 6 s.timeBase.toNat)

/-- The settings of SET-TRIGGER-INPUT in range (R52); the holdoff timer becomes ELAPSED. -/
def triggerInput? (input enabled edge : Byte) (holdoff : Half) : Option (Fin 4 × TrigInput) := do
  let n ← number? 4 input
  let enabled ← flag? enabled
  let edge ← edge? edge
  pure (n, { enabled, edge, holdoff := holdoff.toNat, timer := none })

/-- SET-TRIGGER-INPUT (R52). -/
def ownSetTriggerInput (tag input enabled edge : Byte) (holdoff : Half) (s : State) : State :=
  match triggerInput? input enabled edge holdoff with
  | none => s.replyNot tag 0x32#8 .badValue
  | some (n, x) => (s.setInput n x).replyOk tag 0x32#8 []

/-- SET-CADENCE (R55). -/
def ownSetCadence (tag generator enable : Byte) (period : Value) (s : State) : State :=
  match number? 4 generator, flag? enable with
  | some n, some false =>
    (s.setCadence n { s.cadence n with enabled := false, countdown := none }).replyOk tag 0x33#8 []
  | some n, some true =>
    match range? 10 16777215 period.toNat with
    | none => s.replyNot tag 0x33#8 .badValue
    | some t => (s.setCadence n { enabled := true, period := t, countdown := some t }).replyOk tag 0x33#8 []
  | _, _ => s.replyNot tag 0x33#8 .badValue

/-! ## Events -/

/-- A firing at the present time: its arrivals at the plans bound to the source (R57, R58). -/
def State.fireSource (s : State) (source : Source) : State × List Act := (s, s.arrivals source s.timeBase)

/-- An edge is accepted (R53). -/
def TrigInput.accepts (x : TrigInput) (rising : Bool) : Bool :=
  x.enabled && x.timer.isNone && (x.edge == if rising then .rising else .falling)

/-- An edge on TRGn (R53). -/
def trgEdge (n : Fin 4) (rising : Bool) (s : State) : State :=
  let x := s.input n
  if x.accepts rising then
    event ((s.setInput n { x with timer := if x.holdoff = 0 then none else some x.holdoff }).fireSource (.ext n))
  else s

/-- A RUNNING holdoff timer expires (R54). -/
def holdoffExpiry (n : Fin 4) (s : State) : State := s.setInput n { s.input n with timer := none }

/-- An enabled generator's countdown ends: it reloads and fires (R56). -/
def State.cadenceEnd (s : State) (n : Fin 4) : State × List Act :=
  let c := s.cadence n
  if c.countdown.isSome then (s.setCadence n { c with countdown := some c.period }).fireSource (.cadence n)
  else (s, [])

def cadenceExpiry (n : Fin 4) (s : State) : State := event (s.cadenceEnd n)

/-- RUN_TAKE: an IDLE engine takes the head of the Run Queue (R60); an engine resting in STARTING goes on. -/
def runTake (s : State) : State :=
  let x := s.takeHead
  event (x.1, s.startingActs ++ x.2)

/-! ## Meanings -/

def execSetTime (tag : Byte) (time : Time) (s : State) : Host.Outcome State Fault Refusal :=
  .next (receive tag 0x30#8 6 (ownSetTime tag time) s)

def execReadTime (tag : Byte) (s : State) : Host.Outcome State Fault Refusal :=
  .next (receive tag 0x31#8 0 (ownReadTime tag) s)

def execSetTriggerInput (tag input enabled edge : Byte) (holdoff : Half) (s : State) :
    Host.Outcome State Fault Refusal :=
  .next (receive tag 0x32#8 5 (ownSetTriggerInput tag input enabled edge holdoff) s)

def execSetCadence (tag generator enable : Byte) (period : Value) (s : State) : Host.Outcome State Fault Refusal :=
  .next (receive tag 0x33#8 5 (ownSetCadence tag generator enable period) s)

def execTrgEdge (input : Fin 4) (rising : Bool) (s : State) : Host.Outcome State Fault Refusal :=
  .next (awake (trgEdge input rising) s)

def execHoldoffExpiry (input : Fin 4) (s : State) : Host.Outcome State Fault Refusal :=
  .next (awake (holdoffExpiry input) s)

def execCadenceExpiry (generator : Fin 4) (s : State) : Host.Outcome State Fault Refusal :=
  .next (awake (cadenceExpiry generator) s)

def execRunTake (s : State) : Host.Outcome State Fault Refusal := .next (awake runTake s)

end Sys2Proof.Machine
end

