-- ==== Sys2Proof/Machine/LineEvents.lean ====
section
/-! DEFINITION. The host line's events: the receiver (R189 to R191), the end of a frame on TXD (R198), the transmitter's
take (R196), and the two resets (R204 to R206). -/

namespace Sys2Proof.Machine

/-! ## The body of a frame, read by its kind (Table 10-12) -/

/-- Bytes `i` to `i + n - 1` of a body, most significant first. -/
def field (body : List Byte) (i n : Nat) : Nat := natBE ((body.drop i).take n)

/-- The encoded steps of an APPEND-STEPS body after its plan number (Table 10-14). -/
def encodedSteps : Nat → List Byte → List EncodedStep
  | 0, _ => []
  | n + 1, bs =>
    { kind := byte (field bs 0 1), port := byte (field bs 1 1), flags := byte (field bs 2 1)
      count := BitVec.ofNat 16 (field bs 3 2), value := BitVec.ofNat 24 (field bs 5 3) }
      :: encodedSteps n (bs.drop 8)

/-- The owner of an admitted frame acts on its body, whose length admission has checked (R192, Table 10-12). -/
def ownerOf (tag kind : Byte) (body : List Byte) : State → State :=
  let b (i : Nat) : Byte := body.getD i 0x00#8
  match kind.toNat with
  | 0x01 => ownOpenSession tag
  | 0x02 => ownCloseSession tag
  | 0x03 => ownIdentify tag
  | 0x04 => ownAbortRequest tag (b 0)
  | 0x05 => ownResetDevice tag
  | 0x10 => ownDefineRing tag (b 0) (b 1) (b 2) (b 3) (BitVec.ofNat 16 (field body 4 2)) (b 6)
  | 0x11 => ownDeleteRing tag (b 0)
  | 0x12 => ownSealRing tag (b 0)
  | 0x13 => ownReleaseSegment tag (b 0) (BitVec.ofNat 32 (field body 1 4))
  | 0x14 => ownQueryRing tag (b 0)
  | 0x15 => ownListSegments tag (b 0) (b 1)
  | 0x20 => ownOpenPlan tag (b 0) (b 1) (b 2) (b 3) (b 4) (b 5) (b 6)
  | 0x21 => ownAppendSteps tag (b 0) (encodedSteps ((body.length - 1) / 8) (body.drop 1))
  | 0x22 => ownClosePlan tag (b 0)
  | 0x23 => ownArmPlan tag (b 0)
  | 0x24 => ownDisarmPlan tag (b 0)
  | 0x25 => ownDeletePlan tag (b 0)
  | 0x26 => ownQueryPlan tag (b 0)
  | 0x27 => ownFire tag (b 0)
  | 0x30 => ownSetTime tag (BitVec.ofNat 48 (field body 0 6))
  | 0x31 => ownReadTime tag
  | 0x32 => ownSetTriggerInput tag (b 0) (b 1) (b 2) (BitVec.ofNat 16 (field body 3 2))
  | 0x33 => ownSetCadence tag (b 0) (b 1) (BitVec.ofNat 24 (field body 2 3))
  | 0x38 => ownAbortRun tag (b 0)
  | 0x39 => ownClearAcquisition tag
  | 0x40 => ownPortPower tag (b 0) (b 1)
  | 0x41 => ownQueryPort tag (b 0)
  | 0x42 => ownProbeAccess tag (b 0) (b 1) (b 2) (BitVec.ofNat 24 (field body 3 3))
  | 0x48 => ownSetProfile tag (b 0) (b 1) (b 2) (b 3) (b 4) (b 5) (b 6) (b 7) (b 8) (b 9)
  | 0x49 => ownCommitProfile tag (b 0)
  | 0x4A => ownReadProfile tag (b 0) (b 1)
  | 0x50 => ownReadSegment tag (b 0) (b 1) (BitVec.ofNat 32 (field body 2 4))
  | 0x58 => ownSetNoticeMode tag (b 0)
  | 0x59 => ownGrantCredits tag (b 0)
  | 0x5A => ownTakeNotices tag (b 0)
  | 0x5B => ownAckNotices tag (BitVec.ofNat 16 (field body 0 2))
  | 0x5C => ownResendNotices tag
  | _ => id

/-! ## The receiver -/

/-- The receiver's own state. -/
def State.setReceiver (s : State) (r : Receiver) : State := { s with link := { s.link with receiver := r } }

/-- A complete frame: LEN, TAG, KIND, the body and the two CRC bytes. A matching CRC makes it valid, and it goes to
admission (R189, R190). -/
def State.frameComplete (s : State) (bytes : List Byte) (len : Nat) : State :=
  let covered := bytes.take (len + 1)
  let tag := covered.getD 1 0x00#8
  let kind := covered.getD 2 0x00#8
  let body := covered.drop 3
  if field bytes (len + 1) 2 = (crc covered).toNat then
    receive tag kind body.length (ownerOf tag kind body) (s.setReceiver .hunt)
  else s.rejectFrame .crc tag

/-- A byte taken in FRAME (R189, R191). -/
def State.frameByte (s : State) (bytes : List Byte) : State :=
  let len := (bytes.getD 0 0x00#8).toNat
  if len < 2 ∨ 250 < len then s.rejectFrame .length 0x00#8
  else if bytes.length < len + 3 then s.setReceiver (.frame bytes Config.gapLimit)
  else s.frameComplete bytes len

/-- A byte received on RXD (R188, R189): nothing is taken while RESET is asserted or reset pending is set, and a
character with its stop bit low is as if it had not arrived. -/
def rxdByte (b : Byte) (stopBit : Bool) (s : State) : State :=
  if s.inReset || s.link.resetPending || !stopBit then s
  else
    match s.link.receiver with
    | .hunt => if b = sof then s.setReceiver (.frame [] Config.gapLimit) else s
    | .frame bytes _ => s.frameByte (bytes ++ [b])

/-- The gap timer expires in FRAME: TRUNCATED, with the TAG byte if it had arrived (R191). No frame reject is made while
reset pending is set (R204). -/
def gapTimerExpiry (s : State) : State :=
  match s.link.receiver with
  | .hunt => s
  | .frame bytes _ =>
    if s.link.resetPending then s.setReceiver .hunt else s.rejectFrame .truncated (bytes.getD 1 0x00#8)

/-! ## The transmitter and the reset of RESET-DEVICE -/

/-- The transmitter is sending the final reply of a RESET-DEVICE, with reset pending set (R204). -/
def State.endsInReset (s : State) : Bool :=
  s.link.resetPending &&
    match s.link.transmitter with
    | some { what := .finalReply tag, .. } => s.link.outstanding.any fun o => o.tag == tag && o.kind == 0x05#8
    | _ => false

/-- A final reply has been completely sent: its outstanding entry is removed (R194, R198), and a CLEAR-ACQUISITION it
answers is no longer in progress (R93). -/
def State.replySent (s : State) (tag : Byte) : State :=
  { s with
    link := { s.link with outstanding := s.link.outstanding.filter fun o => o.tag != tag }
    clear := s.clear.filter fun c => !(c.placed && c.tag == tag) }

/-- The transmitter becomes IDLE at the end of a frame. -/
def State.frameSent (s : State) (what : Sending) : State :=
  let s1 : State := { s with link := { s.link with transmitter := none } }
  match what with
  | .other => s1
  | .finalReply tag => s1.replySent tag

/-- The last byte of a frame has been sent (R196, R198): the next frame is taken within the same event. After the last
byte of the RESET-DEVICE reply the device reset is performed instead (R204). -/
def txdFrameEnd (s : State) : State :=
  match s.link.transmitter with
  | none => s
  | some f => if s.endsInReset then s.resetByRequest else (s.frameSent f.what).transmit

/-- The IDLE transmitter takes a frame (R196). -/
def transmitterTake (s : State) : State := s.transmit

/-- The last byte of the RESET-DEVICE reply has been sent: the device reset with cause REQUEST (R204, R206). -/
def deviceResetRequest (s : State) : State := if s.endsInReset then s.resetByRequest else s

/-! ## Meanings -/

/-- R188: RXD is not acted on while RESET is asserted. -/
def execRxdByte (byte : Byte) (stopBit : Bool) (s : State) : Host.Outcome State Fault Refusal :=
  .next (rxdByte byte stopBit s)

def execGapTimerExpiry (s : State) : Host.Outcome State Fault Refusal := .next (awake gapTimerExpiry s)

def execTxdFrameEnd (s : State) : Host.Outcome State Fault Refusal := .next (awake txdFrameEnd s)

def execTransmitterTake (s : State) : Host.Outcome State Fault Refusal := .next (awake transmitterTake s)

/-- RESET is asserted: a device reset with cause PIN begins, whatever was going on (R117, R188, R204). -/
def execResetAsserted (straps : BitVec 2) (s : State) : Host.Outcome State Fault Refusal := .next (s.heldInReset straps)

/-- RESET is released: the device reset ends (R206). -/
def execResetReleased (s : State) : Host.Outcome State Fault Refusal := .next (if s.inReset then s.released else s)

def execDeviceResetRequest (s : State) : Host.Outcome State Fault Refusal := .next (awake deviceResetRequest s)

end Sys2Proof.Machine
end

