-- ==== Sys2Proof/Machine/Flags.lean ====
section
/-! DEFINITION. The lines the part drives, each a view of the state that decides it: HATN (R184), PnPWR, PnCLK and
PnDO (R96, Table 5-2), TXD (R188). -/

namespace Sys2Proof.Machine

/-- HATN is asserted: undelivered entries exist and no notice frame can be offered (R184). -/
def State.hatnAsserted (s : State) : Bool :=
  !s.inReset && !s.notices.undelivered.isEmpty && (s.notices.mode == .poll || s.notices.credits == 0)

/-- PnPWR is active (R96); the level the port keeps, held inactive while RESET is asserted (R117). -/
def State.pwrActive (s : State) (p : Fin 8) : Bool := !s.inReset && (s.port p).supply

/-- PnCLK runs in these states (R96, Table 5-2). -/
def PortState.clocked : PortState → Bool
  | .clocking | .identifying | .up | .retraining | .draining => true
  | .off | .powering | .stopping | .fault => false

/-- The rate PnCLK runs at, or none while it is stopped and held low. -/
def State.clockRate (s : State) (p : Fin 8) : Option Rate :=
  if !s.inReset && (s.port p).state.clocked then some (s.port p).active.rate else none

/-- The request word PnDO carries from its start bit to its parity bit (R121); none once it has gone out, while the
response timeout runs, and none of a word whose transaction has been abandoned (DESIGN CHOICE, notes/assumptions/30). -/
def State.probeWord (s : State) (p : Fin 8) : Option Word :=
  (s.port p).txn.bind fun t => if 0 < t.wordLeft then some (requestWord t.fn t.sub t.data) else none

/-- The bytes of the frame on TXD; none: TXD is high (R188). -/
def State.txdBytes (s : State) : Option (List Byte) := s.link.transmitter.map (·.bytes)

/-- PnATN is acted on in UP, when the identity has ATN (R113). -/
def Port.heedsAttention (p : Port) : Bool := p.state == .up && p.identity.any (·.atn)

end Sys2Proof.Machine
end

