-- ==== Sys2Proof/Machine/PortEvents.lean ====
section
/-! DEFINITION. The events of the Probe Ports: the probe line (R122 to R125), the phase timers (R99 to R106), overcurrent
(R109), attention (R113), the host wait limit (R135), and the arbiter's internal events (R105, R129, R144). Each acts
only where what it ends is there, and otherwise changes nothing (R125, R109, R113). -/

namespace Sys2Proof.Machine

/-! ## The probe line -/

/-- A response word's last bit has arrived (R122 to R125): a word whose first bit is no start bit, or came before the
last bit of the request word, is ignored, and a word with no transaction in flight is discarded. -/
def probeResponse (p : Fin 8) (word : Word) (early : Bool) (s : State) : State :=
  if early || !word.msb then s else event (s.txnEnd p (judge word) (responseData word))

/-- The response timeout expires: SILENT with data 0 (R123). -/
def responseTimeout (p : Fin 8) (s : State) : State := event (s.txnEnd p .silent 0#24)

/-- The quiet period ends, and an identify attempt that has fallen due in it starts (R125, R148). -/
def quietPeriodEnd (p : Fin 8) (s : State) : State :=
  let q := { s.port p with quiet := none }
  if (s.port p).quiet.isNone then s else s.setPort p (if q.attemptDue then q.attempt else q)

/-! ## Phase timers -/

/-- The POWERING settle ends (R99, R100). -/
def powerSettleExpiry (p : Fin 8) (s : State) : State :=
  let q := s.port p
  if q.state = .powering ∧ q.phase.isSome then s.setPort p q.enterClocking else s

/-- The clock settle of CLOCKING ends: IDENTIFYING, with its first attempt (R100, R101). -/
def clockSettleExpiry (p : Fin 8) (s : State) : State :=
  let q := s.port p
  if q.state = .clocking ∧ q.phase.isSome then s.setPort p ({ q with state := .identifying, attempts := 0 }.attempt)
  else s

/-- The clock settle of RETRAINING ends: the first attempt (R103). -/
def retrainSettleExpiry (p : Fin 8) (s : State) : State :=
  let q := s.port p
  if q.state = .retraining ∧ q.attempts = 0 ∧ q.phase.isSome then s.setPort p q.attempt else s

/-- The spacing after a failed identify attempt ends: the next attempt (R101, R103). -/
def identifySpacingExpiry (p : Fin 8) (s : State) : State :=
  let q := s.port p
  if (q.state = .identifying ∨ q.state = .retraining) ∧ 0 < q.attempts ∧ q.phase.isSome then s.setPort p q.attempt
  else s

/-- The first millisecond of STOPPING ends: the supply goes off, the discharge begins (R106). -/
def stopClockExpiry (p : Fin 8) (s : State) : State :=
  let q := s.port p
  if q.state = .stopping ∧ q.supply then s.setPort p { q with supply := false, phase := some Config.discharge } else s

/-- The discharge ends: the port enters OFF (R106, R114). -/
def dischargeExpiry (p : Fin 8) (s : State) : State :=
  let q := s.port p
  if q.state = .stopping ∧ !q.supply then (s.setPort p q.enterOff).postPortState p else s

/-! ## Lines of a port -/

/-- PnOC goes to a level; asserted while PnPWR is active, the overcurrent is taken (R109). PnPWR is inactive while RESET
is asserted (R117). -/
def overcurrent (p : Fin 8) (asserted : Bool) (s : State) : State :=
  let s1 := s.setPort p { s.port p with ocLine := asserted }
  if asserted && s.pwrActive p then event (s1.portFault p .overcurrent) else s1

/-- An edge on PnATN (R113). -/
def attentionEdge (p : Fin 8) (rising : Bool) (s : State) : State :=
  if rising && (s.port p).heedsAttention then
    let s1 := if (s.port p).active.attention then s.post .probeAttention (byte p) 0#32 0#16 else s
    event (s1, s1.arrivals (.attn p) s1.timeBase)
  else s

/-! ## The arbiter -/

/-- The wait limit of a waiting host access expires (R135). -/
def hostWaitLimitExpiry (p : Fin 8) (s : State) : State := s.endWaiting p .portBusy

/-- A drain ends that has no transaction to wait for (R105). -/
def drainEnd (p : Fin 8) (s : State) : State :=
  let q := s.port p
  if q.state = .draining ∧ q.txn.isNone then event (s.drained p) else s

/-- The head of the wait list of an UP port without a holder is given the grant (R129, R130). -/
def grant (p : Fin 8) (s : State) : State :=
  let q := s.port p
  if q.state = .up ∧ q.holder.isNone ∧ !q.commitPending then event (s.grantHead p) else s

/-- A pending commit is applied once no holder remains (R144). -/
def profileCopy (p : Fin 8) (s : State) : State :=
  let q := s.port p
  if q.commitPending ∧ q.holder.isNone then s.setPort p q.copy else s

/-! ## Meanings -/

def execProbeResponse (port : Fin 8) (word : Word) (early : Bool) (s : State) : Host.Outcome State Fault Refusal :=
  .next (awake (probeResponse port word early) s)

def execResponseTimeout (port : Fin 8) (s : State) : Host.Outcome State Fault Refusal :=
  .next (awake (responseTimeout port) s)

def execQuietPeriodEnd (port : Fin 8) (s : State) : Host.Outcome State Fault Refusal :=
  .next (awake (quietPeriodEnd port) s)

def execHostWaitLimitExpiry (port : Fin 8) (s : State) : Host.Outcome State Fault Refusal :=
  .next (awake (hostWaitLimitExpiry port) s)

def execPowerSettleExpiry (port : Fin 8) (s : State) : Host.Outcome State Fault Refusal :=
  .next (awake (powerSettleExpiry port) s)

def execClockSettleExpiry (port : Fin 8) (s : State) : Host.Outcome State Fault Refusal :=
  .next (awake (clockSettleExpiry port) s)

def execRetrainSettleExpiry (port : Fin 8) (s : State) : Host.Outcome State Fault Refusal :=
  .next (awake (retrainSettleExpiry port) s)

def execIdentifySpacingExpiry (port : Fin 8) (s : State) : Host.Outcome State Fault Refusal :=
  .next (awake (identifySpacingExpiry port) s)

def execStopClockExpiry (port : Fin 8) (s : State) : Host.Outcome State Fault Refusal :=
  .next (awake (stopClockExpiry port) s)

def execDischargeExpiry (port : Fin 8) (s : State) : Host.Outcome State Fault Refusal :=
  .next (awake (dischargeExpiry port) s)

/-- PnOC is a level outside the part, so it is known while RESET is asserted too, though not acted on then (R117). -/
def execOvercurrent (port : Fin 8) (asserted : Bool) (s : State) : Host.Outcome State Fault Refusal :=
  .next (overcurrent port asserted s)

def execAttentionEdge (port : Fin 8) (rising : Bool) (s : State) : Host.Outcome State Fault Refusal :=
  .next (awake (attentionEdge port rising) s)

def execDrainEnd (port : Fin 8) (s : State) : Host.Outcome State Fault Refusal := .next (awake (drainEnd port) s)

def execGrant (port : Fin 8) (s : State) : Host.Outcome State Fault Refusal := .next (awake (grant port) s)

def execProfileCopy (port : Fin 8) (s : State) : Host.Outcome State Fault Refusal := .next (awake (profileCopy port) s)

end Sys2Proof.Machine
end

