-- ==== Sys2Proof/Machine/Dispatch.lean ====
section
/-! DEFINITION. The meaning of each command of spec/opcode_table.json. -/

namespace Sys2Proof.Machine

def exec (i : Instr) (s : State) : Host.Outcome State Fault Refusal :=
  match i with
  | .openSession tag => Sys2Proof.Machine.execOpenSession tag s
  | .closeSession tag => Sys2Proof.Machine.execCloseSession tag s
  | .identify tag => Sys2Proof.Machine.execIdentify tag s
  | .abortRequest tag target => Sys2Proof.Machine.execAbortRequest tag target s
  | .resetDevice tag => Sys2Proof.Machine.execResetDevice tag s
  | .defineRing tag ring count size policy limit autoRelease => Sys2Proof.Machine.execDefineRing tag ring count size policy limit autoRelease s
  | .deleteRing tag ring => Sys2Proof.Machine.execDeleteRing tag ring s
  | .sealRing tag ring => Sys2Proof.Machine.execSealRing tag ring s
  | .releaseSegment tag ring seqNo => Sys2Proof.Machine.execReleaseSegment tag ring seqNo s
  | .queryRing tag ring => Sys2Proof.Machine.execQueryRing tag ring s
  | .listSegments tag ring start => Sys2Proof.Machine.execListSegments tag ring start s
  | .openPlan tag plan priority ring bindType bindNumber overlap sealOnEnd => Sys2Proof.Machine.execOpenPlan tag plan priority ring bindType bindNumber overlap sealOnEnd s
  | .appendSteps tag plan steps => Sys2Proof.Machine.execAppendSteps tag plan steps s
  | .closePlan tag plan => Sys2Proof.Machine.execClosePlan tag plan s
  | .armPlan tag plan => Sys2Proof.Machine.execArmPlan tag plan s
  | .disarmPlan tag plan => Sys2Proof.Machine.execDisarmPlan tag plan s
  | .deletePlan tag plan => Sys2Proof.Machine.execDeletePlan tag plan s
  | .queryPlan tag plan => Sys2Proof.Machine.execQueryPlan tag plan s
  | .fire tag plan => Sys2Proof.Machine.execFire tag plan s
  | .setTime tag time => Sys2Proof.Machine.execSetTime tag time s
  | .readTime tag => Sys2Proof.Machine.execReadTime tag s
  | .setTriggerInput tag input enabled edge holdoff => Sys2Proof.Machine.execSetTriggerInput tag input enabled edge holdoff s
  | .setCadence tag generator enable period => Sys2Proof.Machine.execSetCadence tag generator enable period s
  | .abortRun tag plan => Sys2Proof.Machine.execAbortRun tag plan s
  | .clearAcquisition tag => Sys2Proof.Machine.execClearAcquisition tag s
  | .portPowerOn tag port => Sys2Proof.Machine.execPortPowerOn tag port s
  | .portPowerOff tag port => Sys2Proof.Machine.execPortPowerOff tag port s
  | .queryPort tag port => Sys2Proof.Machine.execQueryPort tag port s
  | .probeAccess tag port function subAddress value => Sys2Proof.Machine.execProbeAccess tag port function subAddress value s
  | .setProfile tag port present rate timeout spacing retryLimit width signExtend silenceLimit attention => Sys2Proof.Machine.execSetProfile tag port present rate timeout spacing retryLimit width signExtend silenceLimit attention s
  | .commitProfile tag port => Sys2Proof.Machine.execCommitProfile tag port s
  | .readProfile tag port choice => Sys2Proof.Machine.execReadProfile tag port choice s
  | .readSegment tag ring selector seqNo => Sys2Proof.Machine.execReadSegment tag ring selector seqNo s
  | .setNoticeMode tag mode => Sys2Proof.Machine.execSetNoticeMode tag mode s
  | .grantCredits tag count => Sys2Proof.Machine.execGrantCredits tag count s
  | .takeNotices tag maximum => Sys2Proof.Machine.execTakeNotices tag maximum s
  | .ackNotices tag number => Sys2Proof.Machine.execAckNotices tag number s
  | .resendNotices tag => Sys2Proof.Machine.execResendNotices tag s
  | .rxdByte byte stopBit => Sys2Proof.Machine.execRxdByte byte stopBit s
  | .gapTimerExpiry => Sys2Proof.Machine.execGapTimerExpiry s
  | .txdFrameEnd => Sys2Proof.Machine.execTxdFrameEnd s
  | .transmitterTake => Sys2Proof.Machine.execTransmitterTake s
  | .resetAsserted straps => Sys2Proof.Machine.execResetAsserted straps s
  | .resetReleased => Sys2Proof.Machine.execResetReleased s
  | .deviceResetRequest => Sys2Proof.Machine.execDeviceResetRequest s
  | .trgEdge input rising => Sys2Proof.Machine.execTrgEdge input rising s
  | .holdoffExpiry input => Sys2Proof.Machine.execHoldoffExpiry input s
  | .cadenceExpiry generator => Sys2Proof.Machine.execCadenceExpiry generator s
  | .probeResponse port word early => Sys2Proof.Machine.execProbeResponse port word early s
  | .responseTimeout port => Sys2Proof.Machine.execResponseTimeout port s
  | .quietPeriodEnd port => Sys2Proof.Machine.execQuietPeriodEnd port s
  | .spacingExpiry engine => Sys2Proof.Machine.execSpacingExpiry engine s
  | .waitExpiry engine => Sys2Proof.Machine.execWaitExpiry engine s
  | .stallTimerExpiry engine => Sys2Proof.Machine.execStallTimerExpiry engine s
  | .hostWaitLimitExpiry port => Sys2Proof.Machine.execHostWaitLimitExpiry port s
  | .powerSettleExpiry port => Sys2Proof.Machine.execPowerSettleExpiry port s
  | .clockSettleExpiry port => Sys2Proof.Machine.execClockSettleExpiry port s
  | .retrainSettleExpiry port => Sys2Proof.Machine.execRetrainSettleExpiry port s
  | .identifySpacingExpiry port => Sys2Proof.Machine.execIdentifySpacingExpiry port s
  | .stopClockExpiry port => Sys2Proof.Machine.execStopClockExpiry port s
  | .dischargeExpiry port => Sys2Proof.Machine.execDischargeExpiry port s
  | .overcurrent port asserted => Sys2Proof.Machine.execOvercurrent port asserted s
  | .attentionEdge port rising => Sys2Proof.Machine.execAttentionEdge port rising s
  | .runTake => Sys2Proof.Machine.execRunTake s
  | .stallWake ring => Sys2Proof.Machine.execStallWake ring s
  | .drainEnd port => Sys2Proof.Machine.execDrainEnd port s
  | .grant port => Sys2Proof.Machine.execGrant port s
  | .profileCopy port => Sys2Proof.Machine.execProfileCopy port s
  | .acquisitionClear => Sys2Proof.Machine.execAcquisitionClear s

end Sys2Proof.Machine
end

