-- ==== Sys2Proof/Machine/Tick.lean ====
section
/-! DEFINITION. One microsecond with no command waiting (DESIGN CHOICE, notes/assumptions/2): the time base counts
(R47), every running timer comes one microsecond nearer its end, the timers that have come to it expire by the same
operations as their commands, and what the part does of itself is done: engines resting in STARTING go on, and an IDLE
transmitter takes a frame. All but that take is one event, so engines whose runs end by timers of one microsecond become
IDLE together (R60). The take is a second event after it: an engine that it wakes and whose run then ends becomes IDLE
when the Run Queue has already handed out (DESIGN CHOICE, notes/assumptions/2). -/

namespace Sys2Proof.Machine

/-! ## Time passing -/

/-- One microsecond less on an optional timer. -/
def lessOne (t : Option Nat) : Option Nat := t.map (· - 1)

def Transaction.elapse (t : Transaction) : Transaction :=
  if 0 < t.wordLeft then { t with wordLeft := t.wordLeft - 1 } else { t with left := t.left - 1 }

def Port.elapse (p : Port) : Port :=
  { p with
    phase := lessOne p.phase
    txn := p.txn.map Transaction.elapse
    quiet := lessOne p.quiet
    access := p.access.map fun a => { a with waitLeft := lessOne a.waitLeft } }

def Engine.elapse (e : Engine) : Engine :=
  match e.state with
  | .spacing n => { e with state := .spacing (n - 1) }
  | .waiting n => { e with state := .waiting (n - 1) }
  | .idle | .starting _ | .awaitPort | .transact | .stalled _ | .ending => e

def Ring.elapse (r : Ring) : Ring :=
  { r with stallList := r.stallList.map fun x => { x with timer := x.timer - 1 } }

def Receiver.elapse : Receiver → Receiver
  | .hunt => .hunt
  | .frame bytes gap => .frame bytes (gap - 1)

/-- Every clock of the part one microsecond on. -/
def State.elapse (s : State) : State :=
  { s with
    timeBase := s.timeBase + 1
    inputs := s.inputs.map fun x => { x with timer := lessOne x.timer }
    cadences := s.cadences.map fun x => { x with countdown := lessOne x.countdown }
    engines := s.engines.map Engine.elapse
    rings := s.rings.map fun o => o.map Ring.elapse
    ports := s.ports.map Port.elapse
    link := { s.link with receiver := s.link.receiver.elapse } }

/-! ## Timers that have come to their end -/

def expireGap (s : State) : State :=
  match s.link.receiver with
  | .frame _ 0 => gapTimerExpiry s
  | _ => s

def expireInput (s : State) (n : Fin 4) : State :=
  match (s.input n).timer with
  | some 0 => holdoffExpiry n s
  | _ => s

def expireCadence (n : Fin 4) (s : State) : State × List Act :=
  match (s.cadence n).countdown with
  | some 0 => s.cadenceEnd n
  | _ => (s, [])

def expireTxn (p : Fin 8) (s : State) : State × List Act :=
  match (s.port p).txn with
  | some t => if t.wordLeft = 0 ∧ t.left = 0 then s.txnEnd p .silent 0#24 else (s, [])
  | none => (s, [])

def expireQuiet (s : State) (p : Fin 8) : State :=
  match (s.port p).quiet with
  | some 0 => quietPeriodEnd p s
  | _ => s

/-- The phase timer of a port ends what the port's state times. -/
def phaseEnd (s : State) (p : Fin 8) : State :=
  match (s.port p).state with
  | .powering => powerSettleExpiry p s
  | .clocking => clockSettleExpiry p s
  | .identifying => identifySpacingExpiry p s
  | .retraining => if (s.port p).attempts = 0 then retrainSettleExpiry p s else identifySpacingExpiry p s
  | .stopping => if (s.port p).supply then stopClockExpiry p s else dischargeExpiry p s
  | .off | .up | .draining | .fault => s

def expirePhase (s : State) (p : Fin 8) : State :=
  match (s.port p).phase with
  | some 0 => phaseEnd s p
  | _ => s

def expireHostWait (s : State) (p : Fin 8) : State :=
  match (s.port p).access with
  | some { waitLeft := some 0, .. } => hostWaitLimitExpiry p s
  | _ => s

/-- The timers of a port: its response timeout with what follows from it, then the others. -/
def Moment.expirePort (x : Moment) (p : Fin 8) : Moment :=
  let y := x.also (expireTxn p)
  { y with st := expireHostWait (expirePhase (expireQuiet y.st p) p) p }

/-- The engine's stall timer has come to its end. -/
def State.stallEnded (s : State) (e : Fin 4) : Bool :=
  (List.finRange 4).any fun k =>
    (s.ring k).any fun r => r.stallList.any fun x => x.engine == e && x.timer == 0

def expireEngine (e : Fin 4) (s : State) : State × List Act :=
  match (s.engine e).state with
  | .spacing 0 => (spacingExpiry e s, [])
  | .waiting 0 => s.waitEnd e
  | .stalled _ => if s.stallEnded e then s.stallEnd e else (s, [])
  | _ => (s, [])

/-- The expiries of one microsecond, in the model's own order (DESIGN CHOICE, notes/assumptions/2), each with what
follows from it, and the engines resting in STARTING after them. -/
def State.expire (s : State) : Moment :=
  let x := Moment.start ((List.finRange 4).foldl expireInput (expireGap s))
  let x := (List.finRange 4).foldl (fun x n => x.also (expireCadence n)) x
  let x := (List.finRange 8).foldl Moment.expirePort x
  let x := (List.finRange 4).foldl (fun x e => x.also (expireEngine e)) x
  x.also fun s => (s, s.startingActs)

/-- One microsecond: the expiries with all that follows from them as one event, then, as a second, the take of an IDLE
transmitter (notes/assumptions/2). While RESET is asserted nothing counts. -/
def tick (s : State) : State :=
  if s.inReset then s else (settle Config.settleFuel s.elapse.expire).transmit

end Sys2Proof.Machine
end

