-- ==== Sys2Proof/Safety.lean ====
section
/-! DEFINITION. The terms claims are made in: when a request is heard, what an answer leaves, which step an
engine executes, which expiries are due, and the invariants a sound state meets. -/

namespace Sys2Proof.Machine

/-! ## Requests and their answers -/

/-- The Host Link is taking frames, and a request with this tag passes admission checks 1, 3 and 4 (R188, R192, R204). -/
abbrev State.Hears (s : State) (tag : Byte) : Prop :=
  s.inReset = false ∧ s.link.resetPending = false ∧ tag ≠ 0x00#8 ∧ (∀ o ∈ s.link.outstanding, o.tag ≠ tag)
    ∧ s.link.outstanding.length < 4

/-- ... and check 2, the session being OPEN. -/
abbrev State.Accepts (s : State) (tag : Byte) : Prop := s.Hears tag ∧ s.link.sessionOpen = true

/-- Table 10-12: each request kind with the lengths its body may have. -/
def bodyLengths : List (Byte × List Nat) :=
  [0x01#8, 0x02#8, 0x03#8, 0x05#8, 0x31#8, 0x39#8, 0x5C#8].map (fun k => (k, [0]))
    ++ [0x04#8, 0x11#8, 0x12#8, 0x14#8, 0x22#8, 0x23#8, 0x24#8, 0x25#8, 0x26#8, 0x27#8, 0x38#8, 0x41#8, 0x49#8, 0x58#8,
        0x59#8, 0x5A#8].map (fun k => (k, [1]))
    ++ [0x15#8, 0x40#8, 0x4A#8, 0x5B#8].map (fun k => (k, [2])) ++ [0x13#8, 0x32#8, 0x33#8].map (fun k => (k, [5]))
    ++ [0x30#8, 0x42#8, 0x50#8].map (fun k => (k, [6])) ++ [0x10#8, 0x20#8].map (fun k => (k, [7]))
    ++ [(0x48#8, [10]), (0x21#8, (List.range 16).map fun n => 9 + 8 * n)]

/-- What a request answered in its own event leaves at the Host Link: its final reply at the end of the reply list, its
entry in the outstanding-request table at PLACED (R194, R195). Nothing else changes. -/
def State.answered (s : State) (tag kind : Byte) (body : List Byte) : State :=
  { s with link := { s.link with
      replies := s.link.replies ++ [{ tag, kind := kind + 0x80#8, body, refusal := false }]
      outstanding := s.link.outstanding ++ [{ tag, kind, stage := .placed }] } }

/-- What a request that its owner keeps leaves at the Host Link (R194). -/
def State.kept (s : State) (tag kind : Byte) : State :=
  { s with link := { s.link with outstanding := s.link.outstanding ++ [{ tag, kind, stage := .withOwner }] } }

/-- What a refusal leaves at the Host Link while the refusal queue has room (R193). -/
def State.refused (s : State) (tag replyKind : Byte) (st : Status) : State :=
  { s with link := { s.link with
      replies := s.link.replies ++ [{ tag, kind := replyKind, body := [st.code, 0x00#8], refusal := true }] } }

/-- No plan's binding names the source: a firing of it is lost without effect (R58). -/
abbrev State.Unbound (s : State) (source : Source) : Prop :=
  ∀ p : Fin 32, (s.plan p).attrs.binding.source ≠ some source

/-- No engine is IDLE. -/
abbrev State.AllBusy (s : State) : Prop := ∀ e : Fin 4, (s.engine e).state ≠ .idle

/-- Engine `e` executes run `r` at step `st` of its plan. -/
abbrev State.Executes (s : State) (e : Fin 4) (r : Run) (st : PlanStep) : Prop :=
  (s.engine e).run = some r ∧ (s.plan r.plan).steps[r.stepIndex]? = some st

/-- Ring `k` is `r`, whose FILLING segment `i` has room for `n` words more. -/
abbrev State.HasRoom (s : State) (k : Fin 4) (r : Ring) (i n : Nat) : Prop :=
  s.ring k = some r ∧ i < r.segments.length ∧ r.fillPos = some i ∧ (r.seg i).state = .filling
    ∧ (r.seg i).wordsUsed + n ≤ r.segWords

/-- Segment `i` of the ring is SEALED, READING or READ and carries the sequence number (R20). -/
abbrev Ring.Carries (r : Ring) (seqNo : Word) (i : Nat) : Prop :=
  i < r.count ∧ (r.seg i).seqNo = seqNo
    ∧ ((r.seg i).state = .sealed ∨ (r.seg i).state = .read ∨ ∃ b, (r.seg i).state = .reading b)

/-- Engine `e` executes the tolerant port step `st` of run `r`, no sample in its builder, no grant of another port than
`p`, and a WAIT of `d` µs as its next step. -/
abbrev State.Tolerates (s : State) (e : Fin 4) (p : Fin 8) (r : Run) (st : PortStep) (d : Nat) : Prop :=
  s.Executes e r (.port st) ∧ st.tolerate = true ∧ r.builder = [] ∧ r.abortCause = none ∧ r.portLost = false
    ∧ r.samplesWritten ≤ 0xFFFFFFFF ∧ (∀ q : Fin 8, q ≠ p → (s.port q).holder ≠ some (.engine e))
    ∧ (s.plan r.plan).steps[r.stepIndex + 1]? = some (.wait d)

/-- What such a step's fault PORT_DOWN leaves: STEP_FAULT, and the engine in the WAIT after it (R79, R80, R84). The reset
of the run's counts is the model's choice (notes/assumptions/24). -/
def State.pastPortDown (s : State) (e : Fin 4) (r : Run) (d : Nat) : State :=
  (s.post .stepFault (byte r.plan) (BitVec.ofNat 32 r.remaining) (0x04#8 ++ byte r.stepIndex)).setEngine e
    { s.engine e with
      state := .waiting d
      run := some { r with stepIndex := r.stepIndex + 1, remaining := 0, retry := 0 } }

/-- The expiries due at the end of the present microsecond, each as its command: the running timers with at most 1 µs
left, a response timeout counted with what is left of its request word (R123). -/
def State.due (s : State) : List Instr :=
  let ends (t : Option Nat) : Bool := t.any fun n => decide (n ≤ 1)
  let phaseEnd (p : Fin 8) : List Instr :=
    match (s.port p).state with
    | .powering => [.powerSettleExpiry p]
    | .clocking => [.clockSettleExpiry p]
    | .identifying => [.identifySpacingExpiry p]
    | .retraining => if (s.port p).attempts = 0 then [.retrainSettleExpiry p] else [.identifySpacingExpiry p]
    | .stopping => if (s.port p).supply then [.stopClockExpiry p] else [.dischargeExpiry p]
    | .off | .up | .draining | .fault => []
  (match s.link.receiver with
    | .frame _ gap => if gap ≤ 1 then [Instr.gapTimerExpiry] else []
    | .hunt => [])
  ++ ((List.finRange 4).filter fun n => ends (s.input n).timer).map Instr.holdoffExpiry
  ++ ((List.finRange 4).filter fun n => ends (s.cadence n).countdown).map Instr.cadenceExpiry
  ++ ((List.finRange 8).flatMap fun p =>
    (if ends ((s.port p).txn.map fun t => t.wordLeft + t.left) then [Instr.responseTimeout p] else [])
    ++ (if ends (s.port p).quiet then [.quietPeriodEnd p] else [])
    ++ (if ends (s.port p).phase then phaseEnd p else [])
    ++ (if ends ((s.port p).access.bind fun a => a.waitLeft) then [.hostWaitLimitExpiry p] else []))
  ++ ((List.finRange 4).flatMap fun e =>
    match (s.engine e).state with
    | .spacing n => if n ≤ 1 then [Instr.spacingExpiry e] else []
    | .waiting n => if n ≤ 1 then [Instr.waitExpiry e] else []
    | .stalled _ =>
      if (List.finRange 4).any fun k =>
          (s.ring k).any fun r => r.stallList.any fun x => x.engine == e && decide (x.timer ≤ 1) then
        [Instr.stallTimerExpiry e]
      else []
    | .idle | .starting _ | .awaitPort | .transact | .ending => [])

/-! ## A sound state -/

/-- A port's own invariant: the supply follows the state (R96, Table 5-2), a fault cause is there exactly in FAULT
(R106, R108, R110), an identity where the port can grant and none before it is identified (R97, R102), a grant only in UP
and DRAINING (R126), waiters only behind a holder or through a retrain (R127), a pending commit only under a holder
(R127, R143), and a tally within its range (R111). -/
abbrev Port.Sound (p : Port) : Prop :=
  (p.state = .off ∨ p.state = .fault → p.supply = false)
  ∧ (p.state ≠ .off → p.state ≠ .fault → p.state ≠ .stopping → p.supply = true)
  ∧ (p.faultCause.isSome = true ↔ p.state = .fault)
  ∧ (p.state = .up ∨ p.state = .retraining ∨ p.state = .draining → p.identity.isSome = true)
  ∧ (p.state = .off ∨ p.state = .powering ∨ p.state = .clocking ∨ p.state = .identifying → p.identity = none)
  ∧ (p.holder.isSome = true → p.state = .up ∨ p.state = .draining)
  ∧ (p.waiters ≠ [] → p.state = .retraining ∨ p.state = .draining ∨ (p.state = .up ∧ p.holder.isSome = true))
  ∧ (p.commitPending = true → p.state = .draining ∨ (p.state = .up ∧ p.holder.isSome = true))
  ∧ p.tally ≤ 255

abbrev State.PortsSound (s : State) : Prop := ∀ p : Fin 8, (s.port p).Sound

/-- The notice queue's properties (R168, R173, R177): at most 256 entries with consecutive numbers up to the next notice
number, only an OVERFLOW marker as the 256th, the delivered ones a prefix; the held lost count non-zero only at 256
entries; at most 32 credits. -/
abbrev NoticeQueue.Sound (q : NoticeQueue) : Prop :=
  q.entries.length ≤ 256
  ∧ q.entries.map (fun n => n.number)
      = (List.range q.entries.length).map (fun i => q.nextNo - BitVec.ofNat 16 (q.entries.length - i))
  ∧ (q.entries.length = 256 → (q.entries.getLast?.map fun n => n.kind) = some .overflow)
  ∧ q.entries.Pairwise (fun a b => b.delivered = true → a.delivered = true)
  ∧ (q.heldLost ≠ 0 → q.entries.length = 256)
  ∧ q.credits ≤ 32

/-- A frame in progress is not yet complete: LEN has not come, or it is in range and bytes are still to come (R189). -/
def Receiver.sound : Receiver → Bool
  | .hunt => true
  | .frame bytes _ =>
    let len := (bytes.getD 0 0x00#8).toNat
    bytes.isEmpty || (decide (2 ≤ len) && decide (len ≤ 250) && decide (bytes.length < len + 3))

/-- The Host Link's bounds (R191, R193, R194): at most 4 outstanding requests with distinct tags from 1 to 255, at most 4
frame rejects and 4 refusals, and a frame in progress that is not yet complete (R189). -/
abbrev Link.Sound (l : Link) : Prop :=
  l.outstanding.length ≤ 4
  ∧ (l.outstanding.map fun o => o.tag).Nodup
  ∧ (∀ o ∈ l.outstanding, o.tag ≠ 0x00#8)
  ∧ l.rejects.length ≤ 4
  ∧ (l.replies.filter fun r => r.refusal).length ≤ 4
  ∧ l.receiver.sound = true

/-- Plans and the step pool (R26, R28, R39): held and free steps together number 1024, no plan holds more than 128, and
only an ARMED plan with overlap policy HOLD has its held flag set. -/
abbrev State.PlansSound (s : State) : Prop :=
  s.poolFree + (s.plans.toList.map fun pl => pl.steps.length).sum = 1024
  ∧ ∀ p : Fin 32, (s.plan p).steps.length ≤ 128
      ∧ ((s.plan p).held = true → (s.plan p).state = .armed ∧ (s.plan p).attrs.overlap = .hold)

/-- A request waits only while no engine is IDLE, and the requests stand by priority, highest first (R59, R60). -/
abbrev State.QueueSound (s : State) : Prop :=
  (s.runQueue ≠ [] → s.AllBusy)
  ∧ s.runQueue.Pairwise (fun a b => b.priority ≤ a.priority)

/-- A ring's own invariant: its definition within Table 1-1, its blocks within capture memory, no segment's words used
above its size (R9), a FREE segment's descriptor reset (R6), at most one FILLING segment and that at the filling position
(R9, R10), and every stalled record one that fits an empty segment (R8). -/
abbrev Ring.Sound (r : Ring) : Prop :=
  (2 ≤ r.count ∧ r.count ≤ 16) ∧ (1 ≤ r.size ∧ r.size ≤ 64)
  ∧ r.base + r.count * r.size ≤ 1024
  ∧ r.segments.length = r.count
  ∧ (∀ g ∈ r.segments, g.wordsUsed ≤ 256 * r.size ∧ (g.state = .free → g = .empty))
  ∧ (∀ i < r.count, (r.seg i).state = .filling → r.fillPos = some i)
  ∧ (∀ i ∈ r.fillPos, i < r.count)
  ∧ (∀ x ∈ r.stallList, x.record.length ≤ 67)

/-- The Ring Manager's invariant (R1, R9): every ring sound, the rings' block ranges disjoint, and no engine's builder
full between events (R72, R77). -/
abbrev State.RingsSound (s : State) : Prop :=
  (∀ k : Fin 4, ∀ r ∈ s.ring k, r.Sound)
  ∧ (∀ j k : Fin 4, j ≠ k → ∀ a ∈ s.ring j, ∀ b ∈ s.ring k,
      a.base + a.count * a.size ≤ b.base ∨ b.base + b.count * b.size ≤ a.base)
  ∧ (∀ e : Fin 4, ∀ r ∈ (s.engine e).run, r.builder.length < 64)

/-- The block of capture memory that a byte address lies in is held by a defined ring (R1). -/
abbrev State.HeldByRing (s : State) (address : Nat) : Prop :=
  ∃ k : Fin 4, ((s.ring k).any fun r =>
    decide (r.base ≤ address / 1024) && decide (address / 1024 < r.base + r.count * r.size)) = true

end Sys2Proof.Machine
end

