-- ==== Sys2Proof/WellFormed.lean ====
section
/-! DEFINITION. Which commands can arrive. A host request may carry any byte in any field, in range or not (its owner
judges it); an APPEND-STEPS that is admitted carries 1 to 16 steps (Table 10-12), and a response word begins with
its start bit (Table 10-19). Every other command can arrive with any operands its types allow. -/

namespace Sys2Proof

/-- The command can arrive as a request that admission lets through, or as an event. -/
def WellFormed : Instr → Bool
  | .appendSteps _ _ steps => decide (1 ≤ steps.length) && decide (steps.length ≤ 16)
  | .probeResponse _ word _ => word.msb
  | .openSession _ | .closeSession _ | .identify _ | .abortRequest _ _ | .resetDevice _
  | .defineRing _ _ _ _ _ _ _ | .deleteRing _ _ | .sealRing _ _ | .releaseSegment _ _ _ | .queryRing _ _
  | .listSegments _ _ _ | .openPlan _ _ _ _ _ _ _ _ | .closePlan _ _ | .armPlan _ _ | .disarmPlan _ _
  | .deletePlan _ _ | .queryPlan _ _ | .fire _ _ | .setTime _ _ | .readTime _ | .setTriggerInput _ _ _ _ _
  | .setCadence _ _ _ _ | .abortRun _ _ | .clearAcquisition _ | .portPowerOn _ _ | .portPowerOff _ _
  | .queryPort _ _ | .probeAccess _ _ _ _ _ | .setProfile _ _ _ _ _ _ _ _ _ _ _ | .commitProfile _ _
  | .readProfile _ _ _ | .readSegment _ _ _ _ | .setNoticeMode _ _ | .grantCredits _ _ | .takeNotices _ _
  | .ackNotices _ _ | .resendNotices _ | .rxdByte _ _ | .gapTimerExpiry | .txdFrameEnd | .transmitterTake
  | .resetAsserted _ | .resetReleased | .deviceResetRequest | .trgEdge _ _ | .holdoffExpiry _ | .cadenceExpiry _
  | .responseTimeout _ | .quietPeriodEnd _ | .spacingExpiry _ | .waitExpiry _ | .stallTimerExpiry _
  | .hostWaitLimitExpiry _ | .powerSettleExpiry _ | .clockSettleExpiry _ | .retrainSettleExpiry _
  | .identifySpacingExpiry _ | .stopClockExpiry _ | .dischargeExpiry _ | .overcurrent _ _ | .attentionEdge _ _
  | .runTake | .stallWake _ | .drainEnd _ | .grant _ | .profileCopy _ | .acquisitionClear => true

end Sys2Proof
end

