-- ==== Sys2Proof/Certificates/Slice0/Obligations.lean ====
section
/-! DEFINITION. The statements for the provers. A result statement gives the whole next state: what its record update
does not name (every other register, queue and line, and every byte of capture memory) is unchanged. -/

open Sys2Proof Sys2Proof.Machine

/-! ## Steps, reset, invariants -/

/-- A step takes the command at the front of the queue and runs it with the queue's rest. -/
def Obligations.StepRunsTheFrontCommand : Prop :=
  ∀ (c : Instr) (rest : List Instr) (s : State),
    step { s with pending := c :: rest } = exec c { s with pending := rest }

/-- With no command waiting, a step is one microsecond of the time base (R47). With nothing due, no engine STARTING and
no frame to take, the step leaves every running timer one microsecond nearer its end and changes nothing else: holdoff,
cadence, spacing, WAIT and stall timers, the phase, quiet, response and wait-limit timers of the ports, and the gap
timer (R15, R54, R56, R74, R84, R99, R123, R135, R189). Where one timer comes to its end in it, the step is that
expiry's command a microsecond later, here while the transmitter is SENDING and the expiry reaches no other timer. That
a step without a command stands for a microsecond, and that timers count in it, is the model's choice
(notes/assumptions/2). -/
def Obligations.IdleStepCountsOneMicrosecond : Prop :=
  let passed (s : State) : State :=
    let less (t : Option Nat) : Option Nat := t.map fun n => n - 1
    { s with
      timeBase := s.timeBase + 1
      inputs := s.inputs.map fun (x : TrigInput) => { x with timer := less x.timer }
      cadences := s.cadences.map fun (x : Cadence) => { x with countdown := less x.countdown }
      engines := s.engines.map fun (x : Engine) => { x with
        state := match x.state with | .spacing n => .spacing (n - 1) | .waiting n => .waiting (n - 1) | other => other }
      rings := s.rings.map fun (o : Option Ring) => o.map fun (r : Ring) => { r with
        stallList := r.stallList.map fun (x : StallEntry) => { x with timer := x.timer - 1 } }
      ports := s.ports.map fun (q : Port) => { q with
        phase := less q.phase
        quiet := less q.quiet
        txn := q.txn.map fun (t : Transaction) => { t with
          wordLeft := t.wordLeft - 1, left := if t.wordLeft = 0 then t.left - 1 else t.left }
        access := q.access.map fun (a : HostAccess) => { a with waitLeft := less a.waitLeft } }
      link := { s.link with
        receiver := match s.link.receiver with | .hunt => .hunt | .frame bytes gap => .frame bytes (gap - 1) } }
  (∀ s : State, s.pending = [] → s.inReset = false →
    ∃ t, step s = .next t ∧ t.timeBase = s.timeBase + 1)
  ∧ (∀ s : State, s.pending = [] → s.inReset = false → (∀ e n, (s.engine e).state ≠ .starting n) → s.due = [] →
       s.link.transmitter.isSome = true ∨ (s.link.rejects = [] ∧ s.link.announcePending = false ∧ s.link.replies = []
         ∧ s.notices.offering = false ∧ s.nextStream = none) →
       step s = .next (passed s))
  ∧ (∀ (s : State) (c : Instr), s.pending = [] → s.inReset = false → (∀ e n, (s.engine e).state ≠ .starting n) →
       s.link.transmitter.isSome = true → s.due = [c] →
       (c = .gapTimerExpiry ∨ (∃ n, c = .holdoffExpiry n) ∨ (∃ n, c = .cadenceExpiry n ∧ s.Unbound (.cadence n)))
         ∨ (∃ p, c = .powerSettleExpiry p ∨ c = .clockSettleExpiry p ∨ c = .retrainSettleExpiry p
             ∨ c = .identifySpacingExpiry p ∨ c = .stopClockExpiry p ∨ c = .dischargeExpiry p ∨ c = .quietPeriodEnd p
             ∨ c = .hostWaitLimitExpiry p)
         ∨ (∃ p t, c = .responseTimeout p ∧ (s.port p).txn = some t
             ∧ ((t.requester = none ∧ (s.port p).attempts < 3 ∧ 0 < (s.port p).active.spacing)
               ∨ (t.requester = some .host ∧ (s.port p).state = .up ∧ (s.port p).holder = some .host
                   ∧ (s.port p).waiters = [] ∧ (s.port p).commitPending = false)))
         ∨ (∃ e, c = .spacingExpiry e)
         ∨ (∃ e r st d, c = .waitExpiry e ∧ s.Executes e r st
             ∧ (s.plan r.plan).steps[r.stepIndex + 1]? = some (.wait d))
         ∨ (∃ e r, c = .stallTimerExpiry e ∧ (s.engine e).run = some r ∧ (s.plan r.plan).held = false
             ∧ s.heldPort e = none) →
       step s = exec c (passed s))

/-- No command moves the time base but SET-TIME, as a request or as the last byte of its valid frame, and the resets
where they are performed (R47, R49, R204). The receiver's bound is an invariant (R189). That a command takes no time is
the model's choice (notes/assumptions/2), and that TXD_FRAME_END and DEVICE_RESET_REQUEST perform the reset of
RESET-DEVICE, where the reply being sent is its reply, is its reading (notes/assumptions/7). -/
def Obligations.OnlySetTimeAndResetsMoveTheTimeBase : Prop :=
  ∀ (c : Instr) (s : State), s.link.receiver.sound = true → ∃ t, exec c s = .next t ∧
    (t.timeBase = s.timeBase
      ∨ (∃ tag time, c = .setTime tag time)
      ∨ (∃ b bytes gap tag, ∃ time : Time, c = .rxdByte b true ∧ s.link.receiver = .frame bytes gap
          ∧ 0xA5#8 :: (bytes ++ [b]) = frameBytes tag 0x30#8 (bytesBE 6 time.toNat))
      ∨ (∃ straps, c = .resetAsserted straps) ∨ (c = .resetReleased ∧ s.inReset = true)
      ∨ ((c = .deviceResetRequest ∨ c = .txdFrameEnd) ∧ s.endsInReset = true))

/-- What a device reset leaves (R1, R46, R64, R95, R118, R139, R165, R186, R205). -/
def Obligations.ResetLeavesEveryBlockAsItsRuleSays : Prop :=
  State.reset.timeBase = 0#48 ∧ State.reset.poolFree = 1024 ∧ State.reset.runQueue = []
  ∧ (∀ n : Fin 4, (State.reset.input n).enabled = false ∧ (State.reset.input n).edge = .rising
      ∧ (State.reset.input n).holdoff = 0 ∧ (State.reset.input n).timer = none)
  ∧ (∀ n : Fin 4, (State.reset.cadence n).enabled = false ∧ (State.reset.cadence n).period = 10
      ∧ (State.reset.cadence n).countdown = none)
  ∧ (∀ p : Fin 32, (State.reset.plan p).state = .empty ∧ (State.reset.plan p).runStatus = .idle
      ∧ (State.reset.plan p).held = false ∧ (State.reset.plan p).runNumber = 0#16
      ∧ (State.reset.plan p).missCount = 0 ∧ (State.reset.plan p).steps = [])
  ∧ (∀ e : Fin 4, (State.reset.engine e).state = .idle ∧ (State.reset.engine e).run = none)
  ∧ (∀ k : Fin 4, State.reset.ring k = none) ∧ (∀ b < 1024, State.reset.blockHeld b = false)
  ∧ (∀ p : Fin 8, (State.reset.port p).state = .off ∧ (State.reset.port p).identity = none
      ∧ (State.reset.port p).faultCause = none ∧ (State.reset.port p).tally = 0
      ∧ (State.reset.port p).attempts = 0 ∧ (State.reset.port p).phase = none
      ∧ (State.reset.port p).holder = none ∧ (State.reset.port p).waiters = []
      ∧ (State.reset.port p).txn = none ∧ (State.reset.port p).commitPending = false
      ∧ (State.reset.port p).staged = { rate := .r1, timeout := 20, spacing := 5, retryLimit := 16, width := .w24
                                        signExtend := false, silenceLimit := 8, attention := false }
      ∧ (State.reset.port p).active = (State.reset.port p).staged)
  ∧ State.reset.streams = []
  ∧ State.reset.notices.entries.map (fun n => (n.number, n.kind, n.delivered)) = [(0#16, .restarted, false)]
  ∧ State.reset.notices.nextNo = 1#16 ∧ State.reset.notices.heldLost = 0
  ∧ State.reset.notices.mode = .poll ∧ State.reset.notices.credits = 0 ∧ State.reset.hatnAsserted = true
  ∧ State.reset.link.receiver = .hunt ∧ State.reset.link.rejects = [] ∧ State.reset.link.replies = []
  ∧ State.reset.link.outstanding = [] ∧ State.reset.link.sessionOpen = false
  ∧ State.reset.link.resetPending = false ∧ State.reset.link.announcePending = true
  ∧ State.reset.link.transmitter = none ∧ State.reset.link.lastServed = none

/-- The invariants below hold right after reset, among them the model's own canonical form of memory
(notes/assumptions/9). -/
def Obligations.ResetStateIsSound : Prop :=
  Memory.wf State.reset.mem = true ∧ State.reset.PortsSound ∧ State.reset.notices.Sound ∧ State.reset.link.Sound
    ∧ State.reset.PlansSound ∧ State.reset.QueueSound ∧ State.reset.RingsSound

/-- Every step keeps capture memory in its canonical form. That form, a list of bytes with the unlisted ones reading 0,
is the model's choice (notes/assumptions/9). -/
def Obligations.StepsKeepMemoryCanonical : Prop :=
  ∀ s t : State, Memory.wf s.mem = true → step s = .next t → Memory.wf t.mem = true

/-- Every step keeps every port sound (R96, R97, R102, R108, R111, R126, R127, R143). -/
def Obligations.StepsKeepPortsSound : Prop :=
  ∀ s t : State, s.PortsSound → step s = .next t → t.PortsSound

/-- Every step keeps the notice queue's properties (R168, R173, R177). -/
def Obligations.StepsKeepNoticesSound : Prop :=
  ∀ s t : State, s.notices.Sound → step s = .next t → t.notices.Sound

/-- Every step keeps the Host Link's bounds (R189, R191, R193, R194). -/
def Obligations.StepsKeepLinkSound : Prop :=
  ∀ s t : State, s.link.Sound → step s = .next t → t.link.Sound

/-- Every step keeps the step pool whole and held flags where they may be (R26, R28, R39). -/
def Obligations.StepsKeepPlansSound : Prop :=
  ∀ s t : State, s.PlansSound → step s = .next t → t.PlansSound

/-- Every step keeps the Run Queue served and in order (R59, R60). -/
def Obligations.StepsKeepTheRunQueueServed : Prop :=
  ∀ s t : State, s.QueueSound → step s = .next t → t.QueueSound

/-- Every step keeps the rings disjoint, each segment within its size, and at most one FILLING (R1, R6, R9, R10). -/
def Obligations.StepsKeepRingsSound : Prop :=
  ∀ s t : State, s.RingsSound → step s = .next t → t.RingsSound

/-- No step but a device reset changes a byte of capture memory outside the blocks that defined rings hold (R1, R4,
R7). That a word lies at four bytes is the model's choice (notes/assumptions/9). -/
def Obligations.StepsWriteOnlyInsideRings : Prop :=
  ∀ s t : State, s.RingsSound → Memory.wf s.mem = true → s.endsInReset = false →
    (∀ straps rest, s.pending ≠ .resetAsserted straps :: rest) → step s = .next t →
    ∀ a : Nat, ¬ s.HeldByRing a → Memory.readByte t.mem a = Memory.readByte s.mem a

/-! ## The host line -/

/-- The bytes of a request's frame, taken one by one by a receiver in HUNT, have together the effect of the request:
decode and encode agree for every request and every operand (R189, R190, R192, R207, Tables 10-10, 10-12, 10-14).
That a request command stands for its valid frame is the model's reading (notes/assumptions/1). -/
def Obligations.FrameBytesAreTheirRequest : Prop :=
  ∀ (c : Instr) (q : Request) (s : State), c.request = some q → WellFormed c = true → s.inReset = false →
    s.link.resetPending = false → s.link.receiver = .hunt →
    Host.Core.run Sys2Proof.core (frameBytes q.tag q.kind q.body).length
        { s with pending := (frameBytes q.tag q.kind q.body).map fun b => .rxdByte b true }
      = exec c { s with pending := [] }

/-- Admission makes its checks in order, and a refused frame changes nothing but the reply list (R192, R193); with 4
refusals waiting it changes nothing at all. While RESET is asserted, or reset pending is set, no request does anything
(R188, R204). -/
def Obligations.AdmissionChecksInOrder : Prop :=
  (∀ (c : Instr) (q : Request) (s : State) (st : Status), c.request = some q → s.inReset = false →
     s.link.resetPending = false →
     (st = if q.tag = 0x00#8 then Status.badTag
       else if s.link.sessionOpen = false ∧ q.kind ≠ 0x01#8 ∧ q.kind ≠ 0x03#8 ∧ q.kind ≠ 0x05#8 then Status.noSession
       else if ∃ o ∈ s.link.outstanding, o.tag = q.tag then Status.tagInUse
       else if 4 ≤ s.link.outstanding.length then Status.windowFull
       else if WellFormed c = false then Status.badLength
       else Status.ok) →
     st ≠ .ok →
     exec c s = .next (if s.refusals.length < 4 then s.refused q.tag (q.kind + 0x80#8) st else s))
  ∧ (∀ (c : Instr) (q : Request) (s : State), c.request = some q → s.inReset = true ∨ s.link.resetPending = true →
       exec c s = .next s)

/-- A byte in HUNT: A5H opens a frame and starts the gap timer, any other byte is ignored, and so is a character with
its stop bit low (R188, R189). LEN below 2 or above 250 rejects the frame at once with reason LENGTH and tag 0 (R189,
R191); with 4 rejects waiting the rejection is dropped. The gap timer's expiry in FRAME rejects the frame TRUNCATED,
with its TAG byte if that had arrived (R191). A complete frame whose CRC does not match is rejected with reason CRC and
its TAG byte (R190, R191). A valid frame of a kind that Table 10-12 does not have is refused with reply kind FFH, by
the session check or as UNKNOWN_KIND, and one whose body its kind does not allow as BAD_LENGTH (R192, R193). The CRC
and the frame's bytes are as R190 and Table 10-10 give them. -/
def Obligations.ReceiverTakesAndRejectsFrames : Prop :=
  (∀ (s : State) (b : Byte), s.inReset = false → s.link.resetPending = false →
     (s.link.receiver = .hunt → b ≠ 0xA5#8 → exec (.rxdByte b true) s = .next s)
     ∧ (s.link.receiver = .hunt →
         exec (.rxdByte 0xA5#8 true) s = .next { s with link := { s.link with receiver := .frame [] 2000 } })
     ∧ exec (.rxdByte b false) s = .next s)
  ∧ (∀ (s : State) (len : Byte) (gap : Nat), s.inReset = false → s.link.resetPending = false →
       s.link.receiver = .frame [] gap → len.toNat < 2 ∨ 250 < len.toNat →
       exec (.rxdByte len true) s = .next { s with link := { s.link with
         receiver := .hunt
         rejects := if s.link.rejects.length < 4 then s.link.rejects ++ [⟨.length, 0x00#8⟩] else s.link.rejects } })
  ∧ (∀ (s : State) (bytes : List Byte) (gap : Nat), s.inReset = false → s.link.resetPending = false →
       s.link.receiver = .frame bytes gap →
       exec .gapTimerExpiry s = .next { s with link := { s.link with
         receiver := .hunt
         rejects :=
           if s.link.rejects.length < 4 then
             s.link.rejects ++ [⟨.truncated, if bytes.length < 2 then 0x00#8 else bytes.getD 1 0x00#8⟩]
           else s.link.rejects } })
  ∧ (∀ (s : State) (tag kind hi lo : Byte) (body : List Byte) (gap : Nat), s.inReset = false →
       s.link.resetPending = false → body.length ≤ 248 →
       s.link.receiver = .frame (byte (body.length + 2) :: tag :: kind :: body ++ [hi]) gap →
       crc (byte (body.length + 2) :: tag :: kind :: body) ≠ hi ++ lo →
       exec (.rxdByte lo true) s = .next { s with link := { s.link with
         receiver := .hunt
         rejects := if s.link.rejects.length < 4 then s.link.rejects ++ [⟨.crc, tag⟩] else s.link.rejects } })
  ∧ (∀ (s : State) (tag kind b : Byte) (body bytes : List Byte) (gap : Nat), s.Hears tag → s.refusals.length < 4 →
       body.length ≤ 248 → s.link.receiver = .frame bytes gap → 0xA5#8 :: (bytes ++ [b]) = frameBytes tag kind body →
       let hunting : State := { s with link := { s.link with receiver := .hunt } }
       ((∀ x ∈ bodyLengths, x.1 ≠ kind) →
         exec (.rxdByte b true) s =
           .next (hunting.refused tag 0xFF#8 (if s.link.sessionOpen then .unknownKind else .noSession)))
       ∧ (∀ lengths, (kind, lengths) ∈ bodyLengths → body.length ∉ lengths → s.link.sessionOpen = true →
         exec (.rxdByte b true) s = .next (hunting.refused tag (kind + 0x80#8) .badLength)))
  ∧ (crc [] = 0xFFFF#16 ∧ (∀ (bytes : List Byte) (b : Byte), crc (bytes ++ [b]) =
       (List.range 8).foldl (fun (x : Half) _ => if x.msb then (x <<< 1) ^^^ 0x1021#16 else x <<< 1)
         (crc bytes ^^^ (b ++ 0x00#8)))
     ∧ ∀ (tag kind : Byte) (body : List Byte),
         let covered := byte (body.length + 2) :: tag :: kind :: body
         frameBytes tag kind body
           = 0xA5#8 :: covered ++ [(crc covered).extractLsb' 8 8, (crc covered).extractLsb' 0 8])

/-- The IDLE transmitter takes a frame reject before the announce frame, that before the oldest reply, and that before
a notice frame (R196, R206, Table 10-11). With nothing of higher rank, the transmitter takes the data frame of the
stream served next: its chunk of the segment's words, and the stream goes one chunk on (R155, R156, R197); the stream
served next is the first offering one after the last served, in rotation (R197), and a notice frame is on offer in PUSH
mode with credits and an undelivered entry (R178). The last data frame ends its stream: the segment becomes READ, or
FREE under auto-release, which wakes the stall list, here of one record whose engine goes on from a STAMP step to a
WAIT step; the stream is gone and its OK reply is placed (R14, R21, R157, R158). The end of a final reply frees its
tag, and with nothing waiting the transmitter becomes IDLE (R194, R198). The end of any frame includes the take of the
next one within the same event (R196, R198), which is the model's reading (notes/assumptions/6); a CLEAR-ACQUISITION is
in progress to the end of its reply, which is its reading too (notes/assumptions/25); so is the reset of a woken
engine's counts (notes/assumptions/24). -/
def Obligations.TransmitterTakesByRankAndFreesTags : Prop :=
  (∀ s : State, s.inReset = false → s.link.transmitter = none →
     (∀ j js, s.link.rejects = j :: js →
       exec .transmitterTake s = .next { s with link := { s.link with
         rejects := js
         transmitter := some ⟨frameBytes 0x00#8 0xFE#8 [j.reason.code, j.tag], .other⟩ } })
     ∧ (s.link.rejects = [] → s.link.announcePending = true →
       exec .transmitterTake s = .next { s with link := { s.link with
         announcePending := false
         transmitter := some ⟨frameBytes 0x00#8 0xF8#8
           [0x10#8, 0x18#8, 0x03#8, s.link.resetCause.code, byte s.link.linkRate.toNat], .other⟩ } })
     ∧ (s.link.rejects = [] → s.link.announcePending = false → ∀ r rs, s.link.replies = r :: rs →
       exec .transmitterTake s = .next { s with link := { s.link with
         replies := rs
         outstanding :=
           if r.refusal then s.link.outstanding
           else s.link.outstanding.map fun o => if o.tag = r.tag then { o with stage := .sending } else o
         transmitter := some ⟨frameBytes r.tag r.kind r.body, if r.refusal then .other else .finalReply r.tag⟩ } })
     ∧ (s.link.rejects = [] → s.link.announcePending = false → s.link.replies = [] → s.notices.offering = true →
       exec .transmitterTake s = .next { s with
         notices := { s.notices with
           entries := markDelivered 8 s.notices.entries
           credits := s.notices.credits - 1 }
         link := { s.link with
           transmitter := some ⟨frameBytes 0x00#8 0xF1#8
             (byte (s.notices.undelivered.take 8).length :: (s.notices.undelivered.take 8).flatMap Notice.bytes),
             .other⟩ } }))
  ∧ (∀ (s : State) (st : Stream) (r : Ring), s.inReset = false → s.link.transmitter = none → s.link.rejects = [] →
       s.link.announcePending = false → s.link.replies = [] → s.notices.offering = false →
       s.nextStream = some st → st.nextChunk + 1 < st.frameCount → s.ring st.ring = some r →
       exec .transmitterTake s = .next { s with
         streams := s.streams.map fun x => if x.tag = st.tag then { st with nextChunk := st.nextChunk + 1 } else x
         link := { s.link with
           lastServed := some st.tag
           transmitter := some ⟨frameBytes st.tag 0xF0#8
             (bytesBE 2 st.nextChunk ++
               (Memory.readWords s.mem (r.segBase st.segment + 60 * st.nextChunk)
                 (min 60 (st.words - 60 * st.nextChunk))).flatMap fun w => bytesBE 4 w.toNat), .other⟩ } })
  ∧ (∀ (s : State) (tag : Byte) (bytes : List Byte), s.inReset = false → s.link.resetPending = false →
       s.link.transmitter = some ⟨bytes, .finalReply tag⟩ → s.link.rejects = [] → s.link.announcePending = false →
       s.link.replies = [] → s.notices.offering = false → s.streams = [] → s.clear = none →
       exec .txdFrameEnd s = .next { s with link := { s.link with
         transmitter := none
         outstanding := s.link.outstanding.filter fun o => o.tag != tag } })
  ∧ (∀ (s : State) (bytes : List Byte), s.inReset = false → s.endsInReset = false →
       (s.link.transmitter = some ⟨bytes, .other⟩ →
         exec .txdFrameEnd s = exec .transmitterTake { s with link := { s.link with transmitter := none } })
       ∧ (∀ tag, s.link.transmitter = some ⟨bytes, .finalReply tag⟩ →
         exec .txdFrameEnd s = exec .transmitterTake { s with
           clear := s.clear.filter fun (c : Clear) => !(c.placed && c.tag == tag)
           link := { s.link with
             transmitter := none
             outstanding := s.link.outstanding.filter fun o => o.tag != tag } }))
  ∧ (∀ (s : State) (st : Stream) (r : Ring), s.inReset = false → s.link.transmitter = none → s.link.rejects = [] →
       s.link.announcePending = false → s.link.replies = [] → s.notices.offering = false →
       s.nextStream = some st → st.nextChunk + 1 = st.frameCount → s.ring st.ring = some r →
       let g := r.seg st.segment
       let after (segment : Segment) (state : SegState) : State := { s with
         rings := s.rings.set st.ring (some { r with segments := r.segments.set st.segment segment })
         streams := s.streams.filter fun x => x.tag != st.tag
         link := { s.link with
           lastServed := none
           transmitter := some ⟨frameBytes st.tag 0xF0#8
             (bytesBE 2 st.nextChunk ++
               (Memory.readWords s.mem (r.segBase st.segment + 60 * st.nextChunk)
                 (min 60 (st.words - 60 * st.nextChunk))).flatMap fun w => bytesBE 4 w.toNat), .other⟩
           replies := [⟨st.tag, 0xD0#8,
             0x00#8 :: Segment.bytes st.segment { g with state := state } ++ bytesBE 2 st.frameCount, false⟩]
           outstanding := s.link.outstanding.map fun o => if o.tag = st.tag then { o with stage := .placed } else o } }
       (r.autoRelease = false → exec .transmitterTake s = .next (after { g with state := .read } .read))
       ∧ (r.autoRelease = true → r.stallList = [] →
         exec .transmitterTake s = .next (after ⟨.free, 0#32, 0, 0, 0#48, 0#48, false, none⟩ .free))
       ∧ (∀ (x : StallEntry) (run : Run) (now : PlanStep) (d : Nat), r.autoRelease = true → r.stallList = [x] →
           x.sealOnEnd = false → r.filling = none → r.awaited = st.segment → st.segment < r.segments.length →
           (s.engine x.engine).state = .stalled .stamp → s.Executes x.engine run now →
           (s.plan run.plan).steps[run.stepIndex + 1]? = some (.wait d) →
         exec .transmitterTake s = .next ({ after g .free with
           rings := s.rings.set st.ring (some { r with
             segments := r.segments.set st.segment
               ⟨.filling, 0#32, x.record.length, 1, x.record.time, x.record.time, false, none⟩
             fillPos := some st.segment
             stallList := [] })
           mem := Memory.writeWords s.mem (r.segBase st.segment) x.record.words
           }.setEngine x.engine { s.engine x.engine with
             state := .waiting d
             run := some { run with stepIndex := run.stepIndex + 1, remaining := 0, retry := 0 } })))
  ∧ (∀ s : State,
       (s.notices.offering = true ↔
         s.notices.mode = .push ∧ 0 < s.notices.credits ∧ ∃ n ∈ s.notices.entries, n.delivered = false)
       ∧ (s.link.lastServed = none →
         s.nextStream = s.streams.find? fun x => decide (x.nextChunk < x.frameCount))
       ∧ (∀ before x after, s.link.lastServed = some x.tag → s.streams = before ++ x :: after →
           (∀ y ∈ before, y.tag ≠ x.tag) →
         s.nextStream = (after ++ before ++ [x]).find? fun y => decide (y.nextChunk < y.frameCount)))

/-! ## Resets, session -/

/-- RESET asserted and released leaves, from every state, the part as reset leaves it: the straps' value is the link
rate, the cause PIN (R47, R117, R186, R188, R205, R206). RESET released ends the reset in every state that is in it, and
changes nothing elsewhere. That RESET_ASSERTED carries the straps, that the PnOC levels are kept, and that memory then
lists nothing are the model's choices (notes/assumptions/20, 10 and 9). -/
def Obligations.PinResetStartsAfresh : Prop :=
  (∀ (s : State) (straps : BitVec 2), ∃ t, exec (.resetAsserted straps) s = .next t
    ∧ t.inReset = true ∧ t.timeBase = 0#48 ∧ t.txdBytes = none ∧ t.hatnAsserted = false
    ∧ (∀ p : Fin 8, t.pwrActive p = false ∧ t.clockRate p = none)
    ∧ exec .resetReleased t = .next { State.reset with
        ports := s.ports.map fun p => { Port.reset false with ocLine := p.ocLine }
        link := { State.reset.link with linkRate := straps }
        pending := s.pending })
  ∧ (∀ (s : State) (straps : BitVec 2), exec (.resetAsserted straps) s = .next { State.reset with
       inReset := true
       ports := s.ports.map fun p => { Port.reset false with ocLine := p.ocLine }
       notices := { entries := [], nextNo := 0#16, heldLost := 0, mode := .poll, credits := 0 }
       link := { State.reset.link with linkRate := straps }
       pending := s.pending })
  ∧ (∀ s : State, s.inReset = true → exec .resetReleased s = .next { s with
       inReset := false, timeBase := 0#48, notices := State.reset.notices
       link := { s.link with announcePending := true, resetCause := .pin } })
  ∧ (∀ s : State, s.inReset = false → exec .resetReleased s = .next s)

/-- RESET-DEVICE places its OK reply and sets reset pending (R204). After the last byte of the RESET-DEVICE reply the
device reset of cause REQUEST is performed: as the RESET pin's, but for the cause and the link rate, which is kept
(R186, R188, R204, R206). That TXD_FRAME_END and DEVICE_RESET_REQUEST both perform it and end it is the model's reading
(notes/assumptions/7), as is that the PnOC levels are kept (notes/assumptions/10); that memory then lists nothing is its
choice (notes/assumptions/9). -/
def Obligations.ResetDeviceResetsAfterItsReply : Prop :=
  (∀ (s : State) (tag : Byte), s.Hears tag →
     exec (.resetDevice tag) s =
       .next ({ s with link := { s.link with resetPending := true } }.answered tag 0x05#8 [0x00#8]))
  ∧ (∀ (s : State) (tag : Byte) (bytes : List Byte), s.inReset = false → s.link.resetPending = true →
       s.link.transmitter = some ⟨bytes, .finalReply tag⟩ →
       (∃ o ∈ s.link.outstanding, o.tag = tag ∧ o.kind = 0x05#8) →
       let t : State := { State.reset with
         ports := s.ports.map fun p => { Port.reset false with ocLine := p.ocLine }
         notices := { State.reset.notices with
           entries := [⟨0#16, .restarted, 0x01#8, 0#48, 0#32, 0#16, false⟩] }
         link := { State.reset.link with linkRate := s.link.linkRate, resetCause := .request }
         pending := s.pending }
       exec .txdFrameEnd s = .next t ∧ exec .deviceResetRequest s = .next t)

/-- OPEN-SESSION with nothing else outstanding opens the session with its effects on the notice queue; otherwise it is
answered BAD_STATE (R185, R200). CLOSE-SESSION aborts every stream, its segment back in the state before the claim, and
every waiting host access, each with its ABORTED reply, applies the session effects, closes the session, and leaves
runs, plans, the Run Queue, memory and all else of the ports alone, their timers, transactions in flight and other
waiters among it (R21, R94, R119, R138, R163, R185, R201). That the count of requests still outstanding takes in those
just aborted is the model's reading (notes/assumptions/15). -/
def Obligations.SessionOpensAndCloses : Prop :=
  (∀ (s : State) (tag : Byte), s.Hears tag →
     (s.link.outstanding = [] →
       exec (.openSession tag) s = .next ({ s with
         notices := { s.notices with
           entries := s.notices.entries.map fun (n : Notice) => { n with delivered := false }
           mode := .poll, credits := 0 }
         link := { s.link with sessionOpen := true } }.answered tag 0x01#8
           (0x00#8 :: bytesBE 2 s.notices.entries.length
             ++ bytesBE 2 (match s.notices.entries with | [] => s.notices.nextNo | n :: _ => n.number).toNat
             ++ [byte s.link.linkRate.toNat])))
     ∧ (s.link.outstanding ≠ [] →
       exec (.openSession tag) s = .next (s.answered tag 0x01#8 [0x11#8, 0x00#8])))
  ∧ (∀ (s : State) (tag : Byte), s.Accepts tag → ∃ t, exec (.closeSession tag) s = .next t
       ∧ t.link.sessionOpen = false ∧ t.streams = []
       ∧ (∀ p : Fin 8, (t.port p).state = (s.port p).state ∧ (t.port p).holder = (s.port p).holder
           ∧ (t.port p).access = (s.port p).access.filter (fun a => a.waitLeft.isNone))
       ∧ (∀ p : Fin 8,
           ((∀ a, (s.port p).access = some a → a.waitLeft = none) → t.port p = s.port p)
           ∧ (∀ a, (s.port p).access = some a → a.waitLeft.isSome = true →
               t.port p = { s.port p with
                 access := none, waiters := (s.port p).waiters.filter fun w => w.who != .host }))
       ∧ t.notices = { s.notices with
           entries := s.notices.entries.map fun (n : Notice) => { n with delivered := false }
           mode := .poll, credits := 0 }
       ∧ t.engines = s.engines ∧ t.plans = s.plans ∧ t.runQueue = s.runQueue ∧ t.mem = s.mem
       ∧ (∀ st ∈ s.streams, ∀ r wasRead, s.ring st.ring = some r → st.segment < r.segments.length →
           (r.seg st.segment).state = .reading wasRead →
           ∃ u, t.ring st.ring = some u ∧ u.seg st.segment =
             { r.seg st.segment with state := if wasRead then SegState.read else SegState.sealed })
       ∧ t.link.replies = s.link.replies
           ++ s.streams.map (fun st =>
               ⟨st.tag, 0xD0#8, [0x1A#8, 0x00#8] ++ bytesBE 4 st.seqNo.toNat ++ bytesBE 2 st.nextChunk, false⟩)
           ++ (List.finRange 8).filterMap (fun p =>
               ((s.port p).access.filter fun a => a.waitLeft.isSome).map fun a =>
                 (⟨a.tag, 0xC2#8, [0x1A#8, 0x00#8], false⟩ : Reply))
           ++ [⟨tag, 0x82#8,
               [0x00#8, byte s.streams.length, byte s.waitingAccesses, byte s.link.outstanding.length], false⟩])

/-- IDENTIFY answers the part's fixed numbers, the link rate code and the session state, and changes nothing (R202).
-/
def Obligations.IdentifyNamesThePart : Prop :=
  ∀ (s : State) (tag : Byte), s.Hears tag →
    exec (.identify tag) s = .next (s.answered tag 0x03#8
      [0x00#8, 0x10#8, 0x18#8, 0x03#8, 0x08#8, 0x04#8, 0x20#8, 0x04#8, 0x00#8, 0x04#8, 0x04#8, 0x00#8, 0x01#8, 0x00#8,
       0x04#8, byte s.link.linkRate.toNat, if s.link.sessionOpen then 0x01#8 else 0x00#8])

/-- ABORT-REQUEST's first three checks: no such outstanding request, one of another kind (itself among them), one whose
final reply is placed or being sent (R203). ABORT-REQUEST on an open stream: the segment returns to the state before
the claim, the stream is gone, and the ABORTED reply with the sequence number and the frames taken comes before the OK
(R21, R160, R195, R203), whichever streams are open beside it; a last stream served that is aborted is none (R197). On
a host access: a waiting one leaves its wait list, its ABORTED reply before the OK; a granted one is TOO_LATE (R132,
R137, R203). -/
def Obligations.AbortRequestByItsTarget : Prop :=
  (∀ (s : State) (tag target : Byte), s.Accepts tag →
     ((∀ o ∈ s.link.outstanding, o.tag ≠ target) → target ≠ tag →
       exec (.abortRequest tag target) s = .next (s.answered tag 0x04#8 [0x16#8, 0x00#8]))
     ∧ (target = tag → exec (.abortRequest tag target) s = .next (s.answered tag 0x04#8 [0x11#8, 0x00#8]))
     ∧ (∀ o, s.link.outstanding.find? (fun x => x.tag == target) = some o →
         (o.kind ≠ 0x50#8 → o.kind ≠ 0x42#8 →
           exec (.abortRequest tag target) s = .next (s.answered tag 0x04#8 [0x11#8, 0x00#8]))
         ∧ ((o.kind = 0x50#8 ∨ o.kind = 0x42#8) → o.stage ≠ .withOwner →
           exec (.abortRequest tag target) s = .next (s.answered tag 0x04#8 [0x1B#8, 0x00#8]))))
  ∧ (∀ (s : State) (tag : Byte) (st : Stream) (r : Ring) (wasRead : Bool) (o : OutEntry), s.Accepts tag →
       s.streams = [st] → s.link.outstanding = [o] → o = ⟨st.tag, 0x50#8, .withOwner⟩ → s.ring st.ring = some r →
       (r.seg st.segment).state = .reading wasRead → s.link.lastServed ≠ some st.tag →
       exec (.abortRequest tag st.tag) s = .next { s with
         rings := s.rings.set st.ring (some { r with
           segments := r.segments.set st.segment
             { r.seg st.segment with state := if wasRead then SegState.read else SegState.sealed } })
         streams := []
         link := { s.link with
           outstanding := [⟨st.tag, 0x50#8, .placed⟩, ⟨tag, 0x04#8, .placed⟩]
           replies := s.link.replies ++
             [⟨st.tag, 0xD0#8, [0x1A#8, 0x00#8] ++ bytesBE 4 st.seqNo.toNat ++ bytesBE 2 st.nextChunk, false⟩,
              ⟨tag, 0x84#8, [0x00#8], false⟩] } })
  ∧ (∀ (s : State) (tag target : Byte) (p : Fin 8) (a : HostAccess) (o : OutEntry), s.Accepts tag →
       s.link.outstanding.find? (fun x => x.tag == target) = some o → o.kind = 0x42#8 → o.stage = .withOwner →
       (∀ st ∈ s.streams, st.tag ≠ target) → (s.port p).access = some a → a.tag = target →
       (∀ q < p, ∀ b, (s.port q).access = some b → b.tag ≠ target) →
       (a.waitLeft.isSome = true →
         exec (.abortRequest tag target) s = .next (((s.setPort p { s.port p with
           access := none
           waiters := (s.port p).waiters.filter fun w => w.who != .host }).placeReply target 0x42#8
             [0x1A#8, 0x00#8]).answered tag 0x04#8 [0x00#8]))
       ∧ (a.waitLeft = none →
         exec (.abortRequest tag target) s = .next (s.answered tag 0x04#8 [0x1B#8, 0x00#8])))
  ∧ (∀ (s : State) (tag : Byte) (st : Stream) (r : Ring) (wasRead : Bool) (o : OutEntry) (before after : List Stream),
       s.Accepts tag → s.streams = before ++ st :: after → (∀ x ∈ before ++ after, x.tag ≠ st.tag) →
       s.link.outstanding.find? (fun x => x.tag == st.tag) = some o → o.kind = 0x50#8 → o.stage = .withOwner →
       s.ring st.ring = some r → (r.seg st.segment).state = .reading wasRead →
       exec (.abortRequest tag st.tag) s = .next (({ s with
         rings := s.rings.set st.ring (some { r with
           segments := r.segments.set st.segment
             { r.seg st.segment with state := if wasRead then SegState.read else SegState.sealed } })
         streams := before ++ after
         link := { s.link with lastServed := if s.link.lastServed = some st.tag then none else s.link.lastServed }
         }.placeReply st.tag 0x50#8 ([0x1A#8, 0x00#8] ++ bytesBE 4 st.seqNo.toNat ++ bytesBE 2 st.nextChunk)).answered
           tag 0x04#8 [0x00#8]))

/-- A ring, plan or port number outside its range is answered BAD_VALUE and changes nothing, and so does a request of
a ring that is not defined, answered BAD_STATE (R2, R3, R30, R97, R115, R134, R141 to R143, R153, R207). -/
def Obligations.NumbersOutOfRangeAreBadValues : Prop :=
  ∀ (s : State) (tag n a b c d e f g h i : Byte) (half : Half) (word : Word) (value : Value)
    (steps : List EncodedStep) (k : Fin 4) (request : Instr) (kind : Byte), s.Accepts tag →
    (4 ≤ n.toNat →
      (request, kind) ∈
        [(.defineRing tag n a b c half d, 0x10#8), (.deleteRing tag n, 0x11#8), (.sealRing tag n, 0x12#8),
         (.releaseSegment tag n word, 0x13#8), (.queryRing tag n, 0x14#8), (.listSegments tag n a, 0x15#8),
         (.readSegment tag n a word, 0x50#8)] →
      exec request s = .next (s.answered tag kind [0x10#8, 0x00#8]))
    ∧ (n.toNat = k → s.ring k = none → a.toNat ≤ 1 →
      (request, kind) ∈
        [(.deleteRing tag n, 0x11#8), (.sealRing tag n, 0x12#8), (.releaseSegment tag n word, 0x13#8),
         (.listSegments tag n b, 0x15#8), (.readSegment tag n a word, 0x50#8)] →
      exec request s = .next (s.answered tag kind [0x11#8, 0x00#8]))
    ∧ (32 ≤ n.toNat → 1 ≤ steps.length → steps.length ≤ 16 →
      (request, kind) ∈
        [(.openPlan tag n a b c d e f, 0x20#8), (.appendSteps tag n steps, 0x21#8), (.closePlan tag n, 0x22#8),
         (.armPlan tag n, 0x23#8), (.disarmPlan tag n, 0x24#8), (.deletePlan tag n, 0x25#8),
         (.queryPlan tag n, 0x26#8), (.fire tag n, 0x27#8), (.abortRun tag n, 0x38#8)] →
      exec request s = .next (s.answered tag kind [0x10#8, 0x00#8]))
    ∧ (8 ≤ n.toNat →
      (request, kind) ∈
        [(.portPowerOn tag n, 0x40#8), (.portPowerOff tag n, 0x40#8), (.queryPort tag n, 0x41#8),
         (.probeAccess tag n a b value, 0x42#8), (.setProfile tag n a b c d e f g h i, 0x48#8),
         (.commitProfile tag n, 0x49#8), (.readProfile tag n a, 0x4A#8)] →
      exec request s = .next (s.answered tag kind [0x10#8, 0x00#8]))

/-! ## Rings and capture memory -/

/-- First fit finds the lowest block from which all blocks needed are free, or there is none (R4). -/
def Obligations.FirstFitIsTheLowestFreeRange : Prop :=
  ∀ (s : State) (n : Nat), s.RingsSound → 0 < n →
    (∀ b, s.firstFit n = some b →
      b + n ≤ 1024 ∧ (∀ x, b ≤ x → x < b + n → s.blockHeld x = false)
      ∧ ∀ c < b, ∃ x, c ≤ x ∧ x < c + n ∧ s.blockHeld x = true)
    ∧ (s.firstFit n = none → ∀ c, c + n ≤ 1024 → ∃ x, c ≤ x ∧ x < c + n ∧ s.blockHeld x = true)

/-- DEFINE-RING with a field out of its range is answered BAD_VALUE, the stall limit of 0 only under STALL (R3). With
its fields in range: a defined ring is answered BAD_STATE, no room NO_MEMORY, and otherwise the ring is made at the
first fit with everything as R4 says (R3, R4). DELETE-RING returns the blocks of an unused ring; while a plan that
names it is ARMED or has a run, or a segment is READING, it is answered IN_USE (R5). -/
def Obligations.RingsAreDefinedAndDeleted : Prop :=
  (∀ (s : State) (tag ring count size policy autoRelease : Byte) (limit : Half) (k : Fin 4), s.Accepts tag →
     ring.toNat = k → 2 ≤ count.toNat → count.toNat ≤ 16 → 1 ≤ size.toNat → size.toNat ≤ 64 → policy.toNat ≤ 1 →
     autoRelease.toNat ≤ 1 → (policy = 0x00#8 → limit ≠ 0#16) →
     ((s.ring k).isSome = true →
       exec (.defineRing tag ring count size policy limit autoRelease) s
         = .next (s.answered tag 0x10#8 [0x11#8, 0x00#8]))
     ∧ (s.ring k = none → s.firstFit (count.toNat * size.toNat) = none →
       exec (.defineRing tag ring count size policy limit autoRelease) s
         = .next (s.answered tag 0x10#8 [0x13#8, 0x00#8]))
     ∧ (∀ b, s.ring k = none → s.firstFit (count.toNat * size.toNat) = some b →
       exec (.defineRing tag ring count size policy limit autoRelease) s
         = .next ((s.setRing k (some
             { count := count.toNat, size := size.toNat
               policy := if policy = 0x00#8 then .stall else .discard
               stallLimit := if policy = 0x00#8 then limit.toNat else 0
               autoRelease := autoRelease != 0x00#8, base := b
               segments := List.replicate count.toNat
                 ⟨.free, 0#32, 0, 0, 0#48, 0#48, false, none⟩
               nextSeq := 0#32, discardCount := 0, gapPending := false, fillPos := none, stallList := [] })).answered
             tag 0x10#8 (0x00#8 :: bytesBE 2 b))))
  ∧ (∀ (s : State) (tag ring : Byte) (k : Fin 4) (r : Ring), s.Accepts tag → ring.toNat = k → s.ring k = some r →
       ((∀ p : Fin 32, (s.plan p).attrs.ring = k → (s.plan p).state ≠ .armed ∧ (s.plan p).runStatus = .idle) →
         (∀ g ∈ r.segments, ∀ b, g.state ≠ .reading b) →
         exec (.deleteRing tag ring) s = .next ((s.setRing k none).answered tag 0x11#8 [0x00#8]))
       ∧ ((∃ p : Fin 32, (s.plan p).attrs.ring = k ∧ ((s.plan p).state = .armed ∨ (s.plan p).runStatus ≠ .idle))
           ∨ (∃ g ∈ r.segments, ∃ b, g.state = .reading b) →
         exec (.deleteRing tag ring) s = .next (s.answered tag 0x11#8 [0x12#8, 0x00#8])))
  ∧ (∀ (s : State) (tag ring count size policy autoRelease : Byte) (limit : Half), s.Accepts tag →
       4 ≤ ring.toNat ∨ count.toNat < 2 ∨ 16 < count.toNat ∨ size.toNat < 1 ∨ 64 < size.toNat ∨ 1 < policy.toNat
         ∨ 1 < autoRelease.toNat ∨ (policy = 0x00#8 ∧ limit = 0#16) →
       exec (.defineRing tag ring count size policy limit autoRelease) s
         = .next (s.answered tag 0x10#8 [0x10#8, 0x00#8]))

/-- SEAL-RING seals the FILLING segment with cause HOST, its notice posted (R11, R18). RELEASE-SEGMENT frees a SEALED
or READ segment that wakes no one; a READING one is answered BAD_STATE, an unknown number NOT_FOUND (R6, R20). The
segment meant is the SEALED, READING or READ one that carries the number (R20). The release of the awaited segment
places the stall list's record in it within the same event, here of one record whose engine goes on from a STAMP step
to a WAIT step; that of another segment wakes no one (R10, R14, R20, R78, R84). The reset of a woken engine's counts is
the model's choice (notes/assumptions/24). -/
def Obligations.SegmentsAreSealedAndReleased : Prop :=
  (∀ (s : State) (tag ring : Byte) (k : Fin 4) (r : Ring) (i : Nat), s.Accepts tag → ring.toNat = k →
     s.HasRoom k r i 0 →
     exec (.sealRing tag ring) s = .next (((s.setRing k (some { r with
         segments := r.segments.set i { r.seg i with
           state := .sealed, seqNo := r.nextSeq, sealCause := some .host, gapBefore := r.gapPending }
         nextSeq := r.nextSeq + 1
         gapPending := false })).post .segmentSealed (byte k) r.nextSeq
           (BitVec.ofNat 16 (r.seg i).wordsUsed)).answered tag 0x12#8
       (0x00#8 :: 0x01#8 :: bytesBE 4 r.nextSeq.toNat ++ bytesBE 2 (r.seg i).wordsUsed)))
  ∧ (∀ (s : State) (tag ring : Byte) (seqNo : Word) (k : Fin 4) (r : Ring), s.Accepts tag → ring.toNat = k →
       s.ring k = some r →
       (r.find seqNo = none →
         exec (.releaseSegment tag ring seqNo) s = .next (s.answered tag 0x13#8 [0x16#8, 0x00#8]))
       ∧ (∀ i b, r.find seqNo = some i → (r.seg i).state = .reading b →
         exec (.releaseSegment tag ring seqNo) s = .next (s.answered tag 0x13#8 [0x11#8, 0x00#8]))
       ∧ (∀ i, r.find seqNo = some i → (r.seg i).state = .sealed ∨ (r.seg i).state = .read → r.stallList = [] →
         exec (.releaseSegment tag ring seqNo) s = .next ((s.setRing k (some { r with
           segments := r.segments.set i ⟨.free, 0#32, 0, 0, 0#48, 0#48, false, none⟩ })).answered tag 0x13#8 [0x00#8])))
  ∧ (∀ (r : Ring) (seqNo : Word),
       (∀ i, r.find seqNo = some i ↔ r.Carries seqNo i ∧ ∀ j < i, ¬ r.Carries seqNo j)
       ∧ (r.find seqNo = none ↔ ∀ i, ¬ r.Carries seqNo i))
  ∧ (∀ (s : State) (tag ring : Byte) (seqNo : Word) (k : Fin 4) (r : Ring) (i : Nat), s.Accepts tag →
       ring.toNat = k → s.ring k = some r → r.find seqNo = some i →
       (r.seg i).state = .sealed ∨ (r.seg i).state = .read →
       (r.awaited ≠ i → (r.seg r.awaited).state ≠ .free →
         exec (.releaseSegment tag ring seqNo) s = .next ((s.setRing k (some { r with
           segments := r.segments.set i ⟨.free, 0#32, 0, 0, 0#48, 0#48, false, none⟩ })).answered tag 0x13#8 [0x00#8]))
       ∧ (∀ (x : StallEntry) (run : Run) (now : PlanStep) (d : Nat), r.awaited = i → i < r.segments.length →
           r.filling = none → r.stallList = [x] → x.sealOnEnd = false → (s.engine x.engine).state = .stalled .stamp →
           s.Executes x.engine run now → (s.plan run.plan).steps[run.stepIndex + 1]? = some (.wait d) →
         exec (.releaseSegment tag ring seqNo) s = .next (({ s with
           rings := s.rings.set k (some { r with
             segments := r.segments.set i
               ⟨.filling, 0#32, x.record.length, 1, x.record.time, x.record.time, false, none⟩
             fillPos := some i
             stallList := [] })
           mem := Memory.writeWords s.mem (r.segBase i) x.record.words
           }.setEngine x.engine { s.engine x.engine with
             state := .waiting d
             run := some { run with stepIndex := run.stepIndex + 1, remaining := 0, retry := 0 } }).answered
               tag 0x13#8 [0x00#8])))

/-- QUERY-RING and LIST-SEGMENTS report a defined ring and change nothing (R22, R23); that LIST-SEGMENTS' reply has no
count byte, that the definition comes after its marker, and that the five state counts stand in the order of Table 1-2,
is the model's (notes/assumptions/14). QUERY-RING of a ring that is not defined is marked so, every other field 0
(R22). A ring with no FILLING segment is not changed by SEAL-RING; the reply is marked empty (R18), its other fields
sent as zeros, which is the model's reading (notes/assumptions/14). A descriptor's bytes are as Table 10-18 gives them.
-/
def Obligations.RingQueriesReportTheRing : Prop :=
  (∀ (s : State) (tag ring start : Byte) (k : Fin 4) (r : Ring), s.Accepts tag → ring.toNat = k → s.ring k = some r →
     (exec (.queryRing tag ring) s = .next (s.answered tag 0x14#8
       ([0x00#8, 0x01#8, byte r.count, byte r.size, r.policy.code] ++ bytesBE 2 r.stallLimit ++ [flagByte r.autoRelease]
         ++ bytesBE 2 r.base ++ bytesBE 4 r.nextSeq.toNat ++ bytesBE 4 r.discardCount
         ++ [flagByte r.gapPending, byte r.stallList.length,
             byte (r.segments.countP fun g => g.state == .free), byte (r.segments.countP fun g => g.state == .filling),
             byte (r.segments.countP fun g => g.state == .sealed),
             byte (r.segments.countP fun g => g.state == .reading true || g.state == .reading false),
             byte (r.segments.countP fun g => g.state == .read)])))
     ∧ (r.count ≤ start.toNat →
       exec (.listSegments tag ring start) s = .next (s.answered tag 0x15#8 [0x10#8, 0x00#8]))
     ∧ (start.toNat < r.count → r.segments.length = r.count →
       exec (.listSegments tag ring start) s = .next (s.answered tag 0x15#8
         (0x00#8 :: (((r.segments.drop start.toNat).take 8).zipIdx start.toNat).flatMap fun g =>
           Segment.bytes g.2 g.1))))
  ∧ (∀ (s : State) (tag ring : Byte) (k : Fin 4) (r : Ring), s.Accepts tag → ring.toNat = k → s.ring k = some r →
       r.filling = none →
       exec (.sealRing tag ring) s = .next (s.answered tag 0x12#8 (List.replicate 8 0x00#8)))
  ∧ (∀ (s : State) (tag ring : Byte) (k : Fin 4), s.Accepts tag → ring.toNat = k → s.ring k = none →
       exec (.queryRing tag ring) s = .next (s.answered tag 0x14#8 (List.replicate 25 0x00#8)))
  ∧ (∀ (i : Nat) (g : Segment), Segment.bytes i g =
       [byte i, match g.state with | .free => 0x00#8 | .filling => 0x01#8 | .sealed => 0x02#8 | .reading _ => 0x03#8
                                   | .read => 0x04#8,
        match g.sealCause with | none => 0x00#8 | some .full => 0x01#8 | some .host => 0x02#8 | some .runEnd => 0x03#8,
        if g.gapBefore then 0x01#8 else 0x00#8] ++ bytesBE 4 g.seqNo.toNat ++ bytesBE 2 g.wordsUsed
         ++ bytesBE 2 g.recordCount ++ bytesBE 6 g.firstTime.toNat ++ bytesBE 6 g.lastTime.toNat)

/-- A record appended to a segment is read back word for word from where the words used ended, and every byte outside
those words reads as before (R7, R9). Under DISCARD a record that finds no room is dropped and counted, and
RING_OVERRUN posted for the first since a seal (R17). A record that does not fit the FILLING segment seals it FULL; it
opens the next one in turn if that is FREE, and else, under STALL, joins the stall list, as it does where nothing is
FILLING and the awaited segment is not FREE; under DISCARD it is then dropped, its RING_OVERRUN behind the seal's
notice (R9, R10, R11, R12, R13, R17). With nothing FILLING the awaited segment is opened if it is FREE (R9, R10). A
RUN_END with the seal-on-end indication seals its segment as soon as it is placed (R19). A record's words and the codes
in them are as R8 and Tables 10-15 and 10-16 give them. That a word lies at four bytes is the model's choice
(notes/assumptions/9). -/
def Obligations.RecordsAreAppendedOrDropped : Prop :=
  (∀ (s : State) (k : Fin 4) (r : Ring) (i : Nat) (rec : Record), Memory.wf s.mem = true →
     Memory.readWords (s.appendRecord k r i rec).mem (r.segBase i + (r.seg i).wordsUsed) rec.length = rec.words
     ∧ ∀ a : Nat, a < 4 * (r.segBase i + (r.seg i).wordsUsed) ∨
         4 * (r.segBase i + (r.seg i).wordsUsed + rec.length) ≤ a →
         Memory.readByte (s.appendRecord k r i rec).mem a = Memory.readByte s.mem a)
  ∧ (∀ (s : State) (k e : Fin 4) (r : Ring) (rec : Record) (sealOnEnd : Bool), s.ring k = some r → r.policy = .discard →
       r.filling = none → (r.seg r.awaited).state ≠ .free →
       s.commit k e rec sealOnEnd =
         (let t := s.setRing k (some { r with discardCount := min (r.discardCount + 1) 0xFFFFFFFF, gapPending := true })
          (if r.gapPending then t
           else t.post .ringOverrun (byte k) (BitVec.ofNat 32 (min (r.discardCount + 1) 0xFFFFFFFF)) 0#16, .dropped)))
  ∧ (∀ (s : State) (k e : Fin 4) (r : Ring) (i : Nat) (rec : Record) (sealOnEnd : Bool), s.ring k = some r →
       i < r.segments.length → r.fillPos = some i → (r.seg i).state = .filling →
       r.segWords < (r.seg i).wordsUsed + rec.length →
       let j := (i + 1) % r.count
       let full : Ring := { r with
         segments := r.segments.set i { r.seg i with
           state := .sealed, seqNo := r.nextSeq, sealCause := some .full, gapBefore := r.gapPending }
         nextSeq := r.nextSeq + 1
         gapPending := false }
       let noted : State := s.post .segmentSealed (byte k) r.nextSeq (BitVec.ofNat 16 (r.seg i).wordsUsed)
       (j ≠ i → j < r.segments.length → (r.seg j).state = .free → sealOnEnd = false →
         s.commit k e rec sealOnEnd = (noted.appendRecord k { full with
           segments := full.segments.set j { r.seg j with state := .filling }, fillPos := some j } j rec, .placed))
       ∧ (j ≠ i → (r.seg j).state ≠ .free → r.policy = .stall →
         s.commit k e rec sealOnEnd = (noted.setRing k (some { full with
           stallList := r.stallList ++ [⟨e, rec, sealOnEnd, r.stallLimit * 1000⟩] }), .stalled))
       ∧ (j ≠ i → (r.seg j).state ≠ .free → r.policy = .discard →
         s.commit k e rec sealOnEnd = ((noted.setRing k (some { full with
           discardCount := min (r.discardCount + 1) 0xFFFFFFFF, gapPending := true })).post .ringOverrun (byte k)
             (BitVec.ofNat 32 (min (r.discardCount + 1) 0xFFFFFFFF)) 0#16, .dropped)))
  ∧ (∀ (s : State) (k e : Fin 4) (r : Ring) (rec : Record) (sealOnEnd : Bool), s.ring k = some r → r.policy = .stall →
       r.filling = none → (r.seg r.awaited).state ≠ .free →
       s.commit k e rec sealOnEnd = (s.setRing k (some { r with
         stallList := r.stallList ++ [⟨e, rec, sealOnEnd, r.stallLimit * 1000⟩] }), .stalled))
  ∧ (∀ (s : State) (k e : Fin 4) (r : Ring) (i : Nat) (rec : Record), s.HasRoom k r i rec.length →
       s.commit k e rec true = ({ s with
         rings := s.rings.set k (some { r with
           segments := r.segments.set i
             { state := .sealed, seqNo := r.nextSeq, wordsUsed := (r.seg i).wordsUsed + rec.length
               recordCount := (r.seg i).recordCount + 1
               firstTime := if (r.seg i).recordCount = 0 then rec.time else (r.seg i).firstTime
               lastTime := rec.time, gapBefore := r.gapPending, sealCause := some .runEnd }
           nextSeq := r.nextSeq + 1
           gapPending := false })
         mem := Memory.writeWords s.mem (r.segBase i + (r.seg i).wordsUsed) rec.words
         }.post .segmentSealed (byte k) r.nextSeq (BitVec.ofNat 16 ((r.seg i).wordsUsed + rec.length)), .placed))
  ∧ (∀ (s : State) (k e : Fin 4) (r : Ring) (rec : Record), s.ring k = some r → r.filling = none →
       r.awaited < r.segments.length → (r.seg r.awaited).state = .free →
       s.commit k e rec false = (s.appendRecord k { r with
         segments := r.segments.set r.awaited { r.seg r.awaited with state := .filling }
         fillPos := some r.awaited } r.awaited rec, .placed))
  ∧ (∀ (r : Ring) (i : Nat),
       (r.filling = some i ↔ r.fillPos = some i ∧ (r.seg i).state = .filling)
       ∧ (r.fillPos = none → r.awaited = 0) ∧ (r.fillPos = some i → r.awaited = (i + 1) % r.count)
       ∧ r.segBase i = 256 * (r.base + i * r.size) ∧ r.segWords = 256 * r.size)
  ∧ (∀ rec : Record, rec.step < 128 → rec.length < 128 →
       let time (t : Time) : List Word := [0#16 ++ t.extractLsb' 32 16, t.extractLsb' 0 32]
       let kindAndBody : BitVec 3 × List Word := match rec.body with
         | .runBegin n source t => (1#3, (n ++ 0x00#8 ++ source.code) :: time t)
         | .samples samples => (2#3, samples.map fun x =>
             match x with | .data v => 0x00#8 ++ v | .busy => 0x01#8 ++ 0#24)
         | .stamp => (3#3, [])
         | .runEnd reason remaining misses written => (4#3,
             [0#16 ++ (match reason with | none => 0x00#8 | some x => x.code)
                ++ (match reason with | none => 0xFF#8 | some _ => byte rec.step),
              BitVec.ofNat 16 remaining ++ BitVec.ofNat 16 misses, BitVec.ofNat 32 written])
       rec.length = 3 + kindAndBody.2.length
       ∧ rec.words = (kindAndBody.1 ++ BitVec.ofNat 5 rec.plan ++ BitVec.ofNat 7 rec.step ++ BitVec.ofNat 7 rec.length
           ++ 0#10) :: time rec.time ++ kindAndBody.2)
  ∧ ((∀ n : Fin 4, (Source.ext n).code.toNat = n ∧ (Source.cadence n).code.toNat = 0x10 + n)
     ∧ (∀ n : Fin 8, (Source.attn n).code.toNat = 0x20 + n) ∧ (∀ p : Fin 32, (Source.done p).code.toNat = 0x40 + p)
     ∧ Source.host.code = 0x80#8 ∧ Source.held.code = 0x81#8
     ∧ [Reason.rejected, .silent, .busyLimit, .portDown, .subaddrAbsent, .ringStall].map (fun x => x.code)
         = [0x01#8, 0x02#8, 0x03#8, 0x04#8, 0x05#8, 0x06#8])

/-- STALL_WAKE: the head of the stall list is placed in the FREE awaited segment, and its engine goes on, here from a
STAMP step to a WAIT step (R10, R14, R78, R82, R84). That the run's remaining and retry counts are set to 0 at the
change of step is the model's choice (notes/assumptions/24). -/
def Obligations.StallWakePlacesTheHead : Prop :=
  ∀ (s : State) (k e : Fin 4) (r : Ring) (x : StallEntry) (run : Run) (st : PlanStep) (d : Nat), s.inReset = false →
    s.ring k = some r → r.stallList = [x] → x.engine = e → x.sealOnEnd = false → r.filling = none →
    r.awaited < r.segments.length → (r.seg r.awaited).state = .free → (s.engine e).state = .stalled .stamp →
    s.Executes e run st → (s.plan run.plan).steps[run.stepIndex + 1]? = some (.wait d) →
    exec (.stallWake k) s = .next ({ s with
      rings := s.rings.set k (some { r with
        segments := r.segments.set r.awaited { r.seg r.awaited with
          state := .filling
          wordsUsed := (r.seg r.awaited).wordsUsed + x.record.length
          recordCount := (r.seg r.awaited).recordCount + 1
          firstTime :=
            if (r.seg r.awaited).recordCount = 0 then x.record.time else (r.seg r.awaited).firstTime
          lastTime := x.record.time }
        fillPos := some r.awaited
        stallList := [] })
      mem := Memory.writeWords s.mem (r.segBase r.awaited + (r.seg r.awaited).wordsUsed) x.record.words
      }.setEngine e { s.engine e with
        state := .waiting d
        run := some { run with stepIndex := run.stepIndex + 1, remaining := 0, retry := 0 } })

/-! ## Plans, triggers, runs -/

/-- OPEN-PLAN with an attribute out of its range is answered BAD_VALUE, whatever the plan (R31, Table 2-4). With its
attributes in range: an EMPTY or READY plan without a run is opened and its steps return to the pool, any other is
answered BAD_STATE (R31); the attributes are what its bytes stand for, the binding number read by the binding type and
ignored for NONE (Table 2-4, R207). CLOSE-PLAN, ARM-PLAN and DELETE-PLAN by the plan's state (R33, R34, R36). -/
def Obligations.PlansOpenCloseArmAndDelete : Prop :=
  (∀ (s : State) (tag plan priority ring bindType bindNumber overlap sealOnEnd : Byte) (p : Fin 32)
     (attrs : Attributes), s.Accepts tag → plan.toNat = p →
     attributes? priority ring bindType bindNumber overlap sealOnEnd = some attrs →
     (((s.plan p).state = .empty ∨ (s.plan p).state = .ready) → (s.plan p).runStatus = .idle →
       exec (.openPlan tag plan priority ring bindType bindNumber overlap sealOnEnd) s =
         .next (({ s with poolFree := s.poolFree + (s.plan p).steps.length }.setPlan p
           { s.plan p with state := .opened, attrs := attrs, steps := [] }).answered tag 0x20#8 [0x00#8]))
     ∧ ((s.plan p).state = .opened ∨ (s.plan p).state = .armed ∨ (s.plan p).runStatus ≠ .idle →
       exec (.openPlan tag plan priority ring bindType bindNumber overlap sealOnEnd) s =
         .next (s.answered tag 0x20#8 [0x11#8, 0x00#8])))
  ∧ (∀ (s : State) (tag plan : Byte) (p : Fin 32), s.Accepts tag → plan.toNat = p →
       ((s.plan p).state = .opened → (s.plan p).steps ≠ [] →
         exec (.closePlan tag plan) s = .next ((s.setPlan p { s.plan p with
           state := .ready, runNumber := 0#16, held := false, missCount := 0 }).answered tag 0x22#8
             [0x00#8, byte (s.plan p).steps.length]))
       ∧ ((s.plan p).state = .opened → (s.plan p).steps = [] →
         exec (.closePlan tag plan) s = .next (s.answered tag 0x22#8 [0x10#8, 0x00#8]))
       ∧ ((s.plan p).state ≠ .opened →
         exec (.closePlan tag plan) s = .next (s.answered tag 0x22#8 [0x11#8, 0x00#8]))
       ∧ ((s.plan p).state = .ready → s.clear = none → (s.ring (s.plan p).attrs.ring).isSome = true →
         exec (.armPlan tag plan) s =
           .next ((s.setPlan p { s.plan p with state := .armed }).answered tag 0x23#8 [0x00#8]))
       ∧ ((s.plan p).state = .ready → s.clear = none → s.ring (s.plan p).attrs.ring = none →
         exec (.armPlan tag plan) s = .next (s.answered tag 0x23#8 [0x15#8, 0x00#8]))
       ∧ ((s.plan p).state ≠ .ready ∨ s.clear.isSome = true →
         exec (.armPlan tag plan) s = .next (s.answered tag 0x23#8 [0x11#8, 0x00#8]))
       ∧ (((s.plan p).state = .opened ∨ (s.plan p).state = .ready) → (s.plan p).runStatus = .idle →
         exec (.deletePlan tag plan) s =
           .next (({ s with poolFree := s.poolFree + (s.plan p).steps.length }.setPlan p { s.plan p with
             state := .empty, attrs := .zero, steps := [], runNumber := 0#16, missCount := 0 }).answered tag 0x25#8
               (0x00#8 :: bytesBE 2 (s.poolFree + (s.plan p).steps.length))))
       ∧ ((s.plan p).state = .empty ∨ (s.plan p).state = .armed ∨ (s.plan p).runStatus ≠ .idle →
         exec (.deletePlan tag plan) s = .next (s.answered tag 0x25#8 [0x11#8, 0x00#8])))
  ∧ (∀ (s : State) (tag plan priority ring bindType bindNumber overlap sealOnEnd : Byte), s.Accepts tag →
       4 ≤ priority.toNat ∨ 4 ≤ ring.toNat ∨ 1 < overlap.toNat ∨ 1 < sealOnEnd.toNat ∨ 4 < bindType.toNat
         ∨ ((bindType = 0x01#8 ∨ bindType = 0x02#8) ∧ 4 ≤ bindNumber.toNat)
         ∨ (bindType = 0x03#8 ∧ 8 ≤ bindNumber.toNat) ∨ (bindType = 0x04#8 ∧ 32 ≤ bindNumber.toNat) →
       exec (.openPlan tag plan priority ring bindType bindNumber overlap sealOnEnd) s
         = .next (s.answered tag 0x20#8 [0x10#8, 0x00#8]))
  ∧ (∀ (priority ring bindType bindNumber overlap sealOnEnd : Byte) (attrs : Attributes),
       attributes? priority ring bindType bindNumber overlap sealOnEnd = some attrs ↔
         priority.toNat = attrs.priority ∧ ring.toNat = attrs.ring
         ∧ (match attrs.binding with
            | .unbound => bindType = 0x00#8
            | .ext n => bindType = 0x01#8 ∧ bindNumber.toNat = n
            | .cadence n => bindType = 0x02#8 ∧ bindNumber.toNat = n
            | .attn n => bindType = 0x03#8 ∧ bindNumber.toNat = n
            | .done q => bindType = 0x04#8 ∧ bindNumber.toNat = q)
         ∧ overlap = (match attrs.overlap with | .miss => 0x00#8 | .hold => 0x01#8)
         ∧ sealOnEnd = if attrs.sealOnEnd then 0x01#8 else 0x00#8)

/-- APPEND-STEPS to a plan that is not OPEN is answered BAD_STATE (R32). To an OPEN plan: the first invalid step by its
position, then PLAN_FULL, then POOL_EMPTY, and otherwise the steps join the list whole (R32, R28). What each encoded
step stands for, and which are invalid: a kind above 05H, and, for the kinds that have the field, a port above 7, a
busy policy of 3, a count of 0, a code above 255, a duration outside 1 to 1,000,000 (R29, Tables 2-5 and 10-14). -/
def Obligations.AppendStepsTakesAllOrNone : Prop :=
  (∀ (s : State) (tag plan : Byte) (steps : List EncodedStep) (p : Fin 32), s.Accepts tag → plan.toNat = p →
     1 ≤ steps.length → steps.length ≤ 16 → (s.plan p).state = .opened →
     (∀ i x, steps[i]? = some x → encodedStep? x = none → (∀ j < i, ∀ y, steps[j]? = some y → encodedStep? y ≠ none) →
       exec (.appendSteps tag plan steps) s = .next (s.answered tag 0x21#8 [0x10#8, byte i]))
     ∧ (∀ new, steps.map encodedStep? = new.map some →
         (128 < (s.plan p).steps.length + steps.length →
           exec (.appendSteps tag plan steps) s = .next (s.answered tag 0x21#8 [0x14#8, 0x01#8]))
         ∧ ((s.plan p).steps.length + steps.length ≤ 128 → s.poolFree < steps.length →
           exec (.appendSteps tag plan steps) s = .next (s.answered tag 0x21#8 [0x14#8, 0x02#8]))
         ∧ ((s.plan p).steps.length + steps.length ≤ 128 → steps.length ≤ s.poolFree →
           exec (.appendSteps tag plan steps) s =
             .next (({ s with poolFree := s.poolFree - steps.length }.setPlan p
               { s.plan p with steps := (s.plan p).steps ++ new }).answered tag 0x21#8
                 (0x00#8 :: byte ((s.plan p).steps.length + steps.length)
                   :: bytesBE 2 (s.poolFree - steps.length))))))
  ∧ (∀ (s : State) (tag plan : Byte) (steps : List EncodedStep) (p : Fin 32), s.Accepts tag → plan.toNat = p →
       1 ≤ steps.length → steps.length ≤ 16 → (s.plan p).state ≠ .opened →
       exec (.appendSteps tag plan steps) s = .next (s.answered tag 0x21#8 [0x11#8, 0x00#8]))
  ∧ (∀ x : EncodedStep,
       let fn : PortFn :=
         if x.kind = 0x00#8 then .read else if x.kind = 0x01#8 then .write x.value else .control
       let policy : BitVec 2 := x.flags.extractLsb' 4 2
       (x.kind.toNat ≤ 2 →
         (8 ≤ x.port.toNat ∨ policy = 3#2 ∨ x.count = 0#16 → encodedStep? x = none)
         ∧ (∀ p : Fin 8, x.port.toNat = p → policy ≠ 3#2 → x.count ≠ 0#16 →
             encodedStep? x = some (.port
               { fn := fn, port := p, sub := (x.flags.extractLsb' 0 4).toFin, count := x.count.toNat
                 busy := if policy = 0#2 then .stop else if policy = 1#2 then .retry else .accept
                 tolerate := x.flags.getLsbD 6 })))
       ∧ (x.kind = 0x03#8 → encodedStep? x = some .stamp)
       ∧ (x.kind = 0x04#8 → encodedStep? x =
           if x.value.toNat ≤ 255 then some (.notify (x.value.extractLsb' 0 8)) else none)
       ∧ (x.kind = 0x05#8 → encodedStep? x =
           if 1 ≤ x.value.toNat ∧ x.value.toNat ≤ 1000000 then some (.wait x.value.toNat) else none)
       ∧ (5 < x.kind.toNat → encodedStep? x = none))

/-- DISARM-PLAN by the run status: nothing further, the queued run removed with its notice, or the run left to
continue (R35, R43, R62). ABORT-RUN: NOT_FOUND without a run; a queued run is removed with its notice; the engine of a
run in TRANSACT keeps the abort until its transaction ends, and the request with it (R43, R61, R89, R90). In every other
state the run stops at once, off the wait list or the stall list it is on, its grant released: no RUN_END, the
RUN_ABORTED notice, the plan without a run, the engine IDLE, and then the reply (R42, R88, R90, R91). A run with an abort
stops so when its transaction ends, its outcome discarded, and the waiting requests are answered in order (R90, R91,
R111). The remaining count reported outside a port step is 0 by the model's own choice of when it is set
(notes/assumptions/24). -/
def Obligations.DisarmAndAbortDealWithTheRun : Prop :=
  (∀ (s : State) (tag plan : Byte) (p : Fin 32), s.Accepts tag → plan.toNat = p →
     ((s.plan p).state ≠ .armed →
       exec (.disarmPlan tag plan) s = .next (s.answered tag 0x24#8 [0x11#8, 0x00#8]))
     ∧ ((s.plan p).state = .armed → (s.plan p).runStatus = .idle →
       exec (.disarmPlan tag plan) s =
         .next ((s.setPlan p { s.plan p with state := .ready, held := false }).answered tag 0x24#8 [0x00#8, 0x00#8]))
     ∧ ((s.plan p).state = .armed → (s.plan p).runStatus = .running →
       exec (.disarmPlan tag plan) s =
         .next ((s.setPlan p { s.plan p with state := .ready, held := false }).answered tag 0x24#8 [0x00#8, 0x02#8]))
     ∧ ((s.plan p).state = .armed → (s.plan p).runStatus = .queued →
       exec (.disarmPlan tag plan) s =
         .next ((({ s with runQueue := s.runQueue.filter fun q => q.plan != p }.setPlan p { s.plan p with
           state := .ready, runStatus := .idle, held := false }).post .runAborted (byte p) 0#32 0x02FF#16).answered
             tag 0x24#8 [0x00#8, 0x01#8])))
  ∧ (∀ (s : State) (tag plan : Byte) (p : Fin 32), s.Accepts tag → plan.toNat = p →
       ((s.plan p).runStatus = .idle →
         exec (.abortRun tag plan) s = .next (s.answered tag 0x38#8 [0x16#8, 0x00#8]))
       ∧ ((s.plan p).runStatus = .queued →
         exec (.abortRun tag plan) s =
           .next ((({ s with runQueue := s.runQueue.filter fun q => q.plan != p }.setPlan p { s.plan p with
             runStatus := .idle, held := false }).post .runAborted (byte p) 0#32 0x01FF#16).answered
               tag 0x38#8 [0x00#8]))
       ∧ (∀ (e : Fin 4) (r : Run), (s.plan p).runStatus = .running → s.engineOf p = some e → (s.engine e).run = some r →
           (s.engine e).state = .transact → r.abortCause = none → r.plan = p →
         exec (.abortRun tag plan) s =
           .next (((s.setEngine e { s.engine e with
               run := some { r with abortCause := some .host }
               abortTags := (s.engine e).abortTags ++ [tag] }).setPlan p
             { s.plan p with held := false }).kept tag 0x38#8)))
  ∧ (∀ (s : State) (tag plan : Byte) (p : Fin 32) (e : Fin 4) (r : Run), s.Accepts tag → plan.toNat = p →
       (s.plan p).runStatus = .running → s.engineOf p = some e → (s.engine e).run = some r → r.plan = p →
       r.abortCause = none → (s.engine e).abortTags = [] → s.runQueue = [] → s.clear = none →
       let stopped (u : State) : State :=
         (((u.post .runAborted (byte p) (BitVec.ofNat 32 r.remaining) (0x01#8 ++ byte r.stepIndex)).setPlan p
           { s.plan p with runStatus := .idle, held := false }).setEngine e ⟨.idle, none, []⟩).answered
             tag 0x38#8 [0x00#8]
       (((∃ n, (s.engine e).state = .waiting n) ∨ (∃ n, (s.engine e).state = .starting n)
           ∨ (s.engine e).state = .ending) → s.heldPort e = none →
         exec (.abortRun tag plan) s = .next (stopped s))
       ∧ ((s.engine e).state = .awaitPort → s.heldPort e = none →
         exec (.abortRun tag plan) s = .next (stopped { s with ports := s.ports.map fun q =>
           { q with waiters := q.waiters.filter fun w => w.who != .engine e } }))
       ∧ (∀ x, (s.engine e).state = .stalled x → s.heldPort e = none →
         exec (.abortRun tag plan) s = .next (stopped (s.leaveStall e)))
       ∧ (∀ n q, (s.engine e).state = .spacing n → s.heldPort e = some q → (s.port q).state = .up →
           (s.port q).waiters = [] → (s.port q).commitPending = false →
         exec (.abortRun tag plan) s = .next (stopped (s.setPort q { s.port q with holder := none }))))
  ∧ (∀ (s : State) (q : Fin 8) (e : Fin 4) (word : Word) (t : Transaction) (r : Run) (cause : AbortCause),
       s.inReset = false → (s.port q).state = .up → (s.port q).txn = some t → t.requester = some (.engine e) →
       (s.engine e).run = some r → r.abortCause = some cause → s.heldPort e = some q → (s.port q).waiters = [] →
       (s.port q).commitPending = false → (s.plan r.plan).held = false → s.runQueue = [] → s.clear = none →
       word.msb = true → judge word ≠ .silent →
       exec (.probeResponse q word false) s = .next ((s.engine e).abortTags.foldl
         (fun (u : State) tag => u.placeReply tag 0x38#8 [0x00#8])
         ((((s.setPort q { s.port q with txn := none, tally := 0, holder := none }).post .runAborted (byte r.plan)
             (BitVec.ofNat 32 r.remaining)
             ((match cause with | .host => 0x01#8 | .disarm => 0x02#8 | .clear => 0x03#8) ++ byte r.stepIndex)).setPlan
           r.plan { s.plan r.plan with runStatus := .idle, held := false }).setEngine e ⟨.idle, none, []⟩)))
  ∧ (∀ (s : State) (p : Fin 32),
       (∀ e, s.engineOf p = some e → ∃ r, (s.engine e).run = some r ∧ r.plan = p)
       ∧ (s.engineOf p = none → ∀ e r, (s.engine e).run = some r → r.plan ≠ p))

/-- FIRE at an ARMED plan: with no run and no engine IDLE a run is queued; with an engine IDLE the lowest-numbered one
takes it at once, and RUN_BEGIN is committed with source HOST before step 0, here a WAIT, or stalls (R12, R41, R60,
R67, R78, R84); with a run the trigger is held or missed by the overlap policy, the first miss posting TRIGGER_MISSED;
a plan not ARMED is answered BAD_STATE (R37 to R40). -/
def Obligations.FireQueuesHoldsOrMisses : Prop :=
  (∀ (s : State) (tag plan : Byte) (p : Fin 32), s.Accepts tag → plan.toNat = p →
     ((s.plan p).state ≠ .armed → exec (.fire tag plan) s = .next (s.answered tag 0x27#8 [0x11#8, 0x00#8]))
     ∧ ((s.plan p).state = .armed → (s.plan p).runStatus = .idle → s.AllBusy →
       exec (.fire tag plan) s =
         .next (({ s with
             runQueue := insertRequest ⟨p, (s.plan p).attrs.priority, .host, s.timeBase, s.timeBase⟩ s.runQueue
           }.setPlan p
           { s.plan p with runStatus := .queued, missCount := 0 }).answered tag 0x27#8 [0x00#8, 0x00#8]))
     ∧ ((s.plan p).state = .armed → (s.plan p).runStatus ≠ .idle → (s.plan p).attrs.overlap = .hold →
         (s.plan p).held = false →
       exec (.fire tag plan) s =
         .next ((s.setPlan p { s.plan p with held := true }).answered tag 0x27#8 [0x00#8, 0x01#8]))
     ∧ ((s.plan p).state = .armed → (s.plan p).runStatus ≠ .idle →
         ((s.plan p).attrs.overlap = .miss ∨ (s.plan p).held = true) → (s.plan p).missCount < 65535 →
       exec (.fire tag plan) s =
         .next ((let t := s.setPlan p { s.plan p with missCount := (s.plan p).missCount + 1 }
           if (s.plan p).missCount = 0 then t.post .triggerMissed (byte p) 0x80#32 0#16 else t).answered
             tag 0x27#8 [0x00#8, 0x02#8])))
  ∧ (∀ (s : State) (tag plan : Byte) (p : Fin 32) (e : Fin 4) (d : Nat), s.Accepts tag → plan.toNat = p →
       (s.plan p).state = .armed → (s.plan p).runStatus = .idle → s.runQueue = [] → (s.engine e).state = .idle →
       (∀ f < e, (s.engine f).state ≠ .idle) → (s.plan p).steps[0]? = some (.wait d) →
       let pl := s.plan p
       let begun := (s.setPlan p { pl with
           runStatus := .running, runNumber := pl.runNumber + 1, missCount := 0 }).commit pl.attrs.ring e
         ⟨p, 0, s.timeBase, .runBegin (pl.runNumber + 1) .host s.timeBase⟩ false
       let run : Run := ⟨p, pl.attrs.priority, pl.runNumber + 1, .host, s.timeBase, 0, 0, 0, 0, false, none, []⟩
       (begun.2 ≠ .stalled →
         exec (.fire tag plan) s = .next ((begun.1.setEngine e { s.engine e with
           state := .waiting d, run := some run }).answered tag 0x27#8 [0x00#8, 0x00#8]))
       ∧ (begun.2 = .stalled →
         exec (.fire tag plan) s = .next ((begun.1.setEngine e { s.engine e with
           state := .stalled .runBegin, run := some run }).answered tag 0x27#8 [0x00#8, 0x00#8])))

/-- A request joins the Run Queue behind every request of higher priority and every older one of its own, ahead of all
others (R59). A request joins a wait list behind every entry that ranks above or equals it, ahead of every entry below
(R128). -/
def Obligations.QueuesAreJoinedInOrder : Prop :=
  (∀ (q : RunRequest) (qs : List RunRequest),
     qs.Pairwise (fun a b => b.priority < a.priority ∨ (a.priority = b.priority ∧ a.queueTime ≤ b.queueTime)) →
     insertRequest q qs =
       qs.filter (fun x => decide (q.priority < x.priority ∨ (x.priority = q.priority ∧ x.queueTime ≤ q.queueTime)))
         ++ q ::
       qs.filter (fun x => decide (¬ (q.priority < x.priority ∨ (x.priority = q.priority ∧ x.queueTime ≤ q.queueTime)))))
  ∧ (∀ (w : Waiter) (ws : List Waiter), ws.Pairwise (fun a b => b.rank ≤ a.rank) →
       joinWaiters w ws = ws.filter (fun x => decide (w.rank ≤ x.rank)) ++ w :: ws.filter fun x => decide (x.rank < w.rank))

/-- A firing reaches every plan bound to its source: with no engine IDLE, each such ARMED plan without a run has a
request queued with the source and the time of the firing, one with a run holds or misses the trigger by its overlap
policy, and a plan bound elsewhere, or not ARMED, is not changed (R37, R38, R39, R53, R56, R57, R58, R113). DONE of a
plan fires at the normal end of its run, with the end time, and reaches the plans bound to it likewise (R42, R57, R85,
R88), here while the ended run's engine goes on to the head of the Run Queue (R60, R84). -/
def Obligations.FiringReachesEveryBoundPlan : Prop :=
  (∀ (s : State) (c : Instr) (source : Source), s.inReset = false → s.AllBusy →
     (∃ n rising, c = .trgEdge n rising ∧ (s.input n).accepts rising = true ∧ source = .ext n)
       ∨ (∃ n, c = .cadenceExpiry n ∧ (s.cadence n).countdown.isSome = true ∧ source = .cadence n)
       ∨ (∃ p, c = .attentionEdge p true ∧ (s.port p).heedsAttention = true ∧ source = .attn p) →
     ∃ t, exec c s = .next t ∧ ∀ p : Fin 32,
       ((s.plan p).attrs.binding.source ≠ some source → t.plan p = s.plan p)
       ∧ ((s.plan p).state ≠ .armed → t.plan p = s.plan p)
       ∧ ((s.plan p).attrs.binding.source = some source → (s.plan p).state = .armed → (s.plan p).runStatus ≠ .idle →
           t.plan p = if (s.plan p).attrs.overlap = .hold ∧ (s.plan p).held = false then { s.plan p with held := true }
             else { s.plan p with missCount := min ((s.plan p).missCount + 1) 65535 })
       ∧ ((s.plan p).attrs.binding.source = some source → (s.plan p).state = .armed → (s.plan p).runStatus = .idle →
           t.plan p = { s.plan p with runStatus := .queued, missCount := 0 }
           ∧ (⟨p, (s.plan p).attrs.priority, source, s.timeBase, s.timeBase⟩ : RunRequest) ∈ t.runQueue))
  ∧ (∀ (s : State) (e : Fin 4) (run : Run) (st : PlanStep) (n d : Nat) (x : RunRequest), s.inReset = false →
       (s.engine e).state = .waiting n → s.Executes e run st → (s.plan run.plan).steps.length = run.stepIndex + 1 →
       (s.commit (s.plan run.plan).attrs.ring e
         ⟨run.plan, run.stepIndex, s.timeBase, .runEnd none 0 (s.plan run.plan).missCount run.samplesWritten⟩
         (s.plan run.plan).attrs.sealOnEnd).2 ≠ .stalled →
       (s.plan run.plan).held = false → (∀ f : Fin 4, f ≠ e → (s.engine f).state ≠ .idle) → s.clear = none →
       s.runQueue = [x] → x.plan ≠ run.plan → (s.plan x.plan).runStatus = .queued → x.queueTime ≤ s.timeBase →
       (s.plan x.plan).steps[0]? = some (.wait d) →
       (∀ p : Fin 32, (s.plan p).attrs.binding.source = some (.done run.plan) →
         (s.plan p).attrs.priority ≤ x.priority) →
       ∃ t, exec (.waitExpiry e) s = .next t ∧ ∀ p : Fin 32, p ≠ run.plan → p ≠ x.plan →
         ((s.plan p).attrs.binding.source ≠ some (.done run.plan) → t.plan p = s.plan p)
         ∧ ((s.plan p).state ≠ .armed → t.plan p = s.plan p)
         ∧ ((s.plan p).attrs.binding.source = some (.done run.plan) → (s.plan p).state = .armed →
             (s.plan p).runStatus = .idle →
             t.plan p = { s.plan p with runStatus := .queued, missCount := 0 }
             ∧ (⟨p, (s.plan p).attrs.priority, .done run.plan, s.timeBase, s.timeBase⟩ : RunRequest) ∈ t.runQueue))
  ∧ ((∀ b : Binding, b.source = match b with
        | .unbound => none | .ext n => some (.ext n) | .cadence n => some (.cadence n) | .attn n => some (.attn n)
        | .done p => some (.done p))
     ∧ (∀ (x : TrigInput) (rising : Bool), x.accepts rising = true ↔
          x.enabled = true ∧ x.timer = none ∧ x.edge = if rising then .rising else .falling)
     ∧ (∀ q : Port, q.heedsAttention = true ↔ q.state = .up ∧ ∃ d, q.identity = some d ∧ d.atn = true))

/-- SET-TIME loads the time base and answers the value it held just before, and the time base goes on counting from it
(R47, R49). READ-TIME answers the time base and changes nothing (R50). That a step without a command counts one
microsecond is the model's choice (notes/assumptions/2). -/
def Obligations.TimeBaseIsSetAndRead : Prop :=
  (∀ (s : State) (tag : Byte) (time : Time), s.Accepts tag →
     exec (.setTime tag time) s =
       .next ({ s with timeBase := time }.answered tag 0x30#8 (0x00#8 :: bytesBE 6 s.timeBase.toNat))
     ∧ ∀ t u : State, exec (.setTime tag time) s = .next t → t.pending = [] → step t = .next u →
         u.timeBase = time + 1)
  ∧ (∀ (s : State) (tag : Byte), s.Accepts tag →
       exec (.readTime tag) s = .next (s.answered tag 0x31#8 (0x00#8 :: bytesBE 6 s.timeBase.toNat)))

/-- SET-TRIGGER-INPUT stores its settings and makes the holdoff timer ELAPSED; HOLDOFF_EXPIRY makes it ELAPSED and
fires nothing (R52, R54). An edge on TRGn is accepted only in the chosen polarity, on an enabled input, with the
holdoff timer ELAPSED; it then starts the holdoff, and the firing is lost where no plan is bound to it (R53, R58). -/
def Obligations.TriggerInputsBySettingAndEdge : Prop :=
  (∀ (s : State) (tag input enabled edge : Byte) (holdoff : Half) (n : Fin 4),
     (s.Accepts tag → input.toNat = n → enabled.toNat ≤ 1 → edge.toNat ≤ 1 →
       exec (.setTriggerInput tag input enabled edge holdoff) s =
         .next ((s.setInput n { enabled := enabled != 0x00#8, edge := if edge = 0x00#8 then .rising else .falling
                                holdoff := holdoff.toNat, timer := none }).answered tag 0x32#8 [0x00#8]))
     ∧ (s.Accepts tag → 4 ≤ input.toNat ∨ 1 < enabled.toNat ∨ 1 < edge.toNat →
       exec (.setTriggerInput tag input enabled edge holdoff) s = .next (s.answered tag 0x32#8 [0x10#8, 0x00#8]))
     ∧ (s.inReset = false →
       exec (.holdoffExpiry n) s = .next (s.setInput n { s.input n with timer := none })))
  ∧ (∀ (s : State) (n : Fin 4) (rising : Bool), s.inReset = false →
       ((s.input n).enabled = true → (s.input n).timer = none →
           (s.input n).edge = (if rising then .rising else .falling) → s.Unbound (.ext n) →
         exec (.trgEdge n rising) s = .next (s.setInput n { s.input n with
           timer := if (s.input n).holdoff = 0 then none else some (s.input n).holdoff }))
       ∧ ((s.input n).enabled = false ∨ (s.input n).timer.isSome = true
           ∨ (s.input n).edge ≠ (if rising then .rising else .falling) →
         exec (.trgEdge n rising) s = .next s))

/-- SET-CADENCE enables with the full period or disables keeping the stored period, and an expiry reloads (R55, R56).
-/
def Obligations.CadenceStartsStopsAndReloads : Prop :=
  ∀ (s : State) (tag generator enable : Byte) (period : Value) (n : Fin 4),
    (s.Accepts tag → generator.toNat = n →
      exec (.setCadence tag generator 0x00#8 period) s =
        .next ((s.setCadence n { s.cadence n with enabled := false, countdown := none }).answered tag 0x33#8 [0x00#8]))
    ∧ (s.Accepts tag → generator.toNat = n → 10 ≤ period.toNat →
      exec (.setCadence tag generator 0x01#8 period) s =
        .next ((s.setCadence n ⟨true, period.toNat, some period.toNat⟩).answered tag 0x33#8 [0x00#8]))
    ∧ (s.Accepts tag → generator.toNat = n → period.toNat < 10 →
      exec (.setCadence tag generator 0x01#8 period) s = .next (s.answered tag 0x33#8 [0x10#8, 0x00#8]))
    ∧ (s.Accepts tag → 4 ≤ generator.toNat ∨ 1 < enable.toNat →
      exec (.setCadence tag generator enable period) s = .next (s.answered tag 0x33#8 [0x10#8, 0x00#8]))
    ∧ (s.inReset = false → (s.cadence n).countdown.isSome = true → s.Unbound (.cadence n) →
      exec (.cadenceExpiry n) s =
        .next (s.setCadence n { s.cadence n with countdown := some (s.cadence n).period }))

/-- RUN_TAKE: the lowest-numbered IDLE engine takes the head of the Run Queue, places the RUN_BEGIN record, and begins
step 0, here a WAIT (R41, R60, R67, R68, R84, R9). -/
def Obligations.TakenRunBeginsWithItsRecord : Prop :=
  ∀ (s : State) (q : RunRequest) (rest : List RunRequest) (e : Fin 4) (r : Ring) (i d : Nat), s.inReset = false →
    s.runQueue = q :: rest → (∀ f n, (s.engine f).state ≠ .starting n) → (s.engine e).state = .idle →
    (∀ f < e, (s.engine f).state ≠ .idle) → s.HasRoom (s.plan q.plan).attrs.ring r i 6 →
    (s.plan q.plan).steps[0]? = some (.wait d) →
    exec .runTake s = .next
      ((({ s with runQueue := rest }.setPlan q.plan { s.plan q.plan with
            runStatus := .running, runNumber := (s.plan q.plan).runNumber + 1 }).appendRecord
          (s.plan q.plan).attrs.ring r i
          ⟨q.plan, 0, s.timeBase, .runBegin ((s.plan q.plan).runNumber + 1) q.source q.trigTime⟩).setEngine e
        { s.engine e with
          state := .waiting d
          run := some ⟨q.plan, q.priority, (s.plan q.plan).runNumber + 1, q.source, q.trigTime, 0, 0, 0, 0, false, none,
            []⟩ })

/-- The expiry of a WAIT step goes on to the next step, here a WAIT again (R68, R84). Where the next step is a port
step, the engine asks for the grant: at a free UP port it is granted and the first transfer starts, behind a holder or
through a retrain the engine waits at its place (R69, R70, R71, R127). Where it is a STAMP step, its record is
committed and, unless that stalls, the step after it begins; where it is a NOTIFY step, NOTIFY is posted and the step
after it begins (R82, R83). The end of a retry spacing starts the same transfer again (R71, R74). That the run's
remaining and retry counts are set to 0 at each change of step is the model's choice (notes/assumptions/24). -/
def Obligations.EngineTimersGoOnWithTheStep : Prop :=
  (∀ (s : State) (e : Fin 4) (r : Run) (st : PlanStep) (n d : Nat), s.inReset = false →
     (s.engine e).state = .waiting n → s.Executes e r st →
     (s.plan r.plan).steps[r.stepIndex + 1]? = some (.wait d) →
     exec (.waitExpiry e) s = .next (s.setEngine e { s.engine e with
       state := .waiting d
       run := some { r with stepIndex := r.stepIndex + 1, remaining := 0, retry := 0 } }))
  ∧ (∀ (s : State) (e : Fin 4) (r : Run) (now : PlanStep) (st : PortStep) (n : Nat) (d : Identity), s.inReset = false →
       (s.engine e).state = .waiting n → s.Executes e r now →
       (s.plan r.plan).steps[r.stepIndex + 1]? = some (.port st) → (s.port st.port).identity = some d →
       (st.sub : Nat) < d.subCount →
       let q := s.port st.port
       let run := { r with stepIndex := r.stepIndex + 1, remaining := st.count, retry := 0, builder := [] }
       (q.state = .up → q.holder = none →
         exec (.waitExpiry e) s = .next ((s.setPort st.port { q with
           holder := some (.engine e)
           txn := some (⟨some (.engine e),
             (match st.fn with | .read => TxFn.read | .write _ => TxFn.write | .control => TxFn.control), st.sub,
             (match st.fn with | .write v => v | _ => 0#24), q.active.timeout * 10, q.active.rate.wordTime,
             q.active.timeout * 10⟩ : Transaction) }).setEngine e { s.engine e with
           state := .transact, run := some run }))
       ∧ ((q.state = .up ∧ q.holder.isSome = true) ∨ q.state = .retraining →
         exec (.waitExpiry e) s = .next ((s.setPort st.port { q with
           waiters := joinWaiters ⟨.engine e, r.priority⟩ q.waiters }).setEngine e { s.engine e with
           state := .awaitPort, run := some run })))
  ∧ (∀ (s : State) (e : Fin 4) (r : Run) (st : PortStep) (n : Nat), s.inReset = false →
       (s.engine e).state = .spacing n → s.Executes e r (.port st) →
       exec (.spacingExpiry e) s = .next ((s.setPort st.port { s.port st.port with
         txn := some ⟨some (.engine e),
           match st.fn with | .read => .read | .write _ => .write | .control => .control, st.sub,
           match st.fn with | .read => 0#24 | .write v => v | .control => 0#24,
           (s.port st.port).active.timeout * 10, (s.port st.port).active.rate.wordTime,
           (s.port st.port).active.timeout * 10⟩ }).setEngine e { s.engine e with state := .transact }))
  ∧ (∀ (s : State) (e : Fin 4) (r : Run) (now : PlanStep) (n d : Nat), s.inReset = false →
       (s.engine e).state = .waiting n → s.Executes e r now →
       (s.plan r.plan).steps[r.stepIndex + 2]? = some (.wait d) →
       let on (steps : Nat) : Run := { r with stepIndex := r.stepIndex + steps, remaining := 0, retry := 0 }
       let stamped := s.commit (s.plan r.plan).attrs.ring e ⟨r.plan, r.stepIndex + 1, s.timeBase, .stamp⟩ false
       ((s.plan r.plan).steps[r.stepIndex + 1]? = some .stamp → stamped.2 ≠ .stalled →
         exec (.waitExpiry e) s =
           .next (stamped.1.setEngine e { s.engine e with state := .waiting d, run := some (on 2) }))
       ∧ ((s.plan r.plan).steps[r.stepIndex + 1]? = some .stamp → stamped.2 = .stalled →
         exec (.waitExpiry e) s =
           .next (stamped.1.setEngine e { s.engine e with state := .stalled .stamp, run := some (on 1) }))
       ∧ (∀ code, (s.plan r.plan).steps[r.stepIndex + 1]? = some (.notify code) →
         exec (.waitExpiry e) s =
           .next ((s.post .notify (byte r.plan) 0#32 (0x00#8 ++ code)).setEngine e { s.engine e with
             state := .waiting d, run := some (on 2) })))

/-- The last step's end ends the run: RUN_END is placed, RUN_DONE posted, the plan has no run, and the engine is IDLE,
where nothing else waits for it (R42, R60, R85, R88). With seal-on-end the RUN_END is committed with the seal-on-end
indication (R19, R85); a RUN_END that stalls leaves the engine STALLED with its run (R12, R78). A held trigger of an
ARMED plan is queued as a HELD run with the run's end time, here taken at once by the engine that becomes IDLE (R38,
R41, R42, R60, R67, R84). That the run's remaining and retry counts are set to 0 at the end of a step is the model's
choice (notes/assumptions/24). -/
def Obligations.LastStepEndsTheRun : Prop :=
  (∀ (s : State) (e : Fin 4) (run : Run) (st : PlanStep) (n : Nat) (r : Ring) (i : Nat), s.inReset = false →
    (s.engine e).state = .waiting n → s.Executes e run st →
    (s.plan run.plan).steps.length = run.stepIndex + 1 → (s.plan run.plan).attrs.sealOnEnd = false →
    s.HasRoom (s.plan run.plan).attrs.ring r i 6 → (s.plan run.plan).held = false → s.Unbound (.done run.plan) →
    s.runQueue = [] → (s.engine e).abortTags = [] → s.clear = none →
    exec (.waitExpiry e) s = .next
      ((((s.appendRecord (s.plan run.plan).attrs.ring r i
            ⟨run.plan, run.stepIndex, s.timeBase,
              .runEnd none 0 (s.plan run.plan).missCount run.samplesWritten⟩).post
          .runDone (byte run.plan) (BitVec.ofNat 32 run.samplesWritten) run.runNumber).setPlan run.plan
        { s.plan run.plan with runStatus := .idle, held := false }).setEngine e ⟨.idle, none, []⟩))
  ∧ (∀ (s : State) (e : Fin 4) (run : Run) (st : PlanStep) (n : Nat), s.inReset = false →
       (s.engine e).state = .waiting n → s.Executes e run st →
       (s.plan run.plan).steps.length = run.stepIndex + 1 →
       let committed := s.commit (s.plan run.plan).attrs.ring e
         ⟨run.plan, run.stepIndex, s.timeBase, .runEnd none 0 (s.plan run.plan).missCount run.samplesWritten⟩
         (s.plan run.plan).attrs.sealOnEnd
       (committed.2 ≠ .stalled → (s.plan run.plan).held = false → s.Unbound (.done run.plan) → s.runQueue = [] →
           (s.engine e).abortTags = [] → s.clear = none →
         exec (.waitExpiry e) s = .next
           (((committed.1.post .runDone (byte run.plan) (BitVec.ofNat 32 run.samplesWritten) run.runNumber).setPlan
             run.plan { s.plan run.plan with runStatus := .idle, held := false }).setEngine e ⟨.idle, none, []⟩))
       ∧ (committed.2 = .stalled →
         exec (.waitExpiry e) s = .next (committed.1.setEngine e { s.engine e with
           state := .stalled (.runEnd none), run := some { run with remaining := 0, retry := 0 } })))
  ∧ (∀ (s : State) (e : Fin 4) (run : Run) (st : PlanStep) (n d : Nat), s.inReset = false →
       (s.engine e).state = .waiting n → s.Executes e run st →
       (s.plan run.plan).steps.length = run.stepIndex + 1 → (s.plan run.plan).state = .armed →
       (s.plan run.plan).held = true → s.Unbound (.done run.plan) → s.runQueue = [] → s.clear = none →
       (s.engine e).abortTags = [] → (∀ f : Fin 4, f ≠ e → (s.engine f).state ≠ .idle) →
       (s.plan run.plan).steps[0]? = some (.wait d) →
       let pl := s.plan run.plan
       let ended := s.commit pl.attrs.ring e
         ⟨run.plan, run.stepIndex, s.timeBase, .runEnd none 0 pl.missCount run.samplesWritten⟩ pl.attrs.sealOnEnd
       let begun := ((ended.1.post .runDone (byte run.plan) (BitVec.ofNat 32 run.samplesWritten) run.runNumber).setPlan
           run.plan { pl with runStatus := .running, held := false, missCount := 0, runNumber := pl.runNumber + 1 }).commit
         pl.attrs.ring e ⟨run.plan, 0, s.timeBase, .runBegin (pl.runNumber + 1) .held s.timeBase⟩ false
       ended.2 ≠ .stalled → begun.2 ≠ .stalled →
       exec (.waitExpiry e) s = .next (begun.1.setEngine e ⟨.waiting d,
         some ⟨run.plan, pl.attrs.priority, pl.runNumber + 1, .held, s.timeBase, 0, 0, 0, 0, false, none, []⟩, []⟩))

/-- The expiry of a stall timer fails the run with RING_STALL: its record leaves the stall list, a grant it holds is
released, RUN_FAILED is posted, no RUN_END is written, and the engine becomes IDLE, where nothing else waits for it
(R15, R42, R87, R88, R129). The remaining count of a RUN_BEGIN, a STAMP or a RUN_END that stalled is 0 by the model's
own choice of when it is set (notes/assumptions/24). -/
def Obligations.StallExpiryFailsTheRun : Prop :=
  (∀ (s : State) (e : Fin 4) (run : Run) (x : Resume), s.inReset = false → (s.engine e).state = .stalled x →
     (s.engine e).run = some run → (s.plan run.plan).held = false → s.runQueue = [] →
     (s.engine e).abortTags = [] → s.clear = none →
     let failed (u : State) : State :=
       ((u.post .runFailed (byte run.plan) (BitVec.ofNat 32 run.remaining) (0x06#8 ++ byte run.stepIndex)).setPlan run.plan
         { s.plan run.plan with runStatus := .idle, held := false }).setEngine e ⟨.idle, none, []⟩
     (s.heldPort e = none → exec (.stallTimerExpiry e) s = .next (failed (s.leaveStall e)))
     ∧ (∀ q, s.heldPort e = some q → (s.port q).state = .up → (s.port q).waiters = [] → (s.port q).commitPending = false →
       exec (.stallTimerExpiry e) s =
         .next (failed ((s.leaveStall e).setPort q { s.port q with holder := none }))))
  ∧ (∀ (s : State) (e : Fin 4),
       s.leaveStall e = { s with rings := s.rings.map fun (o : Option Ring) => o.map fun (r : Ring) => { r with
         stallList := r.stallList.filter fun x => x.engine != e } }
       ∧ (s.heldPort e = none ↔ ∀ q : Fin 8, (s.port q).holder ≠ some (.engine e))
       ∧ (∀ q, s.heldPort e = some q → (s.port q).holder = some (.engine e)))

/-- CLEAR-ACQUISITION with no run anywhere and no open stream: every ARMED plan is READY, every segment of every ring
FREE, and the counts of its reply are 0; a second one in progress is answered BAD_STATE (R24, R45, R93). An open stream
is aborted first, its ABORTED reply before the OK (R163, R93). A run that can stop at once is stopped with cause CLEAR
and counted (R90, R91, R93). With runs in TRANSACT the queued requests are removed with their notices, head first, every
run has its abort cause, and the rings and the reply wait (R43, R45, R63, R90, R93). The acquisition clear, once every
engine is IDLE, empties the rings and places the reply with the counts taken at admission (R24, R93). The remaining count
reported outside a port step is 0 by the model's own choice of when it is set (notes/assumptions/24). -/
def Obligations.ClearAcquisitionEmptiesTheRings : Prop :=
  (∀ (s : State) (tag : Byte), s.Accepts tag →
     (s.clear.isSome = true →
       exec (.clearAcquisition tag) s = .next (s.answered tag 0x39#8 [0x11#8, 0x00#8]))
     ∧ (s.clear = none → s.runQueue = [] → (∀ e : Fin 4, (s.engine e).state = .idle ∧ (s.engine e).run = none) →
         s.streams = [] →
       exec (.clearAcquisition tag) s = .next ({ s with
         plans := s.plans.map fun (pl : Plan) =>
           if pl.state = PlanState.armed then { pl with state := .ready, held := false } else pl
         rings := s.rings.map fun (o : Option Ring) => o.map fun (r : Ring) => { r with
           segments := r.segments.map fun _ => (⟨.free, 0#32, 0, 0, 0#48, 0#48, false, none⟩ : Segment)
           discardCount := 0, gapPending := false, fillPos := none }
         clear := some ⟨tag, 0, 0, true⟩ }.answered tag 0x39#8 [0x00#8, 0x00#8, 0x00#8])))
  ∧ (∀ (s : State) (tag : Byte), s.Accepts tag → s.clear = none →
       let ready (pl : Plan) : Plan := if pl.state = .armed then { pl with state := .ready, held := false } else pl
       (∀ st, s.runQueue = [] → (∀ e : Fin 4, (s.engine e).state = .idle ∧ (s.engine e).run = none) →
           s.streams = [st] →
         exec (.clearAcquisition tag) s = .next (({ s with
           plans := s.plans.map ready
           rings := s.rings.map fun (o : Option Ring) => o.map Ring.cleared
           streams := []
           link := { s.link with lastServed := if s.link.lastServed = some st.tag then none else s.link.lastServed }
           clear := some ⟨tag, 0, 0, true⟩ }.placeReply st.tag 0x50#8
             ([0x1A#8, 0x00#8] ++ bytesBE 4 st.seqNo.toNat ++ bytesBE 2 st.nextChunk)).answered tag 0x39#8
               [0x00#8, 0x00#8, 0x00#8]))
       ∧ (∀ (e : Fin 4) (r : Run) (n : Nat), s.runQueue = [] → s.streams = [] → (s.engine e).state = .waiting n →
           (s.engine e).run = some r → r.abortCause = none → (s.engine e).abortTags = [] → s.heldPort e = none →
           (∀ f : Fin 4, f ≠ e → (s.engine f).state = .idle ∧ (s.engine f).run = none) →
         exec (.clearAcquisition tag) s = .next ({ s with
           plans := (s.plans.map ready).set r.plan { ready (s.plan r.plan) with runStatus := .idle, held := false }
           engines := s.engines.set e ⟨.idle, none, []⟩
           notices := s.notices.post .runAborted (byte r.plan) s.timeBase (BitVec.ofNat 32 r.remaining)
             (0x03#8 ++ byte r.stepIndex)
           rings := s.rings.map fun (o : Option Ring) => o.map Ring.cleared
           clear := some ⟨tag, 0, 1, true⟩ }.answered tag 0x39#8 [0x00#8, 0x00#8, 0x01#8]))
       ∧ ((∀ e : Fin 4, ((s.engine e).state = .idle ∧ (s.engine e).run = none)
             ∨ ((s.engine e).state = .transact ∧ ∃ r, (s.engine e).run = some r ∧ r.abortCause = none)) →
           (∃ e : Fin 4, (s.engine e).state = .transact) →
         ∃ t, exec (.clearAcquisition tag) s = .next t
           ∧ t.runQueue = [] ∧ t.rings = s.rings ∧ t.streams = s.streams ∧ t.link = (s.kept tag 0x39#8).link
           ∧ t.clear = some ⟨tag, s.runQueue.length, (List.finRange 4).countP fun e => (s.engine e).run.isSome, false⟩
           ∧ t.engines = s.engines.map (fun (x : Engine) => { x with
               run := x.run.map fun (r : Run) => { r with abortCause := some .clear } })
           ∧ t.notices = s.runQueue.foldl
               (fun (q : NoticeQueue) x => q.post .runAborted (byte x.plan) s.timeBase 0#32 0x03FF#16) s.notices
           ∧ (∀ p : Fin 32, (t.plan p).state = (ready (s.plan p)).state
               ∧ ((s.plan p).state = .armed → (t.plan p).held = false)
               ∧ ((∃ q ∈ s.runQueue, q.plan = p) → (t.plan p).runStatus = .idle)
               ∧ ((∀ q ∈ s.runQueue, q.plan ≠ p) → (t.plan p).runStatus = (s.plan p).runStatus)
               ∧ (t.plan p).attrs = (s.plan p).attrs ∧ (t.plan p).steps = (s.plan p).steps
               ∧ (t.plan p).runNumber = (s.plan p).runNumber ∧ (t.plan p).missCount = (s.plan p).missCount)))
  ∧ (∀ (s : State) (c : Clear), s.inReset = false → s.clear = some c → c.placed = false → s.streams = [] →
       ((∃ e : Fin 4, (s.engine e).state ≠ .idle) → exec .acquisitionClear s = .next s)
       ∧ ((∀ e : Fin 4, (s.engine e).state = .idle) →
         exec .acquisitionClear s = .next ({ s with
           rings := s.rings.map fun (o : Option Ring) => o.map Ring.cleared
           clear := some { c with placed := true } }.placeReply c.tag 0x39#8 [0x00#8, byte c.removed, byte c.aborted])))

/-! ## Probe ports -/

/-- PORT-POWER ON by the port's state: OFF enters POWERING with the supply on and 20 ms to settle, the states on the
way up are left as they are, the states on the way down answer BAD_STATE (R97, R99, Table 5-4); with PnOC asserted the
port enters FAULT as soon as its supply is on (R99, R109). PORT-POWER OFF by the port's state (R98, R105, R110, R114,
Table 5-4): a port without a transaction to wait for is STOPPING at once, its holder and every waiter gone from it; a
waiting host access gets its reply PORT_DOWN, an engine that waits, or holds the grant in SPACING, the fault PORT_DOWN
of its step, here a tolerated one with a WAIT after it, and a STALLED holder only port lost (R69, R75, R79, R80, R98,
R105, R131). That the replies of the waiters stand before PORT-POWER's own is the model's choice
(notes/assumptions/11). That the quiet period ends with the clock is the model's reading (notes/assumptions/13), and
that PnOC is a level kept in State too (notes/assumptions/10). What a faulted engine goes on to before the next is
answered, and the reset of its run's counts, are its choices (notes/assumptions/28 and 24). -/
def Obligations.PortPowerByState : Prop :=
  (∀ (s : State) (tag port : Byte) (p : Fin 8), s.Accepts tag → port.toNat = p →
     ((s.port p).state = .off → (s.port p).ocLine = false →
       exec (.portPowerOn tag port) s = .next ((s.setPort p { s.port p with
         state := .powering, supply := true, phase := some 20000, tally := 0 }).answered tag 0x40#8 [0x00#8, 0x01#8]))
     ∧ ((s.port p).state = .powering ∨ (s.port p).state = .clocking ∨ (s.port p).state = .identifying
         ∨ (s.port p).state = .up ∨ (s.port p).state = .retraining →
       exec (.portPowerOn tag port) s = .next (s.answered tag 0x40#8 [0x00#8, (s.port p).state.code]))
     ∧ ((s.port p).state = .draining ∨ (s.port p).state = .stopping ∨ (s.port p).state = .fault →
       exec (.portPowerOn tag port) s = .next (s.answered tag 0x40#8 [0x11#8, 0x00#8]))
     ∧ ((s.port p).state = .off → (s.port p).ocLine = true → (s.port p).holder = none → (s.port p).waiters = [] →
         (s.port p).commitPending = false →
       exec (.portPowerOn tag port) s = .next (((s.setPort p { s.port p with
         state := .fault, supply := false, phase := none, attempts := 0, tally := 0, faultCause := some .overcurrent
         txn := none, quiet := none, access := none }).post .portState (byte p) 0#32 0x0801#16).answered tag 0x40#8
           [0x00#8, 0x08#8])))
  ∧ (∀ (s : State) (tag port : Byte) (p : Fin 8), s.Accepts tag → port.toNat = p →
       ((s.port p).state = .off ∨ (s.port p).state = .draining ∨ (s.port p).state = .stopping →
         exec (.portPowerOff tag port) s = .next (s.answered tag 0x40#8 [0x00#8, (s.port p).state.code]))
       ∧ ((s.port p).state = .powering ∨ (s.port p).state = .clocking ∨ (s.port p).state = .identifying →
         exec (.portPowerOff tag port) s = .next ((s.setPort p { s.port p with
           state := .stopping, phase := some 1000, attempts := 0, txn := none, quiet := none }).answered tag 0x40#8
             [0x00#8, 0x07#8]))
       ∧ ((s.port p).state = .up → (s.port p).holder = none → (s.port p).waiters = [] →
         exec (.portPowerOff tag port) s = .next ((s.setPort p { s.port p with
           state := .stopping, phase := some 1000, attempts := 0, txn := none, quiet := none, access := none
           }).answered tag 0x40#8 [0x00#8, 0x07#8]))
       ∧ ((s.port p).state = .up → (s.port p).holder.isSome = true → (s.port p).txn.isSome = true →
         exec (.portPowerOff tag port) s =
           .next ((s.setPort p { s.port p with state := .draining }).answered tag 0x40#8 [0x00#8, 0x06#8]))
       ∧ ((s.port p).state = .fault →
         exec (.portPowerOff tag port) s = .next (((s.setPort p { s.port p with
           state := .off, phase := none, attempts := 0, faultCause := none, identity := none, supply := false }).post
             .portState (byte p) 0#32 0x0000#16).answered tag 0x40#8 [0x00#8, 0x00#8]))
       ∧ ((s.port p).state = .retraining ∨ ((s.port p).state = .up ∧ (s.port p).txn = none)
             ∨ ((s.port p).state = .up ∧ (s.port p).holder = none) →
         ∃ t, exec (.portPowerOff tag port) s = .next t ∧ (t.port p).state = .stopping ∧ (t.port p).phase = some 1000
           ∧ (t.port p).holder = none ∧ (t.port p).waiters = [] ∧ (t.port p).access = none
           ∧ ((∀ e, (s.port p).holder ≠ some (.engine e)) → (∀ w ∈ (s.port p).waiters, w.who = .host) →
               (t.port p).txn = none)
           ∧ t.clockRate p = none ∧ t.link.replies.getLast? = some ⟨tag, 0xC0#8, [0x00#8, 0x07#8], false⟩)
       ∧ (∀ a rank, (s.port p).state = .retraining ∨ (s.port p).state = .up → (s.port p).holder = none →
           (s.port p).waiters = [⟨.host, rank⟩] → (s.port p).access = some a →
         exec (.portPowerOff tag port) s = .next (((s.setPort p { s.port p with
           state := .stopping, phase := some 1000, attempts := 0, txn := none, quiet := none, access := none
           waiters := [] }).placeReply a.tag 0x42#8 [0x17#8, 0x00#8]).answered tag 0x40#8 [0x00#8, 0x07#8])))
  ∧ (∀ (s : State) (tag port : Byte) (p : Fin 8) (e : Fin 4) (r : Run), s.Accepts tag → port.toNat = p →
       (s.port p).commitPending = false →
       let stopped : State := s.setPort p { s.port p with
         state := .stopping, phase := some 1000, attempts := 0, txn := none, quiet := none, holder := none
         waiters := [], access := none }
       (∀ st d rank, s.Tolerates e p r st d →
           ((s.port p).state = .retraining ∨ (s.port p).state = .up) ∧ (s.port p).holder = none
               ∧ (s.port p).waiters = [⟨.engine e, rank⟩]
             ∨ (s.port p).state = .up ∧ (s.port p).holder = some (.engine e) ∧ (s.port p).txn = none
               ∧ (s.port p).waiters = [] ∧ (∃ n, (s.engine e).state = .spacing n) →
         exec (.portPowerOff tag port) s =
           .next ((stopped.pastPortDown e r d).answered tag 0x40#8 [0x00#8, 0x07#8]))
       ∧ (∀ x, (s.port p).state = .up → (s.port p).holder = some (.engine e) → (s.port p).txn = none →
           (s.port p).waiters = [] → (s.engine e).state = .stalled x → (s.engine e).run = some r →
         exec (.portPowerOff tag port) s =
           .next ((stopped.setEngine e { s.engine e with
             run := some { r with portLost := match x with | .midStep _ => true | _ => r.portLost } }).answered
               tag 0x40#8 [0x00#8, 0x07#8])))

/-- The timed phases of a bring-up, each begun as the one before ends (R99, R100, R101, R103). STOPPING: after the
clock, the supply goes off; after the discharge the port is OFF, its identity gone, and says so (R106, R114). The end
of a quiet period lets an identify attempt that had fallen due start (R125). PnCLK runs at the active profile's rate in
CLOCKING, IDENTIFYING, UP, RETRAINING and DRAINING alone (R96, Table 5-2). -/
def Obligations.PortPhasesFollowEachOther : Prop :=
  (∀ (s : State) (p : Fin 8) (n : Nat), s.inReset = false → (s.port p).phase = some n → (s.port p).quiet = none →
     let attempt : Option Transaction := some ⟨none, .identify, 0, 0#24, (s.port p).active.timeout * 10,
       (s.port p).active.rate.wordTime, (s.port p).active.timeout * 10⟩
     ((s.port p).state = .powering →
       exec (.powerSettleExpiry p) s = .next (s.setPort p { s.port p with state := .clocking, phase := some 1000 }))
     ∧ ((s.port p).state = .clocking →
       exec (.clockSettleExpiry p) s =
         .next (s.setPort p { s.port p with state := .identifying, phase := none, attempts := 1, txn := attempt }))
     ∧ ((s.port p).state = .retraining → (s.port p).attempts = 0 →
       exec (.retrainSettleExpiry p) s =
         .next (s.setPort p { s.port p with phase := none, attempts := 1, txn := attempt }))
     ∧ ((s.port p).state = .identifying ∨ (s.port p).state = .retraining → 0 < (s.port p).attempts →
       exec (.identifySpacingExpiry p) s =
         .next (s.setPort p { s.port p with phase := none, attempts := (s.port p).attempts + 1, txn := attempt })))
  ∧ (∀ (s : State) (p : Fin 8), s.inReset = false → (s.port p).state = .stopping →
       ((s.port p).supply = true →
         exec (.stopClockExpiry p) s =
           .next (s.setPort p { s.port p with supply := false, phase := some 20000 }))
       ∧ ((s.port p).supply = false →
         exec (.dischargeExpiry p) s = .next ((s.setPort p { s.port p with
           state := .off, phase := none, attempts := 0, faultCause := none, identity := none }).post
             .portState (byte p) 0#32 0x0000#16)))
  ∧ (∀ (s : State) (p : Fin 8) (n : Nat), s.inReset = false → (s.port p).quiet = some n →
       ((s.port p).state = .identifying ∨ (s.port p).state = .retraining → (s.port p).phase = none →
           (s.port p).txn = none →
         exec (.quietPeriodEnd p) s = .next (s.setPort p { s.port p with
           quiet := none, attempts := (s.port p).attempts + 1
           txn := some ⟨none, .identify, 0, 0#24, (s.port p).active.timeout * 10, (s.port p).active.rate.wordTime,
             (s.port p).active.timeout * 10⟩ }))
       ∧ ((s.port p).phase.isSome = true →
         exec (.quietPeriodEnd p) s = .next (s.setPort p { s.port p with quiet := none })))
  ∧ (∀ (s : State) (p : Fin 8), s.clockRate p =
       if s.inReset = false ∧ ((s.port p).state = .clocking ∨ (s.port p).state = .identifying ∨ (s.port p).state = .up
           ∨ (s.port p).state = .retraining ∨ (s.port p).state = .draining) then some (s.port p).active.rate else none)

/-- An IDENTIFY response of DATA brings an IDENTIFYING port UP with the identity it gives; a RETRAINING port comes UP
only under the same model code, and faults with IDENTITY_CHANGED under another (R101, R103, R108, R114, R209). A
timeout of an identify attempt: the retry spacing, or after the third attempt FAULT with NO_IDENTITY (R101, R108,
R123). -/
def Obligations.IdentifyOutcomesBringUpOrFault : Prop :=
  (∀ (s : State) (p : Fin 8) (word : Word) (t : Transaction), s.inReset = false → (s.port p).faultCause = none →
     (s.port p).holder = none → (s.port p).waiters = [] → (s.port p).commitPending = false →
     (s.port p).txn = some t → t.requester = none → word.msb = true → judge word = .data →
     let d : Identity := ⟨word.extractLsb' 17 12, (word.extractLsb' 13 4).toNat + 1, word.getLsbD 12, word.getLsbD 11⟩
     let up : State := (s.setPort p { s.port p with
       state := .up, identity := some d, attempts := 0, phase := none, txn := none }).post
         .portState (byte p) 0#32 0x0400#16
     ((s.port p).state = .identifying → exec (.probeResponse p word false) s = .next up)
     ∧ (∀ old, (s.port p).state = .retraining → (s.port p).identity = some old → old.model = d.model →
       exec (.probeResponse p word false) s = .next up)
     ∧ (∀ old, (s.port p).state = .retraining → (s.port p).identity = some old → old.model ≠ d.model →
       exec (.probeResponse p word false) s = .next ((s.setPort p { s.port p with
         state := .fault, supply := false, phase := none, attempts := 0, faultCause := some .identityChanged
         txn := none, quiet := none, access := none }).post .portState (byte p) 0#32 0x0804#16)))
  ∧ (∀ (s : State) (p : Fin 8) (t : Transaction), s.inReset = false → (s.port p).holder = none →
       (s.port p).waiters = [] → (s.port p).commitPending = false → (s.port p).txn = some t → t.requester = none →
       (s.port p).state = .identifying ∨ (s.port p).state = .retraining →
       ((s.port p).attempts < 3 →
         exec (.responseTimeout p) s = .next (s.setPort p { s.port p with
           txn := none, phase := some ((s.port p).active.spacing * 10) }))
       ∧ (3 ≤ (s.port p).attempts →
         exec (.responseTimeout p) s = .next ((s.setPort p { s.port p with
           state := .fault, supply := false, phase := none, attempts := 0, faultCause := some .noIdentity
           txn := none, quiet := none, access := none }).post .portState (byte p) 0#32 0x0802#16)))

/-- PnOC asserted while PnPWR is active faults the port at once, its holder and waiters gone: a host access gets its
reply PORT_DOWN, an engine that waits or holds the fault PORT_DOWN of its step, here a tolerated one with a WAIT after
it, a STALLED holder only port lost; otherwise, and while RESET is asserted, its level is only kept (R69, R75, R79,
R80, R108, R109, R117, R131). A rising edge on PnATN acts on an UP port whose identity has ATN: PROBE_ATTENTION where
attention notices are on, and a firing that is lost where no plan is bound to it; any other edge is ignored (R58,
R113). That the level is an operand kept in State is the model's reading (notes/assumptions/10), as is that the quiet
period ends with the clock (notes/assumptions/13). That a STEP_FAULT stands before the PORT_STATE, and the reset of the
run's counts, are its choices (notes/assumptions/28 and 24). -/
def Obligations.PortLinesActByState : Prop :=
  (∀ (s : State) (p : Fin 8),
     (s.inReset = true ∨ (s.port p).supply = false →
       exec (.overcurrent p true) s = .next (s.setPort p { s.port p with ocLine := true }))
     ∧ exec (.overcurrent p false) s = .next (s.setPort p { s.port p with ocLine := false })
     ∧ (s.inReset = false → (s.port p).supply = true → (s.port p).holder = none → (s.port p).waiters = [] →
         (s.port p).commitPending = false →
       exec (.overcurrent p true) s = .next ((s.setPort p { s.port p with
         state := .fault, supply := false, phase := none, attempts := 0, faultCause := some .overcurrent
         txn := none, quiet := none, access := none, ocLine := true }).post .portState (byte p) 0#32 0x0801#16))
     ∧ (s.inReset = false → (s.port p).supply = true →
       ∃ t, exec (.overcurrent p true) s = .next t ∧ (t.port p).state = .fault ∧ t.pwrActive p = false
         ∧ (t.port p).faultCause = some .overcurrent ∧ (t.port p).ocLine = true
         ∧ ((∀ e, (s.port p).holder ≠ some (.engine e)) → (∀ w ∈ (s.port p).waiters, w.who = .host) →
             (t.port p).txn = none)
         ∧ (t.port p).holder = none ∧ (t.port p).waiters = [] ∧ (t.port p).access = none))
  ∧ (∀ (s : State) (p : Fin 8), s.inReset = false →
       (∀ d, (s.port p).state = .up → (s.port p).identity = some d → d.atn = true → s.Unbound (.attn p) →
         exec (.attentionEdge p true) s =
           .next (if (s.port p).active.attention then s.post .probeAttention (byte p) 0#32 0#16 else s))
       ∧ ((s.port p).state ≠ .up ∨ (∀ d, (s.port p).identity = some d → d.atn = false) →
         exec (.attentionEdge p true) s = .next s)
       ∧ exec (.attentionEdge p false) s = .next s)
  ∧ (∀ (s : State) (p : Fin 8), s.inReset = false → (s.port p).supply = true → (s.port p).commitPending = false →
       let down : State := s.setPort p { s.port p with
         state := .fault, supply := false, phase := none, attempts := 0, faultCause := some .overcurrent, txn := none
         quiet := none, holder := none, waiters := [], access := none, ocLine := true }
       let noted (u : State) : State := u.post .portState (byte p) 0#32 0x0801#16
       (∀ a rank, (s.port p).access = some a →
           (s.port p).holder = some .host ∧ (s.port p).waiters = []
             ∨ (s.port p).holder = none ∧ (s.port p).waiters = [⟨.host, rank⟩] →
         exec (.overcurrent p true) s = .next (noted (down.placeReply a.tag 0x42#8 [0x17#8, 0x00#8])))
       ∧ (∀ e r st d rank, s.Tolerates e p r st d →
           (s.port p).holder = none ∧ (s.port p).waiters = [⟨.engine e, rank⟩]
             ∨ (s.port p).holder = some (.engine e) ∧ (s.port p).waiters = []
               ∧ ((s.engine e).state = .transact ∨ ∃ n, (s.engine e).state = .spacing n) →
         exec (.overcurrent p true) s = .next (noted (down.pastPortDown e r d)))
       ∧ (∀ e r x, (s.port p).holder = some (.engine e) → (s.port p).waiters = [] →
           (s.engine e).state = .stalled x → (s.engine e).run = some r →
         exec (.overcurrent p true) s = .next (noted (down.setEngine e { s.engine e with
           run := some { r with portLost := match x with | .midStep _ => true | _ => r.portLost } }))))

/-- QUERY-PLAN reports the plan, with the engine and the step of a running run, and changes nothing (R44, R207).
QUERY-PORT reports the port and changes nothing (R115, R116, R207, R209). The codes are those of Table 10-16. -/
def Obligations.QueriesReportPlanAndPort : Prop :=
  (∀ (s : State) (tag plan : Byte) (p : Fin 32), s.Accepts tag → plan.toNat = p →
     let report : List Byte :=
       [0x00#8, (s.plan p).state.code, byte (s.plan p).attrs.priority, byte (s.plan p).attrs.ring]
         ++ (s.plan p).attrs.binding.codes ++ [(s.plan p).attrs.overlap.code, flagByte (s.plan p).attrs.sealOnEnd,
           (s.plan p).runStatus.code, flagByte (s.plan p).held]
         ++ bytesBE 2 (s.plan p).runNumber.toNat ++ bytesBE 2 (s.plan p).missCount
         ++ [byte (s.plan p).steps.length] ++ bytesBE 2 s.poolFree
     ((s.plan p).runStatus ≠ .running →
       exec (.queryPlan tag plan) s = .next (s.answered tag 0x26#8 (report ++ [0x00#8, 0x00#8, 0x00#8])))
     ∧ (∀ (e : Fin 4) (r : Run), (s.plan p).runStatus = .running → s.engineOf p = some e → (s.engine e).run = some r →
       exec (.queryPlan tag plan) s =
         .next (s.answered tag 0x26#8 (report ++ [0x01#8, byte e, byte r.stepIndex]))))
  ∧ (∀ (s : State) (tag port : Byte) (p : Fin 8), s.Accepts tag → port.toNat = p →
       exec (.queryPort tag port) s = .next (s.answered tag 0x41#8
         ([0x00#8, (s.port p).state.code, faultCode (s.port p).faultCause]
           ++ (match (s.port p).identity with
               | none => [0x00#8, 0x00#8, 0x00#8, 0x00#8, 0x00#8, 0x00#8]
               | some d => 0x01#8 :: bytesBE 2 d.model.toNat ++ [byte d.subCount, flagByte d.wide, flagByte d.atn])
           ++ [if (s.port p).active.width = .w24 ∧ ((s.port p).identity.map fun d => d.wide) = some true then 0x18#8
               else 0x10#8,
               byte (s.port p).tally, flagByte (s.port p).commitPending,
               match (s.port p).holder with | some (.engine e) => byte e | some .host => 0x04#8 | none => 0xFF#8,
               byte (s.port p).waiters.length])))
  ∧ ([PlanState.empty, .opened, .ready, .armed].map (fun x => x.code) = [0x00#8, 0x01#8, 0x02#8, 0x03#8]
     ∧ [RunStatus.idle, .queued, .running].map (fun x => x.code) = [0x00#8, 0x01#8, 0x02#8]
     ∧ [PortState.off, .powering, .clocking, .identifying, .up, .retraining, .draining, .stopping, .fault].map
         (fun x => x.code) = [0x00#8, 0x01#8, 0x02#8, 0x03#8, 0x04#8, 0x05#8, 0x06#8, 0x07#8, 0x08#8]
     ∧ [none, some FaultCause.overcurrent, some .noIdentity, some .silent, some .identityChanged].map faultCode
         = [0x00#8, 0x01#8, 0x02#8, 0x03#8, 0x04#8]
     ∧ Overlap.miss.code = 0x00#8 ∧ Overlap.hold.code = 0x01#8
     ∧ ∀ b : Binding, b.codes = match b with
         | .unbound => [0x00#8, 0x00#8] | .ext n => [0x01#8, byte n] | .cadence n => [0x02#8, byte n]
         | .attn n => [0x03#8, byte n] | .done p => [0x04#8, byte p])

/-- A response is judged by its parity, then its status (R124, R208). A response word that finds no transaction in
flight is discarded without effect (R125). The request word that PnDO carries while a transaction's word goes out has
its start bit, function, sub-address, data and even parity (R121, R208). -/
def Obligations.ResponsesAreJudgedOrDiscarded : Prop :=
  (∀ w : Word,
     (((List.range 31).countP fun i => w.getLsbD i) % 2 = 1 → judge w = .silent)
     ∧ (((List.range 31).countP fun i => w.getLsbD i) % 2 = 0 →
         judge w = match w.getLsbD 30, w.getLsbD 29 with
           | false, false => .data
           | false, true => .busy
           | true, false => .reject
           | true, true => .silent))
  ∧ (∀ (s : State) (p : Fin 8) (word : Word) (early : Bool), (s.port p).txn = none →
       exec (.probeResponse p word early) s = .next s)
  ∧ (∀ (fn : TxFn) (sub : Fin 16) (data : Value),
       let w := requestWord fn sub data
       w.msb = true ∧ w.extractLsb' 29 2 = (match fn with | .read => 0#2 | .write => 1#2 | .control => 2#2 | .identify => 3#2)
       ∧ (w.extractLsb' 25 4).toNat = sub ∧ w.extractLsb' 1 24 = data
       ∧ ((List.range 31).countP fun i => w.getLsbD i) % 2 = 0)
  ∧ (∀ (s : State) (p : Fin 8),
       ((s.port p).txn = none → s.probeWord p = none)
       ∧ ∀ t, (s.port p).txn = some t →
           s.probeWord p = if 0 < t.wordLeft then some (requestWord t.fn t.sub t.data) else none)

/-- PROBE-ACCESS by its checks in order, a port, function or sub-address out of range first, and what a request for the
grant then gets: granted at once, its transaction starts; behind a holder or through a retrain it waits at most 100 ms
(R127, R134, R135, R136). -/
def Obligations.ProbeAccessByItsChecks : Prop :=
  (∀ (s : State) (tag port function subAddress : Byte) (value : Value) (p : Fin 8) (sub : Fin 16) (fn : PortFn),
     s.Accepts tag → port.toNat = p → subAddress.toNat = sub →
     (function = 0x00#8 ∧ fn = .read) ∨ (function = 0x01#8 ∧ fn = .write value) ∨ (function = 0x02#8 ∧ fn = .control) →
     ((s.port p).state ≠ .up ∧ (s.port p).state ≠ .retraining →
       exec (.probeAccess tag port function subAddress value) s = .next (s.answered tag 0x42#8 [0x17#8, 0x00#8]))
     ∧ ((s.port p).state = .up ∨ (s.port p).state = .retraining → (s.port p).access.isSome = true →
       exec (.probeAccess tag port function subAddress value) s = .next (s.answered tag 0x42#8 [0x18#8, 0x00#8]))
     ∧ (∀ d, (s.port p).state = .up ∨ (s.port p).state = .retraining → (s.port p).access = none →
         (s.port p).identity = some d →
       (d.subCount ≤ sub →
         exec (.probeAccess tag port function subAddress value) s = .next (s.answered tag 0x42#8 [0x19#8, 0x00#8]))
       ∧ ((sub : Nat) < d.subCount → (s.port p).state = .up → (s.port p).holder = none →
         exec (.probeAccess tag port function subAddress value) s = .next ((s.setPort p { s.port p with
           holder := some .host
           access := some ⟨tag, fn, sub, none⟩
           txn := some ⟨some .host,
             match fn with | .read => .read | .write _ => .write | .control => .control, sub,
             match fn with | .write v => v | _ => 0#24,
             (s.port p).active.timeout * 10, (s.port p).active.rate.wordTime,
             (s.port p).active.timeout * 10⟩ }).kept tag 0x42#8))
       ∧ ((sub : Nat) < d.subCount → (s.port p).state = .retraining ∨ (s.port p).holder.isSome = true →
         exec (.probeAccess tag port function subAddress value) s = .next ((s.setPort p { s.port p with
           access := some ⟨tag, fn, sub, some 100000⟩
           waiters := joinWaiters ⟨.host, 4⟩ (s.port p).waiters }).kept tag 0x42#8))))
  ∧ (∀ (s : State) (tag port function subAddress : Byte) (value : Value), s.Accepts tag →
       8 ≤ port.toNat ∨ 2 < function.toNat ∨ 16 ≤ subAddress.toNat →
       exec (.probeAccess tag port function subAddress value) s = .next (s.answered tag 0x42#8 [0x10#8, 0x00#8]))

/-- The outcome of a host access: DATA, BUSY or REJECT brings the tally to 0, the reply carries the response time and
for DATA the shaped value, and the grant is released (R111, R123, R129, R136). A response timeout of a host access is
SILENT with value 0; it counts in the tally, and where the tally reaches the silence limit the port enters FAULT with
cause SILENT (R108, R111, R112, R123). The wait limit of a waiting host access ends it with PORT_BUSY and no
transaction (R132, R135). -/
def Obligations.HostAccessesAreAnswered : Prop :=
  (∀ (s : State) (p : Fin 8) (word : Word) (t : Transaction) (a : HostAccess) (o : TxnOutcome), s.inReset = false →
     (s.port p).state = .up → (s.port p).holder = some .host → (s.port p).waiters = [] →
     (s.port p).commitPending = false → (s.port p).access = some a → (s.port p).txn = some t →
     t.requester = some .host → word.msb = true → judge word = o → o ≠ .silent →
     exec (.probeResponse p word false) s = .next ((s.setPort p { s.port p with
       txn := none, tally := 0, access := none, holder := none }).placeReply a.tag 0x42#8
         (0x00#8 :: (match o with | .data => 0x00#8 | .busy => 0x01#8 | .reject => 0x02#8 | .silent => 0x03#8)
           :: bytesBE 6 s.timeBase.toNat ++
           bytesBE 3 (if o = .data then ((s.port p).shape (word.extractLsb' 5 24)).toNat else 0))))
  ∧ (∀ (s : State) (p : Fin 8) (t : Transaction) (a : HostAccess), s.inReset = false →
       (s.port p).state = .up → (s.port p).holder = some .host → (s.port p).waiters = [] →
       (s.port p).commitPending = false → (s.port p).access = some a → (s.port p).txn = some t →
       t.requester = some .host → (s.port p).tally < 255 →
       let reply : List Byte := 0x00#8 :: 0x03#8 :: bytesBE 6 s.timeBase.toNat ++ [0x00#8, 0x00#8, 0x00#8]
       ((s.port p).active.silenceLimit = 0 ∨ (s.port p).tally + 1 < (s.port p).active.silenceLimit →
         exec (.responseTimeout p) s = .next ((s.setPort p { s.port p with
           txn := none, tally := (s.port p).tally + 1, access := none, holder := none }).placeReply a.tag 0x42#8 reply))
       ∧ (0 < (s.port p).active.silenceLimit → (s.port p).active.silenceLimit ≤ (s.port p).tally + 1 →
         exec (.responseTimeout p) s = .next (((s.setPort p { s.port p with
           txn := none, tally := (s.port p).tally + 1, access := none, holder := none, state := .fault, supply := false
           phase := none, attempts := 0, quiet := none, faultCause := some .silent }).placeReply a.tag 0x42#8 reply).post
             .portState (byte p) 0#32 0x0803#16)))
  ∧ (∀ (s : State) (p : Fin 8) (a : HostAccess), s.inReset = false → (s.port p).access = some a →
       a.waitLeft.isSome = true →
       exec (.hostWaitLimitExpiry p) s = .next ((s.setPort p { s.port p with
         access := none
         waiters := (s.port p).waiters.filter fun w => w.who != .host }).placeReply a.tag 0x42#8 [0x18#8, 0x00#8]))

/-- Values are shaped to the effective word width, which is 24 only for a 24-bit profile on a probe with WIDE (R72,
R116). The outcome DATA of a READ transfer in mid-step: the sample joins the builder with its response time, and the
next transfer starts (R71, R72, R111). BUSY under the RETRY policy, below the retry limit, starts the retry spacing;
nothing is counted (R74, R111). Every counted transfer, DATA or BUSY under ACCEPT_BUSY: a READ puts its sample in the
builder, a BUSY placeholder for BUSY, a WRITE or CONTROL none; the next transfer starts; a builder of 64 samples is
committed first; and the last transfer ends the step: what is in the builder is committed, the grant released, and the
next step begins, here a WAIT (R72, R73, R76, R77, R78). Under STOP_ON_BUSY a BUSY ends the step so at once, with
nothing counted (R73, R76). A commit that stalls leaves the engine STALLED with its grant (R78). The reset of the run's
counts between steps is the model's choice (notes/assumptions/24). -/
def Obligations.TransfersMakeShapedSamplesOrRetry : Prop :=
  (∀ (p : Port) (v : Value),
     ((p.active.width = .w24 ∧ ∃ d, p.identity = some d ∧ d.wide = true) → p.shape v = v)
     ∧ (¬ (p.active.width = .w24 ∧ ∃ d, p.identity = some d ∧ d.wide = true) →
         ∀ i, (p.shape v).getLsbD i =
           if i < 16 then v.getLsbD i else (decide (i < 24) && p.active.signExtend && v.getLsbD 15)))
  ∧ (∀ (s : State) (p : Fin 8) (e : Fin 4) (word : Word) (t : Transaction) (r : Run) (st : PortStep), s.inReset = false →
       (s.port p).state = .up → (s.port p).txn = some t → t.requester = some (.engine e) →
       s.Executes e r (.port st) → st.port = p → st.fn = .read → r.abortCause = none → 2 ≤ r.remaining →
       r.builder.length < 63 → word.msb = true → judge word = .data →
       exec (.probeResponse p word false) s = .next ((s.setPort p { s.port p with
         tally := 0
         txn := some ⟨some (.engine e), .read, st.sub, 0#24, (s.port p).active.timeout * 10,
           (s.port p).active.rate.wordTime, (s.port p).active.timeout * 10⟩ }).setEngine e { s.engine e with
         state := .transact
         run := some { r with
           remaining := r.remaining - 1, retry := 0
           builder := r.builder ++ [(.data ((s.port p).shape (word.extractLsb' 5 24)), s.timeBase)] } }))
  ∧ (∀ (s : State) (p : Fin 8) (e : Fin 4) (word : Word) (t : Transaction) (r : Run) (st : PortStep), s.inReset = false →
       (s.port p).state = .up → (s.port p).txn = some t → t.requester = some (.engine e) →
       s.Executes e r (.port st) → st.port = p → r.abortCause = none → st.busy = .retry →
       r.retry < (s.port p).active.retryLimit → word.msb = true → judge word = .busy →
       exec (.probeResponse p word false) s = .next ((s.setPort p { s.port p with
         tally := 0, txn := none }).setEngine e { s.engine e with
         state := .spacing ((s.port p).active.spacing * 10)
         run := some { r with retry := r.retry + 1 } }))
  ∧ (∀ (s : State) (p : Fin 8) (e : Fin 4) (word : Word) (t : Transaction) (r : Run) (st : PortStep) (d : Nat),
       s.inReset = false → (s.port p).state = .up → (s.port p).txn = some t → t.requester = some (.engine e) →
       s.Executes e r (.port st) → st.port = p → r.abortCause = none → r.portLost = false →
       r.samplesWritten ≤ 0xFFFFFFFF → word.msb = true → s.heldPort e = some p → (s.port p).waiters = [] →
       (s.port p).commitPending = false → (s.plan r.plan).steps[r.stepIndex + 1]? = some (.wait d) →
       let ended : State := s.setPort p { s.port p with tally := 0, txn := none }
       let transfer (u : State) (run : Run) : State := (u.setPort p { u.port p with
         txn := some (⟨some (.engine e),
           (match st.fn with | .read => TxFn.read | .write _ => TxFn.write | .control => TxFn.control), st.sub,
           (match st.fn with | .write v => v | _ => 0#24), (s.port p).active.timeout * 10,
           (s.port p).active.rate.wordTime, (s.port p).active.timeout * 10⟩ : Transaction) }).setEngine e { s.engine e with
         state := .transact, run := some run }
       let nextStep (u : State) (run : Run) : State := (u.setPort p { u.port p with holder := none }).setEngine e
         { s.engine e with
           state := .waiting d
           run := some { run with stepIndex := run.stepIndex + 1, remaining := 0, retry := 0 } }
       let samples (b : List (Sample × Time)) (time : Time) := ended.commit (s.plan r.plan).attrs.ring e
         ⟨r.plan, r.stepIndex, time, .samples (b.map fun y => y.1)⟩ false
       let took (run : Run) : Run := { run with
         builder := [], samplesWritten := min (run.samplesWritten + run.builder.length) 0xFFFFFFFF }
       let stalled (u : State) (run : Run) (x : Resume) : State := u.setEngine e { s.engine e with
         state := .stalled x, run := some { run with builder := [] } }
       (∀ sample, (judge word = .data ∧ sample = Sample.data ((s.port p).shape (word.extractLsb' 5 24)))
             ∨ (judge word = .busy ∧ st.busy = .accept ∧ sample = Sample.busy) → 1 ≤ r.remaining →
         let counted : Run := { r with
           remaining := r.remaining - 1, retry := 0
           builder := match st.fn with | .read => r.builder ++ [(sample, s.timeBase)] | _ => r.builder }
         (2 ≤ r.remaining → counted.builder.length ≠ 64 →
           exec (.probeResponse p word false) s = .next (transfer ended counted))
         ∧ (r.remaining = 1 → counted.builder = [] →
           exec (.probeResponse p word false) s = .next (nextStep ended counted))
         ∧ (∀ y rest, counted.builder = y :: rest → r.remaining = 1 ∨ counted.builder.length = 64 →
             let placed := samples counted.builder y.2
             (placed.2 ≠ .stalled → 2 ≤ r.remaining →
               exec (.probeResponse p word false) s = .next (transfer placed.1 (took counted)))
             ∧ (placed.2 ≠ .stalled → r.remaining = 1 →
               exec (.probeResponse p word false) s = .next (nextStep placed.1 (took counted)))
             ∧ (placed.2 = .stalled →
               exec (.probeResponse p word false) s = .next (stalled placed.1 counted
                 (if r.remaining = 1 then .stepEnd counted.builder.length else .midStep counted.builder.length)))))
       ∧ (judge word = .busy → st.busy = .stop →
           (r.builder = [] → exec (.probeResponse p word false) s = .next (nextStep ended r))
           ∧ (∀ y rest, r.builder = y :: rest →
               let placed := samples r.builder y.2
               (placed.2 ≠ .stalled →
                 exec (.probeResponse p word false) s = .next (nextStep placed.1 (took r)))
               ∧ (placed.2 = .stalled →
                 exec (.probeResponse p word false) s = .next (stalled placed.1 r (.stepEnd r.builder.length))))))

/-- The end of a drain leaves the port STOPPING with its clock stopped, without holder and without waiters, whoever
they were (R105, R131). The response or the timeout that ends a draining holder's transaction ends the drain: its
outcome acts on the tally but faults no port, a pending commit is copied, the holder and then the waiters are handed
PORT_DOWN, a host access as its reply and an engine as its step's fault, here a tolerated one with a WAIT after it, and
the port is STOPPING (R69, R75, R79, R80, R105, R111, R124, R131). The head of the wait list, here the host access, is
given the grant and makes its transaction (R129, R136). An engine at the head is given it from AWAIT_PORT and starts
its first transfer, or the release of a host access gives it the grant within the same event (R70, R71, R129). What a
faulted engine goes on to before the next is answered, and the reset of its run's counts, are the model's choices
(notes/assumptions/28 and 24). -/
def Obligations.GrantsAndDrainsServeTheWaitList : Prop :=
  (∀ (s : State) (p : Fin 8), s.inReset = false → (s.port p).state = .draining → (s.port p).txn = none →
     ∃ t, exec (.drainEnd p) s = .next t ∧ (t.port p).state = .stopping ∧ (t.port p).holder = none
       ∧ (t.port p).waiters = [] ∧ t.clockRate p = none)
  ∧ (∀ (s : State) (p : Fin 8) (a : HostAccess) (d : Identity) (rank : Nat) (ws : List Waiter), s.inReset = false →
       (s.port p).state = .up → (s.port p).holder = none → (s.port p).commitPending = false →
       (s.port p).waiters = ⟨.host, rank⟩ :: ws → (s.port p).access = some a → (s.port p).identity = some d →
       (a.sub : Nat) < d.subCount → a.fn = .read →
       exec (.grant p) s = .next (s.setPort p { s.port p with
         holder := some .host, waiters := ws, access := some { a with waitLeft := none }
         txn := some ⟨some .host, .read, a.sub, 0#24, (s.port p).active.timeout * 10,
           (s.port p).active.rate.wordTime, (s.port p).active.timeout * 10⟩ }))
  ∧ (∀ (s : State) (p : Fin 8) (e : Fin 4) (r : Run) (st : PortStep) (d : Identity) (rank : Nat) (ws : List Waiter),
       s.inReset = false → (s.port p).state = .up → (s.port p).commitPending = false →
       (s.port p).waiters = ⟨.engine e, rank⟩ :: ws → s.Executes e r (.port st) → st.port = p →
       (s.port p).identity = some d → (st.sub : Nat) < d.subCount →
       let given (q : Port) : State := (s.setPort p { q with
         holder := some (.engine e), waiters := ws
         txn := some (⟨some (.engine e),
           (match st.fn with | .read => TxFn.read | .write _ => TxFn.write | .control => TxFn.control), st.sub,
           (match st.fn with | .write v => v | _ => 0#24), q.active.timeout * 10, q.active.rate.wordTime,
           q.active.timeout * 10⟩ : Transaction) }).setEngine e { s.engine e with state := .transact }
       ((s.port p).holder = none → exec (.grant p) s = .next (given (s.port p)))
       ∧ (∀ (word : Word) (t : Transaction) (a : HostAccess), (s.port p).holder = some .host →
           (s.port p).access = some a → (s.port p).txn = some t → t.requester = some .host → word.msb = true →
           judge word = .busy →
         exec (.probeResponse p word false) s =
           .next ((given { s.port p with tally := 0, access := none }).placeReply a.tag 0x42#8
             (0x00#8 :: 0x01#8 :: bytesBE 6 s.timeBase.toNat ++ [0x00#8, 0x00#8, 0x00#8]))))
  ∧ (∀ (s : State) (p : Fin 8) (t : Transaction) (c : Instr) (tally : Nat), s.inReset = false →
       (s.port p).state = .draining → (s.port p).txn = some t → t.requester.isSome = true →
       (∃ word, c = .probeResponse p word false ∧ word.msb = true ∧ judge word ≠ .silent ∧ tally = 0)
         ∨ ((c = .responseTimeout p ∨ ∃ word, c = .probeResponse p word false ∧ word.msb = true ∧ judge word = .silent)
             ∧ tally = min ((s.port p).tally + 1) 255) →
       let stopped : State := s.setPort p { s.port p with
         state := .stopping, phase := some 1000, attempts := 0, txn := none, quiet := none, holder := none
         waiters := [], access := none, tally := tally, commitPending := false
         active := if (s.port p).commitPending then (s.port p).staged else (s.port p).active }
       let portDown (a : HostAccess) (u : State) : State := u.placeReply a.tag 0x42#8 [0x17#8, 0x00#8]
       (∀ a, (s.port p).holder = some .host → (s.port p).access = some a → (s.port p).waiters = [] →
         exec c s = .next (portDown a stopped))
       ∧ (∀ e r st d, s.Tolerates e p r st d →
           ((s.port p).holder = some (.engine e) → (s.engine e).state = .transact → (s.port p).waiters = [] →
             exec c s = .next (stopped.pastPortDown e r d))
           ∧ (∀ a rank, (s.port p).holder = some (.engine e) → (s.engine e).state = .transact →
               (s.port p).waiters = [⟨.host, rank⟩] → (s.port p).access = some a →
             exec c s = .next (portDown a (stopped.pastPortDown e r d)))
           ∧ (∀ a rank, (s.port p).holder = some .host → (s.port p).access = some a →
               (s.port p).waiters = [⟨.engine e, rank⟩] →
             exec c s = .next ((portDown a stopped).pastPortDown e r d))))

/-- COMMIT-PROFILE: PENDING under a holder; APPLIED at once without one, a rate change sending an UP port into
RETRAINING (R103, R143, R144, R147). A pending copy is made once no holder remains; at the same rate it changes the
active profile and the flag alone (R144). A copy that changes the rate in another state: CLOCKING and RETRAINING start
their settling again, IDENTIFYING goes back to CLOCKING, a transaction in flight abandoned and its quiet period opened;
OFF, POWERING, STOPPING and FAULT are left as they are (R104, R125, R143, Table 7-3). A pending copy is made at the
release of the grant, before the next grant; a change of rate then sends the port into RETRAINING with its wait list
kept (R103, R129, R144, R147). That the rest of an abandoned request word is not sent, and counts in the quiet period
all the same, is the model's choice (notes/assumptions/30). -/
def Obligations.CommitsCopyTheStagedProfile : Prop :=
  (∀ (s : State) (tag port : Byte) (p : Fin 8), s.Accepts tag → port.toNat = p →
     ((s.port p).holder.isSome = true →
       exec (.commitProfile tag port) s = .next ((s.setPort p { s.port p with commitPending := true }).answered
         tag 0x49#8 [0x00#8, 0x01#8, (s.port p).state.code]))
     ∧ ((s.port p).holder = none → (s.port p).staged.rate = (s.port p).active.rate →
       exec (.commitProfile tag port) s = .next ((s.setPort p { s.port p with
         active := (s.port p).staged, commitPending := false }).answered tag 0x49#8
           [0x00#8, 0x00#8, (s.port p).state.code]))
     ∧ ((s.port p).holder = none → (s.port p).staged.rate ≠ (s.port p).active.rate → (s.port p).state = .up →
       exec (.commitProfile tag port) s = .next ((s.setPort p { s.port p with
         active := (s.port p).staged, commitPending := false, state := .retraining, tally := 0, attempts := 0
         phase := some 1000 }).answered tag 0x49#8 [0x00#8, 0x00#8, 0x05#8])))
  ∧ (∀ (s : State) (p : Fin 8), s.inReset = false → (s.port p).commitPending = true → (s.port p).holder = none →
       (s.port p).staged.rate = (s.port p).active.rate →
       exec (.profileCopy p) s = .next (s.setPort p { s.port p with
         active := (s.port p).staged, commitPending := false }))
  ∧ (∀ (s : State) (tag port : Byte) (p : Fin 8), s.Accepts tag → port.toNat = p → (s.port p).holder = none →
       (s.port p).staged.rate ≠ (s.port p).active.rate →
       let copied : Port := { s.port p with active := (s.port p).staged, commitPending := false }
       let quieted : Port := match (s.port p).txn with
         | none => copied
         | some t => { copied with txn := none, quiet := some (t.wordLeft + t.left) }
       let applied (q : Port) : State := (s.setPort p q).answered tag 0x49#8 [0x00#8, 0x00#8, q.state.code]
       ((s.port p).state = .off ∨ (s.port p).state = .powering ∨ (s.port p).state = .stopping
           ∨ (s.port p).state = .fault →
         exec (.commitProfile tag port) s = .next (applied copied))
       ∧ ((s.port p).state = .clocking →
         exec (.commitProfile tag port) s = .next (applied { copied with phase := some 1000 }))
       ∧ ((s.port p).state = .identifying →
         exec (.commitProfile tag port) s =
           .next (applied { quieted with state := .clocking, attempts := 0, phase := some 1000 }))
       ∧ ((s.port p).state = .retraining →
         exec (.commitProfile tag port) s = .next (applied { quieted with attempts := 0, phase := some 1000 })))
  ∧ (∀ (s : State) (p : Fin 8) (word : Word) (t : Transaction) (a : HostAccess), s.inReset = false →
       (s.port p).state = .up → (s.port p).holder = some .host → (s.port p).commitPending = true →
       (s.port p).access = some a → (s.port p).txn = some t → t.requester = some .host → word.msb = true →
       judge word = .busy →
       let released : Port := { s.port p with
         txn := none, tally := 0, access := none, holder := none, active := (s.port p).staged, commitPending := false }
       let answered (q : Port) : State := (s.setPort p q).placeReply a.tag 0x42#8
         (0x00#8 :: 0x01#8 :: bytesBE 6 s.timeBase.toNat ++ [0x00#8, 0x00#8, 0x00#8])
       ((s.port p).staged.rate = (s.port p).active.rate → (s.port p).waiters = [] →
         exec (.probeResponse p word false) s = .next (answered released))
       ∧ ((s.port p).staged.rate ≠ (s.port p).active.rate →
         exec (.probeResponse p word false) s =
           .next (answered { released with state := .retraining, attempts := 0, phase := some 1000 })))

/-- SET-PROFILE writes the fields its mask marks into the staged profile, whole or not at all: a marked field outside
its range is answered BAD_VALUE with the number of the first such field and changes nothing; a field not marked may
hold anything (R141, R207, Table 7-1). READ-PROFILE gives the chosen profile and the commit-pending flag, and changes
nothing (R142). -/
def Obligations.ProfilesAreSetAndRead : Prop :=
  (∀ (s : State) (tag port present rate timeout spacing retryLimit width signExtend silenceLimit attention : Byte)
     (p : Fin 8), s.Accepts tag → port.toNat = p →
     let inRange : List Bool :=
       [rate = 0x01#8 ∨ rate = 0x02#8 ∨ rate = 0x04#8 ∨ rate = 0x08#8, timeout ≠ 0x00#8, spacing ≠ 0x00#8,
        retryLimit ≠ 0x00#8, width = 0x10#8 ∨ width = 0x18#8, signExtend.toNat ≤ 1, true, attention.toNat ≤ 1]
     let old := (s.port p).staged
     let new : Profile :=
       { rate :=
           if present.getLsbD 0 then
             (if rate = 0x01#8 then .r1 else if rate = 0x02#8 then .r2 else if rate = 0x04#8 then .r4 else .r8)
           else old.rate
         timeout := if present.getLsbD 1 then timeout.toNat else old.timeout
         spacing := if present.getLsbD 2 then spacing.toNat else old.spacing
         retryLimit := if present.getLsbD 3 then retryLimit.toNat else old.retryLimit
         width := if present.getLsbD 4 then (if width = 0x10#8 then .w16 else .w24) else old.width
         signExtend := if present.getLsbD 5 then signExtend == 0x01#8 else old.signExtend
         silenceLimit := if present.getLsbD 6 then silenceLimit.toNat else old.silenceLimit
         attention := if present.getLsbD 7 then attention == 0x01#8 else old.attention }
     let request : Instr :=
       .setProfile tag port present rate timeout spacing retryLimit width signExtend silenceLimit attention
     ((∀ i < 8, present.getLsbD i = true → inRange.getD i false = true) →
       exec request s = .next ((s.setPort p { s.port p with staged := new }).answered tag 0x48#8 (0x00#8 :: new.bytes)))
     ∧ (∀ i < 8, present.getLsbD i = true → inRange.getD i false = false →
         (∀ j < i, present.getLsbD j = true → inRange.getD j false = true) →
       exec request s = .next (s.answered tag 0x48#8 [0x10#8, byte (i + 1)])))
  ∧ (∀ (s : State) (tag port choice : Byte) (p : Fin 8), s.Accepts tag →
       (port.toNat = p → choice.toNat ≤ 1 →
         exec (.readProfile tag port choice) s = .next (s.answered tag 0x4A#8
           (0x00#8 :: (if choice = 0x00#8 then (s.port p).staged else (s.port p).active).bytes
             ++ [flagByte (s.port p).commitPending])))
       ∧ (8 ≤ port.toNat ∨ 1 < choice.toNat →
         exec (.readProfile tag port choice) s = .next (s.answered tag 0x4A#8 [0x10#8, 0x00#8])))

/-! ## Readout and notices -/

/-- READ-SEGMENT with a selector that is neither OLDEST nor a sequence number is answered BAD_VALUE, and one that finds
no segment NOT_FOUND (R153). It claims the segment it finds, unless that is READING, and opens its stream; the request
is kept until the stream ends (R153, R154). OLDEST finds a SEALED segment no other SEALED segment of the ring is older
than, counting modulo 2^32 from the next sequence number, and it finds one wherever there is one (R11, R153). A
sequence number finds the SEALED, READING or READ segment that carries it, and none where there is none (R153). -/
def Obligations.ReadSegmentClaimsTheSegment : Prop :=
  (∀ (s : State) (tag ring selector : Byte) (seqNo : Word) (k : Fin 4) (r : Ring) (i : Nat), s.Accepts tag →
     ring.toNat = k → s.ring k = some r →
     (selector = 0x00#8 ∧ r.oldestSealed = some i) ∨ (selector = 0x01#8 ∧ r.find seqNo = some i) →
     ((∃ b, (r.seg i).state = .reading b) →
       exec (.readSegment tag ring selector seqNo) s = .next (s.answered tag 0x50#8 [0x11#8, 0x00#8]))
     ∧ ((∀ b, (r.seg i).state ≠ .reading b) →
       exec (.readSegment tag ring selector seqNo) s = .next ({ s with
         rings := s.rings.set k (some { r with
           segments := r.segments.set i { r.seg i with state := SegState.reading ((r.seg i).state == SegState.read) } })
         streams := s.streams ++
           [(⟨tag, k, i, (r.seg i).seqNo, (r.seg i).wordsUsed, ((r.seg i).wordsUsed + 59) / 60, 0⟩ : Stream)]
         }.kept tag 0x50#8)))
  ∧ (∀ r : Ring,
       (∀ i, r.oldestSealed = some i → i < r.count ∧ (r.seg i).state = .sealed
         ∧ ∀ j < r.count, (r.seg j).state = .sealed →
             (r.nextSeq - (r.seg j).seqNo).toNat ≤ (r.nextSeq - (r.seg i).seqNo).toNat)
       ∧ (r.oldestSealed = none → ∀ j < r.count, (r.seg j).state ≠ .sealed)
       ∧ ∀ seqNo, (∀ i, r.find seqNo = some i ↔ r.Carries seqNo i ∧ ∀ j < i, ¬ r.Carries seqNo j)
           ∧ (r.find seqNo = none ↔ ∀ i, ¬ r.Carries seqNo i))
  ∧ (∀ (s : State) (tag ring selector : Byte) (seqNo : Word), s.Accepts tag →
       (1 < selector.toNat →
         exec (.readSegment tag ring selector seqNo) s = .next (s.answered tag 0x50#8 [0x10#8, 0x00#8]))
       ∧ (∀ (k : Fin 4) (r : Ring), ring.toNat = k → s.ring k = some r →
           (selector = 0x00#8 ∧ r.oldestSealed = none) ∨ (selector = 0x01#8 ∧ r.find seqNo = none) →
         exec (.readSegment tag ring selector seqNo) s = .next (s.answered tag 0x50#8 [0x16#8, 0x00#8])))

/-- A posting: appended below 255 entries; at 255 lost in favour of an OVERFLOW marker; at 256 counted in the
undelivered marker or in the held lost count (R169, R171, R172, R173). -/
def Obligations.PostingsAreKeptOrCounted : Prop :=
  ∀ (q : NoticeQueue) (kind : NoticeKind) (subject : Byte) (now : Time) (a : Word) (b : Half),
    (q.entries.length < 255 →
      q.post kind subject now a b = { q with
        entries := q.entries ++ [⟨q.nextNo, kind, subject, now, a, b, false⟩], nextNo := q.nextNo + 1 })
    ∧ (q.entries.length = 255 →
      q.post kind subject now a b = { q with
        entries := q.entries ++ [⟨q.nextNo, .overflow, 0x00#8, now, 0#32, 1#16, false⟩], nextNo := q.nextNo + 1 })
    ∧ (∀ es m, q.entries = es ++ [m] → es.length = 255 →
        (m.delivered = false → m.argB ≠ 0xFFFF#16 →
          q.post kind subject now a b = { q with entries := es ++ [{ m with argB := m.argB + 1 }] })
        ∧ (m.delivered = false → m.argB = 0xFFFF#16 → q.post kind subject now a b = q)
        ∧ (m.delivered = true →
          q.post kind subject now a b = { q with heldLost := min (q.heldLost + 1) 0xFFFFFFFF }))

/-- TAKE-NOTICES hands out the oldest undelivered entries, marks exactly those delivered, and reports the queue after
the marking; a maximum outside 1 to 8 is answered BAD_VALUE and changes nothing (R180). ACK-NOTICES removes every entry
through the delivered one it names, and appends a marker for the held lost count; a number no delivered entry carries
is answered BAD_VALUE (R174, R182). RESEND-NOTICES clears every delivered mark and answers how many (R183). That the
TAKE-NOTICES reply has no count byte is the model's reading (notes/assumptions/14). A notice's bytes and codes are as
Tables 10-16 and 10-17 give them. -/
def Obligations.NoticesAreTakenAckedAndResent : Prop :=
  (∀ (s : State) (tag maximum : Byte) (old new : List Notice), s.Accepts tag → 1 ≤ maximum.toNat → maximum.toNat ≤ 8 →
     s.notices.entries = old ++ new → (∀ n ∈ old, n.delivered = true) → (∀ n ∈ new, n.delivered = false) →
     exec (.takeNotices tag maximum) s = .next ({ s with notices := { s.notices with
         entries := old ++ (new.take maximum.toNat).map (fun (n : Notice) => { n with delivered := true })
           ++ new.drop maximum.toNat } }.answered tag 0x5A#8
       (0x00#8 :: (new.take maximum.toNat).flatMap Notice.bytes ++ bytesBE 2 s.notices.entries.length
         ++ bytesBE 2 (new.length - maximum.toNat) ++ bytesBE 4 s.notices.heldLost
         ++ [s.notices.mode.code, byte s.notices.credits])))
  ∧ (∀ (s : State) (tag : Byte) (number : Half), s.Accepts tag →
       ((∀ n ∈ s.notices.entries, n.delivered = true → n.number ≠ number) →
         exec (.ackNotices tag number) s = .next (s.answered tag 0x5B#8 [0x10#8, 0x00#8]))
       ∧ (∀ before n rest, s.notices.entries = before ++ n :: rest → n.delivered = true → n.number = number →
           (∀ m ∈ before, m.number ≠ number) → rest.length < 256 →
           let left : NoticeQueue :=
             if s.notices.heldLost = 0 then { s.notices with entries := rest }
             else { s.notices with
               entries := rest ++ [⟨s.notices.nextNo, .overflow, 0x00#8, s.timeBase, 0#32,
                 BitVec.ofNat 16 (min s.notices.heldLost 65535), false⟩]
               nextNo := s.notices.nextNo + 1, heldLost := 0 }
           exec (.ackNotices tag number) s = .next ({ s with notices := left }.answered tag 0x5B#8
             (0x00#8 :: bytesBE 2 (before.length + 1) ++ bytesBE 2 left.entries.length
               ++ bytesBE 2 (left.entries.countP fun (n : Notice) => !n.delivered)))))
  ∧ (∀ (s : State) (tag : Byte), s.Accepts tag →
       exec (.resendNotices tag) s = .next ({ s with notices := { s.notices with
         entries := s.notices.entries.map fun (n : Notice) => { n with delivered := false } } }.answered tag 0x5C#8
           (0x00#8 :: bytesBE 2 (s.notices.entries.countP fun (n : Notice) => n.delivered))))
  ∧ (∀ (s : State) (tag maximum : Byte), s.Accepts tag → maximum.toNat = 0 ∨ 8 < maximum.toNat →
       exec (.takeNotices tag maximum) s = .next (s.answered tag 0x5A#8 [0x10#8, 0x00#8]))
  ∧ ((∀ n : Notice, n.bytes = bytesBE 2 n.number.toNat ++ [n.kind.code, n.subject] ++ bytesBE 6 n.time.toNat
         ++ bytesBE 4 n.argA.toNat ++ bytesBE 2 n.argB.toNat)
     ∧ [NoticeKind.restarted, .segmentSealed, .runDone, .runFailed, .runAborted, .triggerMissed, .stepFault, .ringOverrun,
        .portState, .probeAttention, .notify, .overflow].map (fun x => x.code)
         = [0x01#8, 0x02#8, 0x03#8, 0x04#8, 0x05#8, 0x06#8, 0x07#8, 0x08#8, 0x09#8, 0x0A#8, 0x0B#8, 0x0C#8]
     ∧ NoticeMode.poll.code = 0x00#8 ∧ NoticeMode.push.code = 0x01#8)

/-- SET-NOTICE-MODE and GRANT-CREDITS (R176, R177). HATN is asserted exactly while undelivered entries exist and no
notice frame can be offered, and never while RESET is asserted (R178, R184). -/
def Obligations.NoticeModeCreditsAndHatn : Prop :=
  (∀ (s : State) (tag x : Byte), s.Accepts tag →
     (x.toNat ≤ 1 →
       exec (.setNoticeMode tag x) s = .next ({ s with notices := { s.notices with
         mode := if x = 0x00#8 then .poll else .push } }.answered tag 0x58#8 [0x00#8, x, byte s.notices.credits]))
     ∧ (1 < x.toNat → exec (.setNoticeMode tag x) s = .next (s.answered tag 0x58#8 [0x10#8, 0x00#8]))
     ∧ (1 ≤ x.toNat → x.toNat ≤ 32 →
       exec (.grantCredits tag x) s = .next ({ s with notices := { s.notices with
         credits := min (s.notices.credits + x.toNat) 32 } }.answered tag 0x59#8
           [0x00#8, byte (min (s.notices.credits + x.toNat) 32)]))
     ∧ (x.toNat = 0 ∨ 32 < x.toNat →
       exec (.grantCredits tag x) s = .next (s.answered tag 0x59#8 [0x10#8, 0x00#8])))
  ∧ (∀ s : State, s.hatnAsserted = true ↔
       s.inReset = false ∧ (∃ n ∈ s.notices.entries, n.delivered = false) ∧ s.notices.offering = false)

/-! ## Step faults -/

/-- A fault of a port step, REJECTED by its transaction or BUSY_LIMIT at the retry limit, with an empty builder.
Tolerated: STEP_FAULT is posted, the grant released, and the run goes on, here to a WAIT step (R74, R79, R80). Not
tolerated: the grant is released, RUN_END carries the reason, RUN_FAILED is posted, and the run has ended (R42, R79,
R81, R86, R88). A sample in the builder is committed first (R79); a timeout below the silence limit is the fault SILENT
(R79, R111); a step that finds its port down, or the sub-address absent, has the fault PORT_DOWN or SUBADDR_ABSENT with
all its transfers remaining (R69, R70); and an overcurrent withdraws the grant, which is the fault PORT_DOWN, the
engine holding no other (R65, R75, R108, R109). That PnOC is a level kept in State is the model's reading
(notes/assumptions/10), that STEP_FAULT stands before what the commit posts, and before the PORT_STATE of the
overcurrent, its choice (notes/assumptions/29 and 28). The reset of the run's counts between steps is the model's
choice (notes/assumptions/24). -/
def Obligations.StepFaultsAreToleratedOrEndTheRun : Prop :=
  (∀ (s : State) (p : Fin 8) (e : Fin 4) (word : Word) (t : Transaction) (r : Run) (st : PortStep) (reason : Reason)
     (code : Byte), s.inReset = false → (s.port p).state = .up → (s.port p).txn = some t →
     t.requester = some (.engine e) → s.Executes e r (.port st) → st.port = p → r.abortCause = none →
     r.portLost = false → r.samplesWritten < 0xFFFFFFFF → s.heldPort e = some p → (s.port p).waiters = [] →
     (s.port p).commitPending = false → word.msb = true →
     (judge word = .reject ∧ reason = .rejected ∧ code = 0x01#8)
       ∨ (judge word = .busy ∧ st.busy = .retry ∧ (s.port p).active.retryLimit ≤ r.retry ∧ reason = .busyLimit
           ∧ code = 0x03#8) →
     let freed : State := s.setPort p { s.port p with txn := none, tally := 0, holder := none }
     (∀ d, r.builder = [] → st.tolerate = true → (s.plan r.plan).steps[r.stepIndex + 1]? = some (.wait d) →
       exec (.probeResponse p word false) s = .next
         ((freed.post .stepFault (byte r.plan) (BitVec.ofNat 32 r.remaining) (code ++ byte r.stepIndex)).setEngine e
           { s.engine e with
             state := .waiting d
             run := some { r with stepIndex := r.stepIndex + 1, remaining := 0, retry := 0 } }))
     ∧ (∀ d x time ring i, r.builder = [(x, time)] → st.tolerate = true →
         (s.plan r.plan).steps[r.stepIndex + 1]? = some (.wait d) →
         s.HasRoom (s.plan r.plan).attrs.ring ring i 4 →
       exec (.probeResponse p word false) s = .next
         (((freed.appendRecord (s.plan r.plan).attrs.ring ring i
             ⟨r.plan, r.stepIndex, time, .samples [x]⟩).post .stepFault (byte r.plan)
               (BitVec.ofNat 32 r.remaining) (code ++ byte r.stepIndex)).setEngine e
           { s.engine e with
             state := .waiting d
             run := some { r with
               stepIndex := r.stepIndex + 1, remaining := 0, retry := 0, builder := []
               samplesWritten := r.samplesWritten + 1 } }))
     ∧ (∀ ring i, r.builder = [] → st.tolerate = false → s.HasRoom (s.plan r.plan).attrs.ring ring i 6 →
         (s.plan r.plan).attrs.sealOnEnd = false → (s.plan r.plan).held = false → s.runQueue = [] →
         (s.engine e).abortTags = [] → s.clear = none →
       exec (.probeResponse p word false) s = .next
         ((((freed.appendRecord (s.plan r.plan).attrs.ring ring i
             ⟨r.plan, r.stepIndex, s.timeBase,
               .runEnd (some reason) r.remaining (s.plan r.plan).missCount r.samplesWritten⟩).post .runFailed
                 (byte r.plan) (BitVec.ofNat 32 r.remaining) (code ++ byte r.stepIndex)).setPlan r.plan
             { s.plan r.plan with runStatus := .idle, held := false }).setEngine e ⟨.idle, none, []⟩)))
  ∧ (∀ (s : State) (p : Fin 8) (e : Fin 4) (r : Run) (st : PortStep) (d : Nat), s.inReset = false →
       s.Executes e r (.port st) → st.port = p → r.abortCause = none → r.portLost = false →
       r.samplesWritten < 0xFFFFFFFF → r.builder = [] → s.heldPort e = some p → (s.port p).waiters = [] →
       (s.port p).commitPending = false → st.tolerate = true →
       (s.plan r.plan).steps[r.stepIndex + 1]? = some (.wait d) →
       let goesOn (u : State) : State := u.setEngine e { s.engine e with
         state := .waiting d
         run := some { r with stepIndex := r.stepIndex + 1, remaining := 0, retry := 0 } }
       (∀ t, (s.port p).state = .up → (s.port p).txn = some t → t.requester = some (.engine e) →
           (s.port p).tally < 255 →
           (s.port p).active.silenceLimit = 0 ∨ (s.port p).tally + 1 < (s.port p).active.silenceLimit →
         exec (.responseTimeout p) s = .next (goesOn ((s.setPort p { s.port p with
           txn := none, tally := (s.port p).tally + 1, holder := none }).post .stepFault (byte r.plan)
             (BitVec.ofNat 32 r.remaining) (0x02#8 ++ byte r.stepIndex))))
       ∧ ((s.engine e).state = .transact ∨ (∃ n, (s.engine e).state = .spacing n) → (s.port p).supply = true →
           (∀ q : Fin 8, q ≠ p → (s.port q).holder ≠ some (.engine e)) →
         exec (.overcurrent p true) s = .next (goesOn (((s.setPort p { s.port p with
           state := .fault, supply := false, phase := none, attempts := 0, faultCause := some .overcurrent
           txn := none, quiet := none, access := none, ocLine := true, holder := none }).post .stepFault
             (byte r.plan) (BitVec.ofNat 32 r.remaining) (0x04#8 ++ byte r.stepIndex)).post .portState (byte p) 0#32
               0x0801#16))))
  ∧ (∀ (s : State) (e : Fin 4) (r : Run) (now : PlanStep) (st : PortStep) (n d : Nat), s.inReset = false →
       (s.engine e).state = .waiting n → s.Executes e r now → r.portLost = false → r.samplesWritten < 0xFFFFFFFF →
       s.heldPort e = none → (s.plan r.plan).steps[r.stepIndex + 1]? = some (.port st) → st.tolerate = true →
       (s.plan r.plan).steps[r.stepIndex + 2]? = some (.wait d) →
       let q := s.port st.port
       let goesOn (code : Byte) : State :=
         (s.post .stepFault (byte r.plan) (BitVec.ofNat 32 st.count) (code ++ byte (r.stepIndex + 1))).setEngine e
           { s.engine e with
             state := .waiting d
             run := some { r with stepIndex := r.stepIndex + 2, remaining := 0, retry := 0, builder := [] } }
       (q.state ≠ .up → q.state ≠ .retraining → exec (.waitExpiry e) s = .next (goesOn 0x04#8))
       ∧ (∀ i, q.state = .up → q.holder = none → q.waiters = [] → q.commitPending = false → q.identity = some i →
           i.subCount ≤ st.sub →
         exec (.waitExpiry e) s = .next (goesOn 0x05#8)))
end

