-- ==== Sys2Proof/Laws/State.lean ====
section
/-! SUPPORT. What each update of the state leaves alone, and what reading back a unit just written gives: no later proof
unfolds a record update. -/

namespace Sys2Proof.Machine

/-! ## setPlan -/

@[simp] theorem State.setPlan_inReset (s : State) (p : Fin 32) (x : Plan) : (s.setPlan p x).inReset = s.inReset := rfl
@[simp] theorem State.setPlan_timeBase (s : State) (p : Fin 32) (x : Plan) : (s.setPlan p x).timeBase = s.timeBase := rfl
@[simp] theorem State.setPlan_inputs (s : State) (p : Fin 32) (x : Plan) : (s.setPlan p x).inputs = s.inputs := rfl
@[simp] theorem State.setPlan_cadences (s : State) (p : Fin 32) (x : Plan) : (s.setPlan p x).cadences = s.cadences := rfl
@[simp] theorem State.setPlan_poolFree (s : State) (p : Fin 32) (x : Plan) : (s.setPlan p x).poolFree = s.poolFree := rfl
@[simp] theorem State.setPlan_runQueue (s : State) (p : Fin 32) (x : Plan) : (s.setPlan p x).runQueue = s.runQueue := rfl
@[simp] theorem State.setPlan_engines (s : State) (p : Fin 32) (x : Plan) : (s.setPlan p x).engines = s.engines := rfl
@[simp] theorem State.setPlan_clear (s : State) (p : Fin 32) (x : Plan) : (s.setPlan p x).clear = s.clear := rfl
@[simp] theorem State.setPlan_rings (s : State) (p : Fin 32) (x : Plan) : (s.setPlan p x).rings = s.rings := rfl
@[simp] theorem State.setPlan_mem (s : State) (p : Fin 32) (x : Plan) : (s.setPlan p x).mem = s.mem := rfl
@[simp] theorem State.setPlan_ports (s : State) (p : Fin 32) (x : Plan) : (s.setPlan p x).ports = s.ports := rfl
@[simp] theorem State.setPlan_streams (s : State) (p : Fin 32) (x : Plan) : (s.setPlan p x).streams = s.streams := rfl
@[simp] theorem State.setPlan_notices (s : State) (p : Fin 32) (x : Plan) : (s.setPlan p x).notices = s.notices := rfl
@[simp] theorem State.setPlan_link (s : State) (p : Fin 32) (x : Plan) : (s.setPlan p x).link = s.link := rfl
@[simp] theorem State.setPlan_pending (s : State) (p : Fin 32) (x : Plan) : (s.setPlan p x).pending = s.pending := rfl
@[simp] theorem State.setPlan_get_engine (s : State) (p : Fin 32) (x : Plan) (i : Fin 4) : (s.setPlan p x).engine i = s.engine i := rfl
@[simp] theorem State.setPlan_get_ring (s : State) (p : Fin 32) (x : Plan) (i : Fin 4) : (s.setPlan p x).ring i = s.ring i := rfl
@[simp] theorem State.setPlan_get_port (s : State) (p : Fin 32) (x : Plan) (i : Fin 8) : (s.setPlan p x).port i = s.port i := rfl
@[simp] theorem State.setPlan_get_input (s : State) (p : Fin 32) (x : Plan) (i : Fin 4) : (s.setPlan p x).input i = s.input i := rfl
@[simp] theorem State.setPlan_get_cadence (s : State) (p : Fin 32) (x : Plan) (i : Fin 4) : (s.setPlan p x).cadence i = s.cadence i := rfl

/-! ## setEngine -/

@[simp] theorem State.setEngine_inReset (s : State) (e : Fin 4) (x : Engine) : (s.setEngine e x).inReset = s.inReset := rfl
@[simp] theorem State.setEngine_timeBase (s : State) (e : Fin 4) (x : Engine) : (s.setEngine e x).timeBase = s.timeBase := rfl
@[simp] theorem State.setEngine_inputs (s : State) (e : Fin 4) (x : Engine) : (s.setEngine e x).inputs = s.inputs := rfl
@[simp] theorem State.setEngine_cadences (s : State) (e : Fin 4) (x : Engine) : (s.setEngine e x).cadences = s.cadences := rfl
@[simp] theorem State.setEngine_plans (s : State) (e : Fin 4) (x : Engine) : (s.setEngine e x).plans = s.plans := rfl
@[simp] theorem State.setEngine_poolFree (s : State) (e : Fin 4) (x : Engine) : (s.setEngine e x).poolFree = s.poolFree := rfl
@[simp] theorem State.setEngine_runQueue (s : State) (e : Fin 4) (x : Engine) : (s.setEngine e x).runQueue = s.runQueue := rfl
@[simp] theorem State.setEngine_clear (s : State) (e : Fin 4) (x : Engine) : (s.setEngine e x).clear = s.clear := rfl
@[simp] theorem State.setEngine_rings (s : State) (e : Fin 4) (x : Engine) : (s.setEngine e x).rings = s.rings := rfl
@[simp] theorem State.setEngine_mem (s : State) (e : Fin 4) (x : Engine) : (s.setEngine e x).mem = s.mem := rfl
@[simp] theorem State.setEngine_ports (s : State) (e : Fin 4) (x : Engine) : (s.setEngine e x).ports = s.ports := rfl
@[simp] theorem State.setEngine_streams (s : State) (e : Fin 4) (x : Engine) : (s.setEngine e x).streams = s.streams := rfl
@[simp] theorem State.setEngine_notices (s : State) (e : Fin 4) (x : Engine) : (s.setEngine e x).notices = s.notices := rfl
@[simp] theorem State.setEngine_link (s : State) (e : Fin 4) (x : Engine) : (s.setEngine e x).link = s.link := rfl
@[simp] theorem State.setEngine_pending (s : State) (e : Fin 4) (x : Engine) : (s.setEngine e x).pending = s.pending := rfl
@[simp] theorem State.setEngine_get_plan (s : State) (e : Fin 4) (x : Engine) (i : Fin 32) : (s.setEngine e x).plan i = s.plan i := rfl
@[simp] theorem State.setEngine_get_ring (s : State) (e : Fin 4) (x : Engine) (i : Fin 4) : (s.setEngine e x).ring i = s.ring i := rfl
@[simp] theorem State.setEngine_get_port (s : State) (e : Fin 4) (x : Engine) (i : Fin 8) : (s.setEngine e x).port i = s.port i := rfl
@[simp] theorem State.setEngine_get_input (s : State) (e : Fin 4) (x : Engine) (i : Fin 4) : (s.setEngine e x).input i = s.input i := rfl
@[simp] theorem State.setEngine_get_cadence (s : State) (e : Fin 4) (x : Engine) (i : Fin 4) : (s.setEngine e x).cadence i = s.cadence i := rfl

/-! ## setRing -/

@[simp] theorem State.setRing_inReset (s : State) (k : Fin 4) (x : Option Ring) : (s.setRing k x).inReset = s.inReset := rfl
@[simp] theorem State.setRing_timeBase (s : State) (k : Fin 4) (x : Option Ring) : (s.setRing k x).timeBase = s.timeBase := rfl
@[simp] theorem State.setRing_inputs (s : State) (k : Fin 4) (x : Option Ring) : (s.setRing k x).inputs = s.inputs := rfl
@[simp] theorem State.setRing_cadences (s : State) (k : Fin 4) (x : Option Ring) : (s.setRing k x).cadences = s.cadences := rfl
@[simp] theorem State.setRing_plans (s : State) (k : Fin 4) (x : Option Ring) : (s.setRing k x).plans = s.plans := rfl
@[simp] theorem State.setRing_poolFree (s : State) (k : Fin 4) (x : Option Ring) : (s.setRing k x).poolFree = s.poolFree := rfl
@[simp] theorem State.setRing_runQueue (s : State) (k : Fin 4) (x : Option Ring) : (s.setRing k x).runQueue = s.runQueue := rfl
@[simp] theorem State.setRing_engines (s : State) (k : Fin 4) (x : Option Ring) : (s.setRing k x).engines = s.engines := rfl
@[simp] theorem State.setRing_clear (s : State) (k : Fin 4) (x : Option Ring) : (s.setRing k x).clear = s.clear := rfl
@[simp] theorem State.setRing_mem (s : State) (k : Fin 4) (x : Option Ring) : (s.setRing k x).mem = s.mem := rfl
@[simp] theorem State.setRing_ports (s : State) (k : Fin 4) (x : Option Ring) : (s.setRing k x).ports = s.ports := rfl
@[simp] theorem State.setRing_streams (s : State) (k : Fin 4) (x : Option Ring) : (s.setRing k x).streams = s.streams := rfl
@[simp] theorem State.setRing_notices (s : State) (k : Fin 4) (x : Option Ring) : (s.setRing k x).notices = s.notices := rfl
@[simp] theorem State.setRing_link (s : State) (k : Fin 4) (x : Option Ring) : (s.setRing k x).link = s.link := rfl
@[simp] theorem State.setRing_pending (s : State) (k : Fin 4) (x : Option Ring) : (s.setRing k x).pending = s.pending := rfl
@[simp] theorem State.setRing_get_plan (s : State) (k : Fin 4) (x : Option Ring) (i : Fin 32) : (s.setRing k x).plan i = s.plan i := rfl
@[simp] theorem State.setRing_get_engine (s : State) (k : Fin 4) (x : Option Ring) (i : Fin 4) : (s.setRing k x).engine i = s.engine i := rfl
@[simp] theorem State.setRing_get_port (s : State) (k : Fin 4) (x : Option Ring) (i : Fin 8) : (s.setRing k x).port i = s.port i := rfl
@[simp] theorem State.setRing_get_input (s : State) (k : Fin 4) (x : Option Ring) (i : Fin 4) : (s.setRing k x).input i = s.input i := rfl
@[simp] theorem State.setRing_get_cadence (s : State) (k : Fin 4) (x : Option Ring) (i : Fin 4) : (s.setRing k x).cadence i = s.cadence i := rfl

/-! ## setPort -/

@[simp] theorem State.setPort_inReset (s : State) (p : Fin 8) (x : Port) : (s.setPort p x).inReset = s.inReset := rfl
@[simp] theorem State.setPort_timeBase (s : State) (p : Fin 8) (x : Port) : (s.setPort p x).timeBase = s.timeBase := rfl
@[simp] theorem State.setPort_inputs (s : State) (p : Fin 8) (x : Port) : (s.setPort p x).inputs = s.inputs := rfl
@[simp] theorem State.setPort_cadences (s : State) (p : Fin 8) (x : Port) : (s.setPort p x).cadences = s.cadences := rfl
@[simp] theorem State.setPort_plans (s : State) (p : Fin 8) (x : Port) : (s.setPort p x).plans = s.plans := rfl
@[simp] theorem State.setPort_poolFree (s : State) (p : Fin 8) (x : Port) : (s.setPort p x).poolFree = s.poolFree := rfl
@[simp] theorem State.setPort_runQueue (s : State) (p : Fin 8) (x : Port) : (s.setPort p x).runQueue = s.runQueue := rfl
@[simp] theorem State.setPort_engines (s : State) (p : Fin 8) (x : Port) : (s.setPort p x).engines = s.engines := rfl
@[simp] theorem State.setPort_clear (s : State) (p : Fin 8) (x : Port) : (s.setPort p x).clear = s.clear := rfl
@[simp] theorem State.setPort_rings (s : State) (p : Fin 8) (x : Port) : (s.setPort p x).rings = s.rings := rfl
@[simp] theorem State.setPort_mem (s : State) (p : Fin 8) (x : Port) : (s.setPort p x).mem = s.mem := rfl
@[simp] theorem State.setPort_streams (s : State) (p : Fin 8) (x : Port) : (s.setPort p x).streams = s.streams := rfl
@[simp] theorem State.setPort_notices (s : State) (p : Fin 8) (x : Port) : (s.setPort p x).notices = s.notices := rfl
@[simp] theorem State.setPort_link (s : State) (p : Fin 8) (x : Port) : (s.setPort p x).link = s.link := rfl
@[simp] theorem State.setPort_pending (s : State) (p : Fin 8) (x : Port) : (s.setPort p x).pending = s.pending := rfl
@[simp] theorem State.setPort_get_plan (s : State) (p : Fin 8) (x : Port) (i : Fin 32) : (s.setPort p x).plan i = s.plan i := rfl
@[simp] theorem State.setPort_get_engine (s : State) (p : Fin 8) (x : Port) (i : Fin 4) : (s.setPort p x).engine i = s.engine i := rfl
@[simp] theorem State.setPort_get_ring (s : State) (p : Fin 8) (x : Port) (i : Fin 4) : (s.setPort p x).ring i = s.ring i := rfl
@[simp] theorem State.setPort_get_input (s : State) (p : Fin 8) (x : Port) (i : Fin 4) : (s.setPort p x).input i = s.input i := rfl
@[simp] theorem State.setPort_get_cadence (s : State) (p : Fin 8) (x : Port) (i : Fin 4) : (s.setPort p x).cadence i = s.cadence i := rfl

/-! ## setInput -/

@[simp] theorem State.setInput_inReset (s : State) (n : Fin 4) (x : TrigInput) : (s.setInput n x).inReset = s.inReset := rfl
@[simp] theorem State.setInput_timeBase (s : State) (n : Fin 4) (x : TrigInput) : (s.setInput n x).timeBase = s.timeBase := rfl
@[simp] theorem State.setInput_cadences (s : State) (n : Fin 4) (x : TrigInput) : (s.setInput n x).cadences = s.cadences := rfl
@[simp] theorem State.setInput_plans (s : State) (n : Fin 4) (x : TrigInput) : (s.setInput n x).plans = s.plans := rfl
@[simp] theorem State.setInput_poolFree (s : State) (n : Fin 4) (x : TrigInput) : (s.setInput n x).poolFree = s.poolFree := rfl
@[simp] theorem State.setInput_runQueue (s : State) (n : Fin 4) (x : TrigInput) : (s.setInput n x).runQueue = s.runQueue := rfl
@[simp] theorem State.setInput_engines (s : State) (n : Fin 4) (x : TrigInput) : (s.setInput n x).engines = s.engines := rfl
@[simp] theorem State.setInput_clear (s : State) (n : Fin 4) (x : TrigInput) : (s.setInput n x).clear = s.clear := rfl
@[simp] theorem State.setInput_rings (s : State) (n : Fin 4) (x : TrigInput) : (s.setInput n x).rings = s.rings := rfl
@[simp] theorem State.setInput_mem (s : State) (n : Fin 4) (x : TrigInput) : (s.setInput n x).mem = s.mem := rfl
@[simp] theorem State.setInput_ports (s : State) (n : Fin 4) (x : TrigInput) : (s.setInput n x).ports = s.ports := rfl
@[simp] theorem State.setInput_streams (s : State) (n : Fin 4) (x : TrigInput) : (s.setInput n x).streams = s.streams := rfl
@[simp] theorem State.setInput_notices (s : State) (n : Fin 4) (x : TrigInput) : (s.setInput n x).notices = s.notices := rfl
@[simp] theorem State.setInput_link (s : State) (n : Fin 4) (x : TrigInput) : (s.setInput n x).link = s.link := rfl
@[simp] theorem State.setInput_pending (s : State) (n : Fin 4) (x : TrigInput) : (s.setInput n x).pending = s.pending := rfl
@[simp] theorem State.setInput_get_plan (s : State) (n : Fin 4) (x : TrigInput) (i : Fin 32) : (s.setInput n x).plan i = s.plan i := rfl
@[simp] theorem State.setInput_get_engine (s : State) (n : Fin 4) (x : TrigInput) (i : Fin 4) : (s.setInput n x).engine i = s.engine i := rfl
@[simp] theorem State.setInput_get_ring (s : State) (n : Fin 4) (x : TrigInput) (i : Fin 4) : (s.setInput n x).ring i = s.ring i := rfl
@[simp] theorem State.setInput_get_port (s : State) (n : Fin 4) (x : TrigInput) (i : Fin 8) : (s.setInput n x).port i = s.port i := rfl
@[simp] theorem State.setInput_get_cadence (s : State) (n : Fin 4) (x : TrigInput) (i : Fin 4) : (s.setInput n x).cadence i = s.cadence i := rfl

/-! ## setCadence -/

@[simp] theorem State.setCadence_inReset (s : State) (n : Fin 4) (x : Cadence) : (s.setCadence n x).inReset = s.inReset := rfl
@[simp] theorem State.setCadence_timeBase (s : State) (n : Fin 4) (x : Cadence) : (s.setCadence n x).timeBase = s.timeBase := rfl
@[simp] theorem State.setCadence_inputs (s : State) (n : Fin 4) (x : Cadence) : (s.setCadence n x).inputs = s.inputs := rfl
@[simp] theorem State.setCadence_plans (s : State) (n : Fin 4) (x : Cadence) : (s.setCadence n x).plans = s.plans := rfl
@[simp] theorem State.setCadence_poolFree (s : State) (n : Fin 4) (x : Cadence) : (s.setCadence n x).poolFree = s.poolFree := rfl
@[simp] theorem State.setCadence_runQueue (s : State) (n : Fin 4) (x : Cadence) : (s.setCadence n x).runQueue = s.runQueue := rfl
@[simp] theorem State.setCadence_engines (s : State) (n : Fin 4) (x : Cadence) : (s.setCadence n x).engines = s.engines := rfl
@[simp] theorem State.setCadence_clear (s : State) (n : Fin 4) (x : Cadence) : (s.setCadence n x).clear = s.clear := rfl
@[simp] theorem State.setCadence_rings (s : State) (n : Fin 4) (x : Cadence) : (s.setCadence n x).rings = s.rings := rfl
@[simp] theorem State.setCadence_mem (s : State) (n : Fin 4) (x : Cadence) : (s.setCadence n x).mem = s.mem := rfl
@[simp] theorem State.setCadence_ports (s : State) (n : Fin 4) (x : Cadence) : (s.setCadence n x).ports = s.ports := rfl
@[simp] theorem State.setCadence_streams (s : State) (n : Fin 4) (x : Cadence) : (s.setCadence n x).streams = s.streams := rfl
@[simp] theorem State.setCadence_notices (s : State) (n : Fin 4) (x : Cadence) : (s.setCadence n x).notices = s.notices := rfl
@[simp] theorem State.setCadence_link (s : State) (n : Fin 4) (x : Cadence) : (s.setCadence n x).link = s.link := rfl
@[simp] theorem State.setCadence_pending (s : State) (n : Fin 4) (x : Cadence) : (s.setCadence n x).pending = s.pending := rfl
@[simp] theorem State.setCadence_get_plan (s : State) (n : Fin 4) (x : Cadence) (i : Fin 32) : (s.setCadence n x).plan i = s.plan i := rfl
@[simp] theorem State.setCadence_get_engine (s : State) (n : Fin 4) (x : Cadence) (i : Fin 4) : (s.setCadence n x).engine i = s.engine i := rfl
@[simp] theorem State.setCadence_get_ring (s : State) (n : Fin 4) (x : Cadence) (i : Fin 4) : (s.setCadence n x).ring i = s.ring i := rfl
@[simp] theorem State.setCadence_get_port (s : State) (n : Fin 4) (x : Cadence) (i : Fin 8) : (s.setCadence n x).port i = s.port i := rfl
@[simp] theorem State.setCadence_get_input (s : State) (n : Fin 4) (x : Cadence) (i : Fin 4) : (s.setCadence n x).input i = s.input i := rfl

/-! ## setEngineState -/

@[simp] theorem State.setEngineState_inReset (s : State) (e : Fin 4) (x : EngineState) : (s.setEngineState e x).inReset = s.inReset := rfl
@[simp] theorem State.setEngineState_timeBase (s : State) (e : Fin 4) (x : EngineState) : (s.setEngineState e x).timeBase = s.timeBase := rfl
@[simp] theorem State.setEngineState_inputs (s : State) (e : Fin 4) (x : EngineState) : (s.setEngineState e x).inputs = s.inputs := rfl
@[simp] theorem State.setEngineState_cadences (s : State) (e : Fin 4) (x : EngineState) : (s.setEngineState e x).cadences = s.cadences := rfl
@[simp] theorem State.setEngineState_plans (s : State) (e : Fin 4) (x : EngineState) : (s.setEngineState e x).plans = s.plans := rfl
@[simp] theorem State.setEngineState_poolFree (s : State) (e : Fin 4) (x : EngineState) : (s.setEngineState e x).poolFree = s.poolFree := rfl
@[simp] theorem State.setEngineState_runQueue (s : State) (e : Fin 4) (x : EngineState) : (s.setEngineState e x).runQueue = s.runQueue := rfl
@[simp] theorem State.setEngineState_clear (s : State) (e : Fin 4) (x : EngineState) : (s.setEngineState e x).clear = s.clear := rfl
@[simp] theorem State.setEngineState_rings (s : State) (e : Fin 4) (x : EngineState) : (s.setEngineState e x).rings = s.rings := rfl
@[simp] theorem State.setEngineState_mem (s : State) (e : Fin 4) (x : EngineState) : (s.setEngineState e x).mem = s.mem := rfl
@[simp] theorem State.setEngineState_ports (s : State) (e : Fin 4) (x : EngineState) : (s.setEngineState e x).ports = s.ports := rfl
@[simp] theorem State.setEngineState_streams (s : State) (e : Fin 4) (x : EngineState) : (s.setEngineState e x).streams = s.streams := rfl
@[simp] theorem State.setEngineState_notices (s : State) (e : Fin 4) (x : EngineState) : (s.setEngineState e x).notices = s.notices := rfl
@[simp] theorem State.setEngineState_link (s : State) (e : Fin 4) (x : EngineState) : (s.setEngineState e x).link = s.link := rfl
@[simp] theorem State.setEngineState_pending (s : State) (e : Fin 4) (x : EngineState) : (s.setEngineState e x).pending = s.pending := rfl
@[simp] theorem State.setEngineState_get_plan (s : State) (e : Fin 4) (x : EngineState) (i : Fin 32) : (s.setEngineState e x).plan i = s.plan i := rfl
@[simp] theorem State.setEngineState_get_ring (s : State) (e : Fin 4) (x : EngineState) (i : Fin 4) : (s.setEngineState e x).ring i = s.ring i := rfl
@[simp] theorem State.setEngineState_get_port (s : State) (e : Fin 4) (x : EngineState) (i : Fin 8) : (s.setEngineState e x).port i = s.port i := rfl
@[simp] theorem State.setEngineState_get_input (s : State) (e : Fin 4) (x : EngineState) (i : Fin 4) : (s.setEngineState e x).input i = s.input i := rfl
@[simp] theorem State.setEngineState_get_cadence (s : State) (e : Fin 4) (x : EngineState) (i : Fin 4) : (s.setEngineState e x).cadence i = s.cadence i := rfl

/-! ## setRun -/

@[simp] theorem State.setRun_inReset (s : State) (e : Fin 4) (x : Run) : (s.setRun e x).inReset = s.inReset := rfl
@[simp] theorem State.setRun_timeBase (s : State) (e : Fin 4) (x : Run) : (s.setRun e x).timeBase = s.timeBase := rfl
@[simp] theorem State.setRun_inputs (s : State) (e : Fin 4) (x : Run) : (s.setRun e x).inputs = s.inputs := rfl
@[simp] theorem State.setRun_cadences (s : State) (e : Fin 4) (x : Run) : (s.setRun e x).cadences = s.cadences := rfl
@[simp] theorem State.setRun_plans (s : State) (e : Fin 4) (x : Run) : (s.setRun e x).plans = s.plans := rfl
@[simp] theorem State.setRun_poolFree (s : State) (e : Fin 4) (x : Run) : (s.setRun e x).poolFree = s.poolFree := rfl
@[simp] theorem State.setRun_runQueue (s : State) (e : Fin 4) (x : Run) : (s.setRun e x).runQueue = s.runQueue := rfl
@[simp] theorem State.setRun_clear (s : State) (e : Fin 4) (x : Run) : (s.setRun e x).clear = s.clear := rfl
@[simp] theorem State.setRun_rings (s : State) (e : Fin 4) (x : Run) : (s.setRun e x).rings = s.rings := rfl
@[simp] theorem State.setRun_mem (s : State) (e : Fin 4) (x : Run) : (s.setRun e x).mem = s.mem := rfl
@[simp] theorem State.setRun_ports (s : State) (e : Fin 4) (x : Run) : (s.setRun e x).ports = s.ports := rfl
@[simp] theorem State.setRun_streams (s : State) (e : Fin 4) (x : Run) : (s.setRun e x).streams = s.streams := rfl
@[simp] theorem State.setRun_notices (s : State) (e : Fin 4) (x : Run) : (s.setRun e x).notices = s.notices := rfl
@[simp] theorem State.setRun_link (s : State) (e : Fin 4) (x : Run) : (s.setRun e x).link = s.link := rfl
@[simp] theorem State.setRun_pending (s : State) (e : Fin 4) (x : Run) : (s.setRun e x).pending = s.pending := rfl
@[simp] theorem State.setRun_get_plan (s : State) (e : Fin 4) (x : Run) (i : Fin 32) : (s.setRun e x).plan i = s.plan i := rfl
@[simp] theorem State.setRun_get_ring (s : State) (e : Fin 4) (x : Run) (i : Fin 4) : (s.setRun e x).ring i = s.ring i := rfl
@[simp] theorem State.setRun_get_port (s : State) (e : Fin 4) (x : Run) (i : Fin 8) : (s.setRun e x).port i = s.port i := rfl
@[simp] theorem State.setRun_get_input (s : State) (e : Fin 4) (x : Run) (i : Fin 4) : (s.setRun e x).input i = s.input i := rfl
@[simp] theorem State.setRun_get_cadence (s : State) (e : Fin 4) (x : Run) (i : Fin 4) : (s.setRun e x).cadence i = s.cadence i := rfl

/-! ## post -/

@[simp] theorem State.post_inReset (s : State) (k : NoticeKind) (j : Byte) (a : Word) (b : Half) : (s.post k j a b).inReset = s.inReset := rfl
@[simp] theorem State.post_timeBase (s : State) (k : NoticeKind) (j : Byte) (a : Word) (b : Half) : (s.post k j a b).timeBase = s.timeBase := rfl
@[simp] theorem State.post_inputs (s : State) (k : NoticeKind) (j : Byte) (a : Word) (b : Half) : (s.post k j a b).inputs = s.inputs := rfl
@[simp] theorem State.post_cadences (s : State) (k : NoticeKind) (j : Byte) (a : Word) (b : Half) : (s.post k j a b).cadences = s.cadences := rfl
@[simp] theorem State.post_plans (s : State) (k : NoticeKind) (j : Byte) (a : Word) (b : Half) : (s.post k j a b).plans = s.plans := rfl
@[simp] theorem State.post_poolFree (s : State) (k : NoticeKind) (j : Byte) (a : Word) (b : Half) : (s.post k j a b).poolFree = s.poolFree := rfl
@[simp] theorem State.post_runQueue (s : State) (k : NoticeKind) (j : Byte) (a : Word) (b : Half) : (s.post k j a b).runQueue = s.runQueue := rfl
@[simp] theorem State.post_engines (s : State) (k : NoticeKind) (j : Byte) (a : Word) (b : Half) : (s.post k j a b).engines = s.engines := rfl
@[simp] theorem State.post_clear (s : State) (k : NoticeKind) (j : Byte) (a : Word) (b : Half) : (s.post k j a b).clear = s.clear := rfl
@[simp] theorem State.post_rings (s : State) (k : NoticeKind) (j : Byte) (a : Word) (b : Half) : (s.post k j a b).rings = s.rings := rfl
@[simp] theorem State.post_mem (s : State) (k : NoticeKind) (j : Byte) (a : Word) (b : Half) : (s.post k j a b).mem = s.mem := rfl
@[simp] theorem State.post_ports (s : State) (k : NoticeKind) (j : Byte) (a : Word) (b : Half) : (s.post k j a b).ports = s.ports := rfl
@[simp] theorem State.post_streams (s : State) (k : NoticeKind) (j : Byte) (a : Word) (b : Half) : (s.post k j a b).streams = s.streams := rfl
@[simp] theorem State.post_link (s : State) (k : NoticeKind) (j : Byte) (a : Word) (b : Half) : (s.post k j a b).link = s.link := rfl
@[simp] theorem State.post_pending (s : State) (k : NoticeKind) (j : Byte) (a : Word) (b : Half) : (s.post k j a b).pending = s.pending := rfl
@[simp] theorem State.post_get_plan (s : State) (k : NoticeKind) (j : Byte) (a : Word) (b : Half) (i : Fin 32) : (s.post k j a b).plan i = s.plan i := rfl
@[simp] theorem State.post_get_engine (s : State) (k : NoticeKind) (j : Byte) (a : Word) (b : Half) (i : Fin 4) : (s.post k j a b).engine i = s.engine i := rfl
@[simp] theorem State.post_get_ring (s : State) (k : NoticeKind) (j : Byte) (a : Word) (b : Half) (i : Fin 4) : (s.post k j a b).ring i = s.ring i := rfl
@[simp] theorem State.post_get_port (s : State) (k : NoticeKind) (j : Byte) (a : Word) (b : Half) (i : Fin 8) : (s.post k j a b).port i = s.port i := rfl
@[simp] theorem State.post_get_input (s : State) (k : NoticeKind) (j : Byte) (a : Word) (b : Half) (i : Fin 4) : (s.post k j a b).input i = s.input i := rfl
@[simp] theorem State.post_get_cadence (s : State) (k : NoticeKind) (j : Byte) (a : Word) (b : Half) (i : Fin 4) : (s.post k j a b).cadence i = s.cadence i := rfl

/-! ## placeReply -/

@[simp] theorem State.placeReply_inReset (s : State) (t k : Byte) (b : List Byte) : (s.placeReply t k b).inReset = s.inReset := rfl
@[simp] theorem State.placeReply_timeBase (s : State) (t k : Byte) (b : List Byte) : (s.placeReply t k b).timeBase = s.timeBase := rfl
@[simp] theorem State.placeReply_inputs (s : State) (t k : Byte) (b : List Byte) : (s.placeReply t k b).inputs = s.inputs := rfl
@[simp] theorem State.placeReply_cadences (s : State) (t k : Byte) (b : List Byte) : (s.placeReply t k b).cadences = s.cadences := rfl
@[simp] theorem State.placeReply_plans (s : State) (t k : Byte) (b : List Byte) : (s.placeReply t k b).plans = s.plans := rfl
@[simp] theorem State.placeReply_poolFree (s : State) (t k : Byte) (b : List Byte) : (s.placeReply t k b).poolFree = s.poolFree := rfl
@[simp] theorem State.placeReply_runQueue (s : State) (t k : Byte) (b : List Byte) : (s.placeReply t k b).runQueue = s.runQueue := rfl
@[simp] theorem State.placeReply_engines (s : State) (t k : Byte) (b : List Byte) : (s.placeReply t k b).engines = s.engines := rfl
@[simp] theorem State.placeReply_clear (s : State) (t k : Byte) (b : List Byte) : (s.placeReply t k b).clear = s.clear := rfl
@[simp] theorem State.placeReply_rings (s : State) (t k : Byte) (b : List Byte) : (s.placeReply t k b).rings = s.rings := rfl
@[simp] theorem State.placeReply_mem (s : State) (t k : Byte) (b : List Byte) : (s.placeReply t k b).mem = s.mem := rfl
@[simp] theorem State.placeReply_ports (s : State) (t k : Byte) (b : List Byte) : (s.placeReply t k b).ports = s.ports := rfl
@[simp] theorem State.placeReply_streams (s : State) (t k : Byte) (b : List Byte) : (s.placeReply t k b).streams = s.streams := rfl
@[simp] theorem State.placeReply_notices (s : State) (t k : Byte) (b : List Byte) : (s.placeReply t k b).notices = s.notices := rfl
@[simp] theorem State.placeReply_pending (s : State) (t k : Byte) (b : List Byte) : (s.placeReply t k b).pending = s.pending := rfl
@[simp] theorem State.placeReply_get_plan (s : State) (t k : Byte) (b : List Byte) (i : Fin 32) : (s.placeReply t k b).plan i = s.plan i := rfl
@[simp] theorem State.placeReply_get_engine (s : State) (t k : Byte) (b : List Byte) (i : Fin 4) : (s.placeReply t k b).engine i = s.engine i := rfl
@[simp] theorem State.placeReply_get_ring (s : State) (t k : Byte) (b : List Byte) (i : Fin 4) : (s.placeReply t k b).ring i = s.ring i := rfl
@[simp] theorem State.placeReply_get_port (s : State) (t k : Byte) (b : List Byte) (i : Fin 8) : (s.placeReply t k b).port i = s.port i := rfl
@[simp] theorem State.placeReply_get_input (s : State) (t k : Byte) (b : List Byte) (i : Fin 4) : (s.placeReply t k b).input i = s.input i := rfl
@[simp] theorem State.placeReply_get_cadence (s : State) (t k : Byte) (b : List Byte) (i : Fin 4) : (s.placeReply t k b).cadence i = s.cadence i := rfl

/-! ## admitted -/

@[simp] theorem State.admit_inReset (s : State) (t k : Byte) : (s.admitted t k).inReset = s.inReset := rfl
@[simp] theorem State.admit_timeBase (s : State) (t k : Byte) : (s.admitted t k).timeBase = s.timeBase := rfl
@[simp] theorem State.admit_inputs (s : State) (t k : Byte) : (s.admitted t k).inputs = s.inputs := rfl
@[simp] theorem State.admit_cadences (s : State) (t k : Byte) : (s.admitted t k).cadences = s.cadences := rfl
@[simp] theorem State.admit_plans (s : State) (t k : Byte) : (s.admitted t k).plans = s.plans := rfl
@[simp] theorem State.admit_poolFree (s : State) (t k : Byte) : (s.admitted t k).poolFree = s.poolFree := rfl
@[simp] theorem State.admit_runQueue (s : State) (t k : Byte) : (s.admitted t k).runQueue = s.runQueue := rfl
@[simp] theorem State.admit_engines (s : State) (t k : Byte) : (s.admitted t k).engines = s.engines := rfl
@[simp] theorem State.admit_clear (s : State) (t k : Byte) : (s.admitted t k).clear = s.clear := rfl
@[simp] theorem State.admit_rings (s : State) (t k : Byte) : (s.admitted t k).rings = s.rings := rfl
@[simp] theorem State.admit_mem (s : State) (t k : Byte) : (s.admitted t k).mem = s.mem := rfl
@[simp] theorem State.admit_ports (s : State) (t k : Byte) : (s.admitted t k).ports = s.ports := rfl
@[simp] theorem State.admit_streams (s : State) (t k : Byte) : (s.admitted t k).streams = s.streams := rfl
@[simp] theorem State.admit_notices (s : State) (t k : Byte) : (s.admitted t k).notices = s.notices := rfl
@[simp] theorem State.admit_pending (s : State) (t k : Byte) : (s.admitted t k).pending = s.pending := rfl
@[simp] theorem State.admit_get_plan (s : State) (t k : Byte) (i : Fin 32) : (s.admitted t k).plan i = s.plan i := rfl
@[simp] theorem State.admit_get_engine (s : State) (t k : Byte) (i : Fin 4) : (s.admitted t k).engine i = s.engine i := rfl
@[simp] theorem State.admit_get_ring (s : State) (t k : Byte) (i : Fin 4) : (s.admitted t k).ring i = s.ring i := rfl
@[simp] theorem State.admit_get_port (s : State) (t k : Byte) (i : Fin 8) : (s.admitted t k).port i = s.port i := rfl
@[simp] theorem State.admit_get_input (s : State) (t k : Byte) (i : Fin 4) : (s.admitted t k).input i = s.input i := rfl
@[simp] theorem State.admit_get_cadence (s : State) (t k : Byte) (i : Fin 4) : (s.admitted t k).cadence i = s.cadence i := rfl

/-! ## setReceiver -/

@[simp] theorem State.setReceiver_inReset (s : State) (r : Receiver) : (s.setReceiver r).inReset = s.inReset := rfl
@[simp] theorem State.setReceiver_timeBase (s : State) (r : Receiver) : (s.setReceiver r).timeBase = s.timeBase := rfl
@[simp] theorem State.setReceiver_inputs (s : State) (r : Receiver) : (s.setReceiver r).inputs = s.inputs := rfl
@[simp] theorem State.setReceiver_cadences (s : State) (r : Receiver) : (s.setReceiver r).cadences = s.cadences := rfl
@[simp] theorem State.setReceiver_plans (s : State) (r : Receiver) : (s.setReceiver r).plans = s.plans := rfl
@[simp] theorem State.setReceiver_poolFree (s : State) (r : Receiver) : (s.setReceiver r).poolFree = s.poolFree := rfl
@[simp] theorem State.setReceiver_runQueue (s : State) (r : Receiver) : (s.setReceiver r).runQueue = s.runQueue := rfl
@[simp] theorem State.setReceiver_engines (s : State) (r : Receiver) : (s.setReceiver r).engines = s.engines := rfl
@[simp] theorem State.setReceiver_clear (s : State) (r : Receiver) : (s.setReceiver r).clear = s.clear := rfl
@[simp] theorem State.setReceiver_rings (s : State) (r : Receiver) : (s.setReceiver r).rings = s.rings := rfl
@[simp] theorem State.setReceiver_mem (s : State) (r : Receiver) : (s.setReceiver r).mem = s.mem := rfl
@[simp] theorem State.setReceiver_ports (s : State) (r : Receiver) : (s.setReceiver r).ports = s.ports := rfl
@[simp] theorem State.setReceiver_streams (s : State) (r : Receiver) : (s.setReceiver r).streams = s.streams := rfl
@[simp] theorem State.setReceiver_notices (s : State) (r : Receiver) : (s.setReceiver r).notices = s.notices := rfl
@[simp] theorem State.setReceiver_pending (s : State) (r : Receiver) : (s.setReceiver r).pending = s.pending := rfl
@[simp] theorem State.setReceiver_get_plan (s : State) (r : Receiver) (i : Fin 32) : (s.setReceiver r).plan i = s.plan i := rfl
@[simp] theorem State.setReceiver_get_engine (s : State) (r : Receiver) (i : Fin 4) : (s.setReceiver r).engine i = s.engine i := rfl
@[simp] theorem State.setReceiver_get_ring (s : State) (r : Receiver) (i : Fin 4) : (s.setReceiver r).ring i = s.ring i := rfl
@[simp] theorem State.setReceiver_get_port (s : State) (r : Receiver) (i : Fin 8) : (s.setReceiver r).port i = s.port i := rfl
@[simp] theorem State.setReceiver_get_input (s : State) (r : Receiver) (i : Fin 4) : (s.setReceiver r).input i = s.input i := rfl
@[simp] theorem State.setReceiver_get_cadence (s : State) (r : Receiver) (i : Fin 4) : (s.setReceiver r).cadence i = s.cadence i := rfl

/-! ## Reading back a unit -/

@[simp] theorem State.setPlan_self (s : State) (i : Fin 32) (x : Plan) : (s.setPlan i x).plan i = x := by
  simp [State.setPlan, State.plan]

theorem State.setPlan_other (s : State) (i j : Fin 32) (x : Plan) (h : j ≠ i) :
    (s.setPlan i x).plan j = s.plan j := by
  have : (i : Nat) ≠ j := fun e => h (Fin.ext e.symm)
  simp [State.setPlan, State.plan, this]

theorem State.setPlan_get (s : State) (i j : Fin 32) (x : Plan) :
    (s.setPlan i x).plan j = if j = i then x else s.plan j := by
  split
  · subst_vars; simp
  · next h => exact s.setPlan_other i j x h

@[simp] theorem State.setPlan_twice (s : State) (i : Fin 32) (x y : Plan) :
    (s.setPlan i x).setPlan i y = s.setPlan i y := by
  simp [State.setPlan]

@[simp] theorem State.setEngine_self (s : State) (i : Fin 4) (x : Engine) : (s.setEngine i x).engine i = x := by
  simp [State.setEngine, State.engine]

theorem State.setEngine_other (s : State) (i j : Fin 4) (x : Engine) (h : j ≠ i) :
    (s.setEngine i x).engine j = s.engine j := by
  have : (i : Nat) ≠ j := fun e => h (Fin.ext e.symm)
  simp [State.setEngine, State.engine, this]

theorem State.setEngine_get (s : State) (i j : Fin 4) (x : Engine) :
    (s.setEngine i x).engine j = if j = i then x else s.engine j := by
  split
  · subst_vars; simp
  · next h => exact s.setEngine_other i j x h

@[simp] theorem State.setEngine_twice (s : State) (i : Fin 4) (x y : Engine) :
    (s.setEngine i x).setEngine i y = s.setEngine i y := by
  simp [State.setEngine]

@[simp] theorem State.setRing_self (s : State) (i : Fin 4) (x : Option Ring) : (s.setRing i x).ring i = x := by
  simp [State.setRing, State.ring]

theorem State.setRing_other (s : State) (i j : Fin 4) (x : Option Ring) (h : j ≠ i) :
    (s.setRing i x).ring j = s.ring j := by
  have : (i : Nat) ≠ j := fun e => h (Fin.ext e.symm)
  simp [State.setRing, State.ring, this]

theorem State.setRing_get (s : State) (i j : Fin 4) (x : Option Ring) :
    (s.setRing i x).ring j = if j = i then x else s.ring j := by
  split
  · subst_vars; simp
  · next h => exact s.setRing_other i j x h

@[simp] theorem State.setRing_twice (s : State) (i : Fin 4) (x y : Option Ring) :
    (s.setRing i x).setRing i y = s.setRing i y := by
  simp [State.setRing]

@[simp] theorem State.setPort_self (s : State) (i : Fin 8) (x : Port) : (s.setPort i x).port i = x := by
  simp [State.setPort, State.port]

theorem State.setPort_other (s : State) (i j : Fin 8) (x : Port) (h : j ≠ i) :
    (s.setPort i x).port j = s.port j := by
  have : (i : Nat) ≠ j := fun e => h (Fin.ext e.symm)
  simp [State.setPort, State.port, this]

theorem State.setPort_get (s : State) (i j : Fin 8) (x : Port) :
    (s.setPort i x).port j = if j = i then x else s.port j := by
  split
  · subst_vars; simp
  · next h => exact s.setPort_other i j x h

@[simp] theorem State.setPort_twice (s : State) (i : Fin 8) (x y : Port) :
    (s.setPort i x).setPort i y = s.setPort i y := by
  simp [State.setPort]

@[simp] theorem State.setInput_self (s : State) (i : Fin 4) (x : TrigInput) : (s.setInput i x).input i = x := by
  simp [State.setInput, State.input]

theorem State.setInput_other (s : State) (i j : Fin 4) (x : TrigInput) (h : j ≠ i) :
    (s.setInput i x).input j = s.input j := by
  have : (i : Nat) ≠ j := fun e => h (Fin.ext e.symm)
  simp [State.setInput, State.input, this]

theorem State.setInput_get (s : State) (i j : Fin 4) (x : TrigInput) :
    (s.setInput i x).input j = if j = i then x else s.input j := by
  split
  · subst_vars; simp
  · next h => exact s.setInput_other i j x h

@[simp] theorem State.setInput_twice (s : State) (i : Fin 4) (x y : TrigInput) :
    (s.setInput i x).setInput i y = s.setInput i y := by
  simp [State.setInput]

@[simp] theorem State.setCadence_self (s : State) (i : Fin 4) (x : Cadence) : (s.setCadence i x).cadence i = x := by
  simp [State.setCadence, State.cadence]

theorem State.setCadence_other (s : State) (i j : Fin 4) (x : Cadence) (h : j ≠ i) :
    (s.setCadence i x).cadence j = s.cadence j := by
  have : (i : Nat) ≠ j := fun e => h (Fin.ext e.symm)
  simp [State.setCadence, State.cadence, this]

theorem State.setCadence_get (s : State) (i j : Fin 4) (x : Cadence) :
    (s.setCadence i x).cadence j = if j = i then x else s.cadence j := by
  split
  · subst_vars; simp
  · next h => exact s.setCadence_other i j x h

@[simp] theorem State.setCadence_twice (s : State) (i : Fin 4) (x y : Cadence) :
    (s.setCadence i x).setCadence i y = s.setCadence i y := by
  simp [State.setCadence]

end Sys2Proof.Machine
end

