-- ==== Sys2Proof/Laws/Events.lean ====
section
/-! SUPPORT. What each shared operation can do, said once: the actions of an event, admission and replies, the notice
queue, the Run Queue, the wait list, and a record commit. -/

namespace Sys2Proof.Machine

/-! ## Events -/

/-- What every action keeps, the actions of an event keep. -/
theorem carryOut_keeps {P : State → Prop} (keeps : ∀ a s, P s → P (act a s).st) :
    ∀ (fuel : Nat) (acts : List Act) (x : Moment), P x.st → P (carryOut fuel acts x).st
  | 0, [], _, h => h
  | _ + 1, [], _, h => h
  | 0, _ :: _, _, h => h
  | fuel + 1, a :: rest, x, h => by
    unfold carryOut
    split
    · exact carryOut_keeps keeps fuel rest x h
    · exact carryOut_keeps keeps fuel _ _ (keeps a x.st h)

/-- What every action keeps, the close of an event keeps. -/
theorem settle_keeps {P : State → Prop} (keeps : ∀ a s, P s → P (act a s).st) :
    ∀ (fuel : Nat) (x : Moment), P x.st → P (settle fuel x)
  | 0, ⟨_, [], _⟩, h => h
  | _ + 1, ⟨_, [], _⟩, h => h
  | 0, ⟨_, _ :: _, _⟩, h => keeps .take _ h
  | fuel + 1, ⟨s, a :: rest, begins⟩, h => by
    unfold settle
    exact settle_keeps keeps fuel _ (carryOut_keeps keeps _ _ _ (keeps a s h))

/-- What every action keeps, an event keeps from its own effect on. -/
theorem event_keeps {P : State → Prop} (keeps : ∀ a s, P s → P (act a s).st) {x : State × List Act} (h : P x.1) :
    P (event x) :=
  settle_keeps keeps _ _ (carryOut_keeps keeps _ _ _ h)

@[simp] theorem carryOut_nil (fuel : Nat) (x : Moment) : carryOut fuel [] x = x := by cases fuel <;> rfl

@[simp] theorem settle_nil (fuel begins : Nat) (s : State) : settle fuel ⟨s, [], begins⟩ = s := by cases fuel <;> rfl

/-- One action that begins no run: what follows at once comes first, what follows later last. -/
theorem carryOut_cons (fuel : Nat) (a : Act) (rest : List Act) (x : Moment) (h : a.begins = false) :
    carryOut (fuel + 1) (a :: rest) x =
      carryOut fuel ((act a x.st).now ++ rest ++ (act a x.st).later)
        ⟨(act a x.st).st, x.last ++ (act a x.st).last, x.begins⟩ := by
  simp [carryOut, h]

/-- One closing action, with all that follows from it. -/
theorem settle_cons (fuel begins : Nat) (a : Act) (rest : List Act) (s : State) :
    settle (fuel + 1) ⟨s, a :: rest, begins⟩ =
      settle fuel (carryOut Config.eventFuel ((act a s).now ++ (act a s).later)
        ⟨(act a s).st, rest ++ (act a s).last, begins⟩) := rfl

/-- An event that leads to no action is its own effect. -/
@[simp] theorem event_nil (s : State) : event (s, []) = s := by simp [event, Moment.also, Moment.start]

/-! ## Admission and replies -/

/-- A request that passes the checks reaches its owner as an outstanding request. -/
theorem receive_admitted {tag kind : Byte} {len : Nat} {owner : State → State} {s : State} (hr : s.inReset = false)
    (hp : s.link.resetPending = false) (ha : s.admission tag kind len = none) :
    receive tag kind len owner s = owner (s.admitted tag kind) := by
  simp [receive, hr, hp, ha]

/-- A request that fails them gets its refusal and does nothing else. -/
theorem receive_refused {tag kind : Byte} {len : Nat} {owner : State → State} {s : State} {st : Status}
    (hr : s.inReset = false) (hp : s.link.resetPending = false) (ha : s.admission tag kind len = some st) :
    receive tag kind len owner s = s.placeRefusal tag kind st := by
  simp [receive, hr, hp, ha]

/-- While RESET is asserted or reset pending is set, no request does anything. -/
theorem receive_deaf {tag kind : Byte} {len : Nat} {owner : State → State} {s : State}
    (h : s.inReset = true ∨ s.link.resetPending = true) : receive tag kind len owner s = s := by
  rcases h with h | h <;> simp [receive, h]

/-- A heard request with an allowed body passes admission where the session admits its kind. -/
theorem State.Hears.admission {s : State} {tag kind : Byte} {len : Nat} (h : s.Hears tag)
    (hs : s.link.sessionOpen = true ∨ sessionFree kind = true) (hb : bodyAllowed kind len = some true) :
    s.admission tag kind len = none := by
  obtain ⟨-, -, h0, hfresh, hlen⟩ := h
  have hno : (s.link.outstanding.any fun o => o.tag == tag) = false := by
    simpa [List.any_eq_false] using hfresh
  have hw : ¬ Config.window ≤ s.link.outstanding.length := by simp only [Config.window]; omega
  have hg : (!s.link.sessionOpen && !sessionFree kind) = false := by rcases hs with h | h <;> simp [h]
  simp [State.admission, h0, hg, hno, hw, hb]

/-- Admitting a fresh tag and placing its reply at once leaves what `State.answered` says. -/
theorem State.admit_placeReply {s : State} {tag kind : Byte} {body : List Byte}
    (h : ∀ o ∈ s.link.outstanding, o.tag ≠ tag) :
    (s.admitted tag kind).placeReply tag kind body = s.answered tag kind body := by
  have hmap : s.link.outstanding.map (fun o => if o.tag = tag then { o with stage := .placed } else o)
      = s.link.outstanding := by
    conv_rhs => rw [← List.map_id s.link.outstanding]
    exact List.map_congr_left fun o ho => by simp [h o ho]
  simp [State.admitted, State.placeReply, State.answered, replyKind, hmap]

/-! ## The notice queue -/

/-- A posting is appended, or lost in favour of a marker, or counted (R171 to R173). -/
theorem NoticeQueue.post_cases (q : NoticeQueue) (kind : NoticeKind) (subject : Byte) (now : Time) (a : Word)
    (b : Half) :
    (q.entries.length < 255 ∧ q.post kind subject now a b = q.append kind subject now a b)
    ∨ (q.entries.length = 255 ∧ q.post kind subject now a b = q.append .overflow 0x00#8 now 0#32 1#16)
    ∨ (255 < q.entries.length ∧ q.post kind subject now a b = q.lose) := by
  rcases Nat.lt_trichotomy q.entries.length 255 with h | h | h
  · exact .inl ⟨h, if_pos h⟩
  · exact .inr (.inl ⟨h, (if_neg (by simp [h, Config.noticePlaces])).trans (if_pos h)⟩)
  · exact .inr (.inr ⟨h, (if_neg (by simp only [Config.noticePlaces]; omega)).trans
      (if_neg (by simp only [Config.noticePlaces]; omega))⟩)

@[simp] theorem markDelivered_length (n : Nat) (es : List Notice) : (markDelivered n es).length = es.length := by
  induction es generalizing n with
  | nil => cases n <;> rfl
  | cons e es ih =>
    cases n with
    | zero => rfl
    | succ n => unfold markDelivered; split <;> simp [ih]

@[simp] theorem NoticeQueue.append_length (q : NoticeQueue) (kind : NoticeKind) (subject : Byte) (now : Time) (a : Word)
    (b : Half) : (q.append kind subject now a b).entries.length = q.entries.length + 1 := by
  simp [NoticeQueue.append]

/-! ## Ordered lists -/

/-- Who is on the wait list after a requester has joined (R128). -/
theorem joinWaiters_perm (w : Waiter) (ws : List Waiter) : (joinWaiters w ws).Perm (w :: ws) := by
  induction ws with
  | nil => exact .refl _
  | cons x xs ih =>
    unfold joinWaiters
    split
    · exact (ih.cons x).trans (.swap w x xs)
    · exact .refl _

/-- What is in the Run Queue after a request has joined (R59). -/
theorem insertRequest_perm (q : RunRequest) (qs : List RunRequest) : (insertRequest q qs).Perm (q :: qs) := by
  induction qs with
  | nil => exact .refl _
  | cons x xs ih =>
    unfold insertRequest
    split
    · exact (ih.cons x).trans (.swap q x xs)
    · exact .refl _

/-- The Run Queue hands its head to an IDLE engine, or does nothing (R60). -/
theorem State.takeHead_cases (s : State) :
    (s.takeHead = (s, []) ∧ (s.runQueue = [] ∨ s.idleEngine = none))
    ∨ ∃ q rest e, s.runQueue = q :: rest ∧ s.idleEngine = some e ∧ s.takeHead.2 = [.commitBegin e]
        ∧ s.takeHead.1 =
          ({ s with runQueue := rest }.setPlan q.plan
            { s.plan q.plan with runStatus := .running, runNumber := (s.plan q.plan).runNumber + 1 }).setEngine e
            { s.engine e with state := .starting s.timeBase, run := some (q.run ((s.plan q.plan).runNumber + 1)) } := by
  unfold State.takeHead
  split
  · next q rest e hq he => exact .inr ⟨q, rest, e, hq, he, rfl, rfl⟩
  · next h =>
    refine .inl ⟨rfl, ?_⟩
    cases hq : s.runQueue with
    | nil => exact .inl rfl
    | cons q rest =>
      cases he : s.idleEngine with
      | none => exact .inr rfl
      | some e => exact (h q rest e hq he).elim

/-- Handing out is what every take by an IDLE engine keeps (R60). -/
theorem State.handOut_keeps {P : State → Prop} (keeps : ∀ s, P s → P s.takeHead.1) {s : State} (h : P s) :
    P s.handOut.1 := by
  have all : ∀ (l : List (Fin 4)) (x : State × List Act), P x.1 →
      P (l.foldl (fun x _ => (x.1.takeHead.1, x.2 ++ x.1.takeHead.2)) x).1 := fun l => by
    induction l with
    | nil => exact fun _ h => h
    | cons _ l ih => exact fun x h => ih _ (keeps _ h)
  exact all _ _ h

/-- With nobody waiting, the Run Queue hands out nothing. -/
theorem State.handOut_empty {s : State} (h : s.runQueue = []) : s.handOut = (s, []) := by
  simp [State.handOut, State.takeHead, h, List.finRange]

/-! ## Commits -/

/-- A commit is placed, or dropped under DISCARD, or joins the stall list (R9, R12). -/
theorem State.commit_cases (s : State) (k e : Fin 4) (rec : Record) (sealOnEnd : Bool) :
    ((s.place k rec sealOnEnd).2 = true ∧ s.commit k e rec sealOnEnd = ((s.place k rec sealOnEnd).1, .placed))
    ∨ ((s.place k rec sealOnEnd).2 = false
        ∧ ((s.commit k e rec sealOnEnd).2 = .dropped ∨ (s.commit k e rec sealOnEnd).2 = .stalled)) := by
  unfold State.commit
  cases h : (s.place k rec sealOnEnd).2 with
  | true => simp [h]
  | false =>
    refine .inr ⟨rfl, ?_⟩
    simp only [h]
    split
    · simp_all
    · split
      · exact .inl rfl
      · split
        · exact .inl rfl
        · exact .inr rfl

/-- Appending a record writes its words after those used in the segment, and updates the segment's descriptor. -/
theorem State.appendRecord_mem (s : State) (k : Fin 4) (r : Ring) (i : Nat) (rec : Record) :
    (s.appendRecord k r i rec).mem = Memory.writeWords s.mem (r.segBase i + (r.seg i).wordsUsed) rec.words := rfl

end Sys2Proof.Machine
end

