-- ==== Sys2Proof/Laws/Memory.lean ====
section
/-! SUPPORT. Capture memory: every operation keeps the canonical form, a read after a write gives the value written, and
a write leaves every other byte alone. -/

namespace Sys2Proof.Machine

/-! ## The canonical form -/

theorem Memory.wfFrom_weaken {lo lo' : Nat} {m : List Host.Cell} (h : Memory.wfFrom lo m = true) (hl : lo' ≤ lo) :
    Memory.wfFrom lo' m = true := by
  cases m with
  | nil => rfl
  | cons c m =>
    simp only [Memory.wfFrom, Bool.and_eq_true, decide_eq_true_eq] at h ⊢
    exact ⟨⟨by omega, h.1.2⟩, h.2⟩

theorem Memory.writeByte_wfFrom {lo : Nat} {m : List Host.Cell} (a : Nat) (v : Byte) (h : Memory.wfFrom lo m = true)
    (ha : lo ≤ a) : Memory.wfFrom lo (Memory.writeByte m a v) = true := by
  induction m generalizing lo with
  | nil =>
    unfold Memory.writeByte
    split
    · rfl
    · simp [Memory.wfFrom, *]
  | cons c m ih =>
    obtain ⟨b, w⟩ := c
    simp only [Memory.wfFrom, Bool.and_eq_true, decide_eq_true_eq] at h
    unfold Memory.writeByte
    split
    · split
      · simp [Memory.wfFrom, h]
      · simp only [Memory.wfFrom, Bool.and_eq_true, decide_eq_true_eq]
        exact ⟨⟨ha, by simpa using ‹¬v = _›⟩, ⟨by omega, h.1.2⟩, h.2⟩
    · split
      · split
        · exact Memory.wfFrom_weaken h.2 (by omega)
        · simp only [Memory.wfFrom, Bool.and_eq_true, decide_eq_true_eq]
          exact ⟨⟨ha, by simpa using ‹¬v = _›⟩, by subst_vars; exact h.2⟩
      · simp only [Memory.wfFrom, Bool.and_eq_true, decide_eq_true_eq]
        exact ⟨h.1, ih h.2 (by omega)⟩

/-- Writing a byte keeps the canonical form. -/
theorem Memory.writeByte_wf {m : List Host.Cell} (a : Nat) (v : Byte) (h : Memory.wf m = true) :
    Memory.wf (Memory.writeByte m a v) = true :=
  Memory.writeByte_wfFrom a v h (Nat.zero_le a)

/-- Writing bytes keeps the canonical form. -/
theorem Memory.writeBytes_wf {m : List Host.Cell} (a : Nat) (vs : List Byte) (h : Memory.wf m = true) :
    Memory.wf (Memory.writeBytes m a vs) = true := by
  induction vs generalizing m a with
  | nil => exact h
  | cons v vs ih => exact ih (a + 1) (Memory.writeByte_wf a v h)

/-- Writing words keeps the canonical form. -/
theorem Memory.writeWords_wf {m : List Host.Cell} (w : Nat) (xs : List Word) (h : Memory.wf m = true) :
    Memory.wf (Memory.writeWords m w xs) = true := by
  induction xs generalizing m w with
  | nil => exact h
  | cons x xs ih => exact ih (w + 1) (Memory.writeBytes_wf _ _ h)

/-! ## Reading after writing -/

theorem Memory.readByte_below {lo a : Nat} {m : List Host.Cell} (h : Memory.wfFrom lo m = true) (ha : a < lo) :
    Memory.readByte m a = Config.unlistedByte := by
  induction m generalizing lo with
  | nil => rfl
  | cons c m ih =>
    obtain ⟨b, w⟩ := c
    simp only [Memory.wfFrom, Bool.and_eq_true, decide_eq_true_eq] at h
    unfold Memory.readByte
    split
    · omega
    · exact ih h.2 (by omega)

theorem Memory.readByte_writeByte_from {lo : Nat} {m : List Host.Cell} (a : Nat) (v : Byte) (b : Nat)
    (h : Memory.wfFrom lo m = true) :
    Memory.readByte (Memory.writeByte m a v) b = if b = a then v else Memory.readByte m b := by
  induction m generalizing lo with
  | nil =>
    unfold Memory.writeByte
    split <;> split <;> simp_all [Memory.readByte]
  | cons c m ih =>
    obtain ⟨k, w⟩ := c
    simp only [Memory.wfFrom, Bool.and_eq_true, decide_eq_true_eq] at h
    unfold Memory.writeByte
    split
    · split
      · split
        · subst_vars
          simp only [Memory.readByte]
          split
          · omega
          · exact Memory.readByte_below h.2 (by omega)
        · rfl
      · simp [Memory.readByte]
    · split
      · subst_vars
        split
        · split
          · subst_vars
            exact Memory.readByte_below h.2 (by omega)
          · simp_all [Memory.readByte]
        · split <;> simp_all [Memory.readByte]
      · simp only [Memory.readByte]
        split
        · split
          · omega
          · rfl
        · exact ih h.2

/-- Reading any byte after a byte has been written. -/
theorem Memory.readByte_writeByte {m : List Host.Cell} (a : Nat) (v : Byte) (b : Nat) (h : Memory.wf m = true) :
    Memory.readByte (Memory.writeByte m a v) b = if b = a then v else Memory.readByte m b :=
  Memory.readByte_writeByte_from a v b h

/-- Writing bytes leaves every byte outside them alone. -/
theorem Memory.readByte_writeBytes_outside {m : List Host.Cell} (a : Nat) (vs : List Byte) (b : Nat)
    (h : Memory.wf m = true) (hb : b < a ∨ a + vs.length ≤ b) :
    Memory.readByte (Memory.writeBytes m a vs) b = Memory.readByte m b := by
  induction vs generalizing m a with
  | nil => rfl
  | cons v vs ih =>
    simp only [List.length_cons] at hb
    rw [Memory.writeBytes, ih (a + 1) (Memory.writeByte_wf a v h) (by omega), Memory.readByte_writeByte a v b h,
      if_neg (by omega)]

end Sys2Proof.Machine
end

