-- ==== Sys2Proof/Tests/Slice0.lean ====
section
/-! SUPPORT. The model's own tests: what can arrive (the WellFormed smoke), the layouts and the examples of the spec, and a
witness for the hypotheses of every statement of Certificates/Slice0/Obligations.lean. -/

namespace Sys2Proof.Tests

open Sys2Proof.Machine

-- Each test in turn: many at once would each hold a thread while they wait for the kernel.
set_option Elab.async false

/-! ## WellFormed -/

def anyStep : EncodedStep := ⟨0x03#8, 0x00#8, 0x00#8, 0#16, 0#24⟩

theorem test_wf_append_none : WellFormed (.appendSteps 1#8 0#8 []) = false := by decide
theorem test_wf_append_one : WellFormed (.appendSteps 1#8 0#8 [anyStep]) = true := by decide
theorem test_wf_append_sixteen : WellFormed (.appendSteps 1#8 0#8 (List.replicate 16 anyStep)) = true := by decide
theorem test_wf_append_seventeen : WellFormed (.appendSteps 1#8 0#8 (List.replicate 17 anyStep)) = false := by decide
theorem test_wf_response_no_start_bit : WellFormed (.probeResponse 0 0x7FFFFFFF#32 false) = false := by decide
theorem test_wf_response : WellFormed (.probeResponse 0 0x80000000#32 false) = true := by decide
/-- No word of spec/opcode_table.json has bits, so none spells a command. -/
theorem test_decode_no_bits : decodeTableWord 8 0 = none := by decide

/-! ## Small states -/

/-- Right after reset, but for a session that is open and the announce frame sent. -/
def s0 : State := { State.reset with link := { State.reset.link with sessionOpen := true, announcePending := false } }

/-- The next state of a command. -/
def go (c : Instr) (s : State) : State :=
  match exec c s with
  | .next t => t
  | .fault _ | .refused _ => s

/-- The newest reply: its kind and body. -/
def lastReply (s : State) : Option (Byte × List Byte) := s.link.replies.getLast?.map fun r => (r.kind, r.body)

/-- The newest notice: its kind, subject and arguments. -/
def lastNotice (s : State) : Option (NoticeKind × Byte × Word × Half) :=
  s.notices.entries.getLast?.map fun n => (n.kind, n.subject, n.argA, n.argB)

def withOutstanding (os : List OutEntry) (s : State) : State := { s with link := { s.link with outstanding := os } }

/-- A segment with `n` words of `c` records. -/
def seg (st : SegState) (seqNo : Word) (n c : Nat) : Segment :=
  { Segment.empty with state := st, seqNo := seqNo, wordsUsed := n, recordCount := c }

/-- Two segments of one block under STALL: the first SEALED as number 0 with 204 words, the second FILLING with 67. -/
def ring0 : Ring :=
  { count := 2, size := 1, policy := .stall, stallLimit := 50, autoRelease := false, base := 0
    segments := [seg .sealed 0#32 204 4, seg .filling 0#32 67 1], nextSeq := 1#32, discardCount := 0
    gapPending := false, fillPos := some 1, stallList := [] }

/-- A plan with these steps, bound to nothing, on ring 0. -/
def plan0 (st : PlanState) (rs : RunStatus) (steps : List PlanStep) : Plan :=
  { Plan.reset with state := st, runStatus := rs, steps := steps }

def run0 : Run := (⟨0, 0, .host, 0#48, 0#48⟩ : RunRequest).run 1#16

def ident : Identity := ⟨0x123#12, 4, true, true⟩

def upPort : Port := { Port.reset false with state := .up, supply := true, identity := some ident }

/-- A port step: READ, port 0, sub-address 0, 3 transfers. -/
def readStep : PortStep := ⟨.read, 0, 0, 3, .retry, false⟩

def txn (who : Option Requester) (fn : TxFn) : Transaction := ⟨who, fn, 0, 0#24, 200, 32, 200⟩

def access (waitLeft : Option Nat) : HostAccess := ⟨6#8, .read, 0, waitLeft⟩

/-- Engine 0 at step 0 of plan 0. -/
def running (st : EngineState) (steps : List PlanStep) (r : Run) : State :=
  ((s0.setPlan 0 (plan0 .armed .running steps)).setEngine 0 ⟨st, some r, []⟩).setRing 0 (some ring0)

/-- Every engine waits. -/
def busy (s : State) : State := { s with engines := Vector.replicate 4 ⟨.waiting 5, some { run0 with plan := 9 }, []⟩ }

def notice (n : Nat) (delivered : Bool) : Notice := ⟨BitVec.ofNat 16 n, .notify, 0#8, 0#48, 0#32, 0#16, delivered⟩

/-! ## Layouts -/

/-- The check value of this CRC (polynomial 1021H, from FFFFH) over the digits 1 to 9. -/
theorem test_crc_check :
    crc [0x31#8, 0x32#8, 0x33#8, 0x34#8, 0x35#8, 0x36#8, 0x37#8, 0x38#8, 0x39#8] = 0x29B1#16 := by decide +kernel

/-- Table 10-15 by hand: kind 1 in bits 31..29, plan 5 in 28..24, step 0, length 6 in 16..10; source CADENCE 0 is 10H. -/
theorem test_run_begin_words :
    (⟨5, 0, 0x0001_0000_0002#48, .runBegin 7#16 (.cadence 0) 3#48⟩ : Record).words
      = [0x25001800#32, 1#32, 2#32, 0x00070010#32, 0#32, 3#32] := by decide

/-- Table 10-19 by hand: READ of sub-address 0 is the start bit alone; IDENTIFY adds the function's two ones. -/
theorem test_request_words :
    requestWord .read 0 0#24 = 0x80000000#32 ∧ requestWord .identify 0 0#24 = 0xE0000000#32
      ∧ requestWord .read 1 0#24 = 0x82000001#32 := by decide

/-- R121: PnDO carries the request word for its 32 µs at 1 Mbit/s, and not while the response timeout runs. -/
theorem test_probe_word_goes_out :
    let s (left : Nat) : State := s0.setPort 0 { upPort with txn := some { txn (some .host) .read with wordLeft := left } }
    (s 1).probeWord 0 = some 0x80000000#32 ∧ (s 0).probeWord 0 = none := by decide +kernel

/-- R124: even parity and each status; odd parity is garbled. -/
theorem test_judge :
    judge 0x80000000#32 = .data ∧ judge 0xA0000001#32 = .busy ∧ judge 0xA0000010#32 = .busy
      ∧ judge 0xC0000010#32 = .reject ∧ judge 0xE0000000#32 = .silent ∧ judge 0xA0000000#32 = .silent := by decide

/-! ## The examples of the spec -/

/-- Section 1.5's example: 204 + 67 words do not fit, so the segment is sealed FULL as number 0 with 204 words. -/
theorem test_placement_seals_full :
    ((({ ring0 with segments := [seg .filling 0#32 204 4, .empty], nextSeq := 0#32, fillPos := some 0 } |>
        fun r => (s0.setRing 0 (some r)).commit 0 0 ⟨0, 0, 9#48, .samples (List.replicate 64 (.data 0#24))⟩ false).1.ring
          0).map fun r => r.segments.map fun g => (g.state, g.seqNo, g.wordsUsed, g.recordCount))
      = some [(.sealed, 0#32, 204, 4), (.filling, 0#32, 67, 1)] := by decide +kernel

/-- Section 2.4's example: no free step left is NO_SPACE(POOL_EMPTY), an invalid second step BAD_VALUE, position 1. -/
theorem test_append_pool_empty :
    lastReply (go (.appendSteps 5#8 7#8 [anyStep, anyStep])
      { s0.setPlan 7 (plan0 .opened .idle [.stamp, .stamp, .stamp, .stamp]) with poolFree := 0 })
      = some (0xA1#8, [0x14#8, 0x02#8]) := by decide +kernel

theorem test_append_second_invalid :
    lastReply (go (.appendSteps 5#8 7#8 [anyStep, ⟨0x00#8, 0x00#8, 0x00#8, 0#16, 0#24⟩])
      { s0.setPlan 7 (plan0 .opened .idle []) with poolFree := 10 }) = some (0xA1#8, [0x10#8, 0x01#8]) := by decide +kernel

/-- Section 3.2's example: the accepted edge starts 500 µs of holdoff, and the next one within it is ignored. -/
theorem test_holdoff :
    let s := s0.setInput 2 { enabled := true, edge := .rising, holdoff := 500, timer := none }
    ((go (.trgEdge 2 true) s).input 2).timer = some 500
      ∧ ((go (.trgEdge 2 true) (s.setInput 2 { s.input 2 with timer := some 493 })).input 2).timer = some 493 := by
  decide +kernel

/-- Section 3.5's example: plan 20 joins behind plan 9 of its priority, ahead of plans 4 and 12. -/
theorem test_queue_order :
    (insertRequest ⟨20, 3, .host, 190#48, 190#48⟩
      [⟨9, 3, .host, 150#48, 150#48⟩, ⟨4, 1, .host, 100#48, 100#48⟩, ⟨12, 1, .host, 140#48, 140#48⟩]).map (·.plan)
      = [9, 20, 4, 12] := by decide

/-- Section 6.1's example: 32 µs for the request word at 1 Mbit/s, then 200 µs; 4 µs at 8 Mbit/s. -/
theorem test_transaction_times :
    ((upPort.startOrdinary .host .read 0).txn.map fun t => (t.wordLeft, t.left)) = some (32, 200)
      ∧ Rate.r8.wordTime = 4 := by decide

/-- Section 9.4's example: the first frame carries 40 to 47 and spends one of two credits. -/
theorem test_push_frame :
    let s := { s0 with notices :=
      { entries := (List.range 10).map fun i => notice (40 + i) false, nextNo := 50#16, heldLost := 0, mode := .push
        credits := 2 } }
    ((go .transmitterTake s).notices.credits, ((go .transmitterTake s).notices.undelivered.map (·.number)))
      = (1, [48#16, 49#16]) := by decide +kernel

/-- Section 10.3's example: with 4 requests outstanding, READ-TIME is refused WINDOW_FULL, a known tag TAG_IN_USE. -/
theorem test_window :
    let s := withOutstanding [⟨5#8, 0x50#8, .withOwner⟩, ⟨6#8, 0x38#8, .withOwner⟩, ⟨7#8, 0x42#8, .withOwner⟩,
      ⟨8#8, 0x41#8, .placed⟩] s0
    lastReply (go (.readTime 9#8) s) = some (0xB1#8, [0x04#8, 0x00#8])
      ∧ lastReply (go (.setTime 6#8 0#48) s) = some (0xB0#8, [0x03#8, 0x00#8]) := by decide +kernel

/-! ## One command each -/

theorem test_identify : lastReply (go (.identify 1#8) State.reset)
    = some (0x83#8, [0x00#8, 0x10#8, 0x18#8, 0x03#8, 0x08#8, 0x04#8, 0x20#8, 0x04#8, 0x00#8, 0x04#8, 0x04#8, 0x00#8,
        0x01#8, 0x00#8, 0x04#8, 0x00#8, 0x00#8]) := by decide +kernel
theorem test_no_session : lastReply (go (.readTime 1#8) State.reset) = some (0xB1#8, [0x02#8, 0x00#8]) := by
  decide +kernel
theorem test_define_ring_too_large :
    lastReply (go (.defineRing 1#8 0#8 16#8 65#8 0#8 1#16 0#8) s0) = some (0x90#8, [0x10#8, 0x00#8]) := by decide +kernel
theorem test_define_ring : lastReply (go (.defineRing 1#8 1#8 2#8 1#8 0#8 1#16 0#8) (s0.setRing 0 (some ring0)))
    = some (0x90#8, [0x00#8, 0x00#8, 0x02#8]) := by decide +kernel
theorem test_seal_ring : lastNotice (go (.sealRing 1#8 0#8) (s0.setRing 0 (some ring0)))
    = some (.segmentSealed, 0#8, 1#32, 67#16) := by decide +kernel
theorem test_fire_takes_an_engine :
    (go (.fire 1#8 0#8) ((s0.setPlan 0 (plan0 .armed .idle [.wait 7])).setRing 0 (some ring0))).engines[0].state
      = .waiting 7 := by decide +kernel
theorem test_wait_expiry_notifies :
    lastNotice (go (.waitExpiry 0) (running (.waiting 0) [.wait 7, .notify 0x2A#8, .wait 1] run0))
      = some (.notify, 0#8, 0#32, 0x002A#16) := by decide +kernel
theorem test_last_step_ends : lastNotice (go (.waitExpiry 0) (running (.waiting 0) [.wait 7] run0))
    = some (.runDone, 0#8, 0#32, 1#16) := by decide +kernel
theorem test_power_on : (go (.portPowerOn 1#8 3#8) s0).ports[3].phase = some 20000 := by decide +kernel
theorem test_overcurrent : lastNotice (go (.overcurrent 2 true) (s0.setPort 2 upPort))
    = some (.portState, 2#8, 0#32, 0x0801#16) := by decide +kernel
theorem test_profile_bad_position :
    lastReply (go (.setProfile 1#8 0#8 0xFF#8 1#8 20#8 5#8 0#8 24#8 0#8 8#8 0#8) s0) = some (0xC8#8, [0x10#8, 0x04#8]) := by
  decide +kernel
theorem test_announce : (go .transmitterTake State.reset).link.transmitter.map (fun f => f.bytes.take 9)
    = some [0xA5#8, 0x07#8, 0x00#8, 0xF8#8, 0x10#8, 0x18#8, 0x03#8, 0x00#8, 0x00#8] := by decide +kernel
theorem test_clear_queued : lastNotice (go (.clearAcquisition 1#8)
      { s0.setPlan 3 (plan0 .armed .queued [.stamp]) with runQueue := [⟨3, 0, .host, 0#48, 0#48⟩] })
    = some (.runAborted, 3#8, 0#32, 0x03FF#16) := by decide +kernel
theorem test_tick : (match step s0 with | .next t => t.timeBase | _ => 0#48) = 1#48 := by decide +kernel

/-! ## Witnesses: each statement's hypotheses are met together -/

/-- A ring, an armed plan with a run on engine 0, an UP port, and a notice waiting. -/
def s1 : State := (running (.waiting 3) [.wait 7, .wait 8] run0).setPort 0 upPort

theorem witness_IdleStepCountsOneMicrosecond : s1.pending = [] ∧ s1.inReset = false := by decide +kernel
/-- `s1` while a frame is going out. -/
def outgoing (s : State) : State := { s with link := { s.link with transmitter := some ⟨[0xA5#8], .other⟩ } }
/-- Timers run and none is due; the transmitter SENDING, or IDLE with nothing to take. -/
theorem witness_IdleStepWithNothingDue :
    let s : State := (s1.setInput 0 ⟨true, .rising, 9, some 2⟩).setPort 6
      { upPort with txn := some { txn (some .host) .read with wordLeft := 1, left := 1 } }
    s.pending = [] ∧ s.inReset = false ∧ (∀ e, ¬ ∃ n, (s.engine e).state = .starting n) ∧ s.due = []
      ∧ (outgoing s).link.transmitter.isSome = true ∧ s.link.rejects = [] ∧ s.link.announcePending = false
      ∧ s.link.replies = [] ∧ s.notices.offering = false ∧ s.nextStream = none := by
  refine ⟨by decide +kernel, by decide +kernel, ?_, by decide +kernel⟩
  rintro e ⟨n, h⟩
  have : ∀ e : Fin 4, (s1.engine e).state = .waiting 3 ∨ (s1.engine e).state = .idle := by decide +kernel
  rcases this e with g | g <;> exact absurd (g.symm.trans h) (by simp)
/-- A frame is going out, no engine is STARTING, and only `c` is due. -/
def endsIn (s : State) (c : Instr) : Bool :=
  let t := outgoing s
  decide (t.due = [c]) && t.pending.isEmpty && !t.inReset && t.link.transmitter.isSome && t.startingActs.isEmpty
/-- One timer at its last microsecond, of each kind. -/
theorem witness_OneTimerEnds :
    let at' (q : Port) (st : PortState) (n : Nat) : State := s0.setPort 7 { q with state := st, attempts := n, phase := some 1 }
    let last (who : Requester) : Transaction := { txn (some who) .read with wordLeft := 0, left := 1 }
    s0.Unbound (.cadence 3) ∧ s1.Executes 0 run0 (.wait 7) ∧ (s1.plan 0).steps[1]? = some (.wait 8)
      ∧ endsIn (s0.setReceiver (.frame [5#8] 1)) (.gapTimerExpiry) = true
      ∧ endsIn (s0.setInput 3 ⟨true, .rising, 9, some 1⟩) (.holdoffExpiry 3) = true
      ∧ endsIn (s0.setCadence 3 ⟨true, 10, some 1⟩) (.cadenceExpiry 3) = true
      ∧ endsIn (at' upPort .powering 0) (.powerSettleExpiry 7) = true ∧ endsIn (at' upPort .clocking 0) (.clockSettleExpiry 7) = true
      ∧ endsIn (at' upPort .retraining 0) (.retrainSettleExpiry 7) = true
      ∧ endsIn (at' upPort .identifying 2) (.identifySpacingExpiry 7) = true
      ∧ endsIn (at' upPort .stopping 0) (.stopClockExpiry 7) = true
      ∧ endsIn (at' { upPort with supply := false } .stopping 0) (.dischargeExpiry 7) = true
      ∧ endsIn (s0.setPort 7 { upPort with quiet := some 1 }) (.quietPeriodEnd 7) = true
      ∧ endsIn (s0.setPort 7 { upPort with access := some (access (some 1)) }) (.hostWaitLimitExpiry 7) = true
      ∧ endsIn (s0.setPort 7 { upPort with holder := some .host, txn := some (last .host) }) (.responseTimeout 7) = true
      ∧ endsIn (running (.spacing 1) [.port readStep] run0) (.spacingExpiry 0) = true
      ∧ endsIn (running (.waiting 1) [.wait 7, .wait 8] run0) (.waitExpiry 0) = true
      ∧ endsIn ((running (.stalled .stamp) [.stamp] run0).setRing 0
          (some { ring0 with stallList := [⟨0, ⟨0, 0, 4#48, .stamp⟩, false, 1⟩] })) (.stallTimerExpiry 0) = true := by
  decide +kernel
/-- A receiver in FRAME, one byte short of a SET-TIME frame. -/
def settingTime : State := s0.setReceiver (.frame ((frameBytes 5#8 0x30#8 (bytesBE 6 9)).drop 1).dropLast 7)
theorem witness_OnlySetTimeAndResetsMoveTheTimeBase :
    s1.link.receiver.sound = true ∧ settingTime.link.receiver.sound = true
      ∧ (go (.rxdByte ((frameBytes 5#8 0x30#8 (bytesBE 6 9)).getD 11 0#8) true) settingTime).timeBase = 9#48 := by
  decide +kernel
theorem witness_steps : ∃ t, step s1 = .next t := ⟨_, rfl⟩
theorem witness_StepsKeepMemoryCanonical : Memory.wf [(5, 3#8), (9, 1#8)] = true ∧ Memory.wf s1.mem = true := by decide +kernel
theorem witness_StepsKeepPortsSound : s1.PortsSound := by decide +kernel
theorem witness_StepsKeepNoticesSound : s1.notices.Sound := by decide +kernel
theorem witness_StepsKeepLinkSound : ({ s1.link with receiver := .frame [2#8, 1#8, 3#8, 0#8] 9 } : Link).Sound := by
  decide +kernel
theorem witness_StepsKeepPlansSound : ({ s1 with poolFree := 1022 } : State).PlansSound := by decide +kernel
theorem witness_StepsKeepTheRunQueueServed :
    ({ busy s1 with runQueue := [⟨4, 3, .host, 1#48, 1#48⟩, ⟨5, 3, .host, 2#48, 2#48⟩] } : State).QueueSound := by
  decide +kernel
theorem witness_StepsKeepRingsSound : s1.RingsSound := by decide +kernel
/-- Bytes 0 to 2047 are in ring 0's two blocks; byte 2048 is the first outside them. -/
theorem witness_StepsWriteOnlyInsideRings :
    s1.RingsSound ∧ Memory.wf s1.mem = true ∧ s1.endsInReset = false ∧ s1.pending = [] ∧ s1.HeldByRing 2047
      ∧ ¬ s1.HeldByRing 2048 :=
  ⟨witness_StepsKeepRingsSound, by decide +kernel, by decide +kernel, rfl, by decide +kernel, by decide +kernel⟩

theorem witness_FrameBytesAreTheirRequest :
    (Instr.appendSteps 5#8 0#8 (List.replicate 16 anyStep)).request.isSome = true
      ∧ WellFormed (.appendSteps 5#8 0#8 (List.replicate 16 anyStep)) = true ∧ s1.inReset = false
      ∧ s1.link.resetPending = false ∧ s1.link.receiver = .hunt := by decide +kernel

/-- One request for each refusal, and the two states in which none is heard. -/
theorem witness_AdmissionChecksInOrder :
    (Instr.readTime 0#8).request = some ⟨0#8, 0x31#8, []⟩ ∧ s0.inReset = false ∧ s0.link.resetPending = false
      ∧ State.reset.link.sessionOpen = false
      ∧ (∃ o ∈ (withOutstanding [⟨5#8, 0x42#8, .withOwner⟩] s0).link.outstanding, o.tag = 5#8)
      ∧ 4 ≤ (withOutstanding (List.replicate 4 ⟨5#8, 0x42#8, .withOwner⟩) s0).link.outstanding.length
      ∧ WellFormed (.appendSteps 1#8 0#8 []) = false ∧ WellFormed (.appendSteps 1#8 0#8 (List.replicate 17 anyStep)) = false
      ∧ (State.reset.heldInReset 0#2).inReset = true
      ∧ (go (.resetDevice 1#8) s0).link.resetPending = true := by decide +kernel

/-- HUNT, FRAME before LEN with LEN 1 and 251, and FRAME with and without its TAG. -/
theorem witness_ReceiverTakesAndRejectsFrames :
    s0.inReset = false ∧ s0.link.resetPending = false ∧ s0.link.receiver = .hunt ∧ (0x5A#8 : Byte) ≠ 0xA5#8
      ∧ (s0.setReceiver (.frame [] 2000)).link.receiver = .frame [] 2000 ∧ (1#8).toNat < 2 ∧ 250 < (251#8).toNat
      ∧ (s0.setReceiver (.frame [2#8, 5#8] 1)).link.receiver = .frame [2#8, 5#8] 1 := by decide +kernel
/-- IDENTIFY under a CRC of zeros; kinds 06H and FFH, which Table 10-12 lacks; OPEN-SESSION with a
byte of body, and APPEND-STEPS one byte short and one step too long. -/
theorem witness_CompleteFramesRefused :
    let heard (kind : Byte) (body : List Byte) : State := s0.setReceiver (.frame ((frameBytes 5#8 kind body).drop 1).dropLast 7)
    crc [2#8, 5#8, 3#8] ≠ 0#8 ++ 0#8
      ∧ (heard 0x06#8 []).Hears 5#8 ∧ (heard 0x06#8 []).refusals.length < 4
      ∧ (heard 0x06#8 []).link.receiver = .frame ([2#8, 5#8, 6#8] ++ ((frameBytes 5#8 6#8 []).drop 4).dropLast) 7
      ∧ 0xA5#8 :: ([2#8, 5#8, 6#8] ++ ((frameBytes 5#8 6#8 []).drop 4).dropLast ++ [(frameBytes 5#8 6#8 []).getD 5 0#8])
          = frameBytes 5#8 6#8 []
      ∧ (∀ x ∈ bodyLengths, x.1 ≠ 0x06#8) ∧ (∀ x ∈ bodyLengths, x.1 ≠ 0xFF#8) ∧ s0.link.sessionOpen = true
      ∧ (0x01#8, [0]) ∈ bodyLengths ∧ 1 ∉ [0]
      ∧ (∃ x ∈ bodyLengths, x.1 = 0x21#8 ∧ 8 ∉ x.2 ∧ 9 ∈ x.2 ∧ 129 ∈ x.2 ∧ 137 ∉ x.2) := by decide +kernel

def stream0 : Stream := ⟨5#8, 0, 0, 0#32, 204, 4, 1⟩
def readingRing : Ring := { ring0 with segments := [seg (.reading true) 0#32 204 4, seg .filling 0#32 67 1] }
def streaming : State := { withOutstanding [⟨5#8, 0x50#8, .withOwner⟩] (s0.setRing 0 (some readingRing)) with
  streams := [stream0]
  notices := { s0.notices with entries := [] } }

theorem witness_TransmitterTakesByRankAndFreesTags :
    s0.inReset = false ∧ s0.link.transmitter = none
      ∧ ({ s0.link with rejects := [⟨.crc, 3#8⟩] } : Link).rejects = [⟨.crc, 3#8⟩]
      ∧ State.reset.link.rejects = [] ∧ State.reset.link.announcePending = true
      ∧ s0.link.rejects = [] ∧ s0.link.announcePending = false ∧ (go (.readTime 1#8) s0).link.replies ≠ []
      ∧ s0.link.replies = [] ∧ ({ s0.notices with mode := .push, credits := 1 } : NoticeQueue).offering = true := by
  decide +kernel
theorem witness_TransmitterTakesADataFrame :
    streaming.inReset = false ∧ streaming.link.transmitter = none ∧ streaming.link.rejects = []
      ∧ streaming.link.announcePending = false ∧ streaming.link.replies = [] ∧ streaming.notices.offering = false
      ∧ streaming.nextStream = some stream0 ∧ stream0.nextChunk + 1 < stream0.frameCount
      ∧ streaming.ring stream0.ring = some readingRing := by decide +kernel
theorem witness_StreamsInRotation :
    let other : Stream := { stream0 with tag := 7#8, ring := 1 }
    let s : State := { streaming with
      streams := [stream0] ++ other :: [], link := { streaming.link with lastServed := some 7#8 } }
    s.link.lastServed = some other.tag ∧ (∀ y ∈ [stream0], y.tag ≠ other.tag) ∧ s.nextStream = some stream0
      ∧ streaming.link.lastServed = none := by decide +kernel
def sending : State := go .transmitterTake (go (.readTime 1#8) s0)
/-- The last chunk of the stream is due, on a ring like this. -/
def lastChunk (r : Ring) : State := { streaming.setRing 0 (some r) with streams := [{ stream0 with nextChunk := 3 }] }
theorem witness_LastDataFrameEndsTheStream :
    let auto : Ring := { readingRing with autoRelease := true }
    let waking : Ring := { auto with
      segments := [seg (.reading false) 0#32 204 4, seg .sealed 1#32 256 4], stallList := [⟨0, ⟨0, 0, 4#48, .stamp⟩, false, 9⟩] }
    let s := ((lastChunk waking).setPlan 0 (plan0 .armed .running [.stamp, .wait 3])).setEngine 0 ⟨.stalled .stamp, some run0, []⟩
    (lastChunk readingRing).nextStream = some { stream0 with nextChunk := 3 } ∧ 3 + 1 = stream0.frameCount
      ∧ (lastChunk readingRing).inReset = false ∧ (lastChunk readingRing).link.transmitter = none
      ∧ (lastChunk readingRing).notices.offering = false ∧ (lastChunk readingRing).link.replies = []
      ∧ readingRing.autoRelease = false ∧ (lastChunk auto).ring 0 = some auto ∧ auto.stallList = []
      ∧ s.nextStream = some { stream0 with nextChunk := 3 } ∧ s.ring 0 = some waking ∧ waking.filling = none
      ∧ waking.awaited = 0 ∧ 0 < waking.segments.length ∧ (s.engine 0).state = .stalled .stamp
      ∧ s.Executes 0 run0 .stamp ∧ (s.plan 0).steps[1]? = some (.wait 3) := by decide +kernel
theorem witness_FrameEndTakesTheNext :
    (go .transmitterTake State.reset).link.transmitter.map (·.what) = some .other
      ∧ (go .transmitterTake State.reset).endsInReset = false ∧ sending.endsInReset = false := by decide +kernel
theorem witness_FrameEndFreesTheTag :
    sending.inReset = false ∧ sending.link.resetPending = false
      ∧ sending.link.transmitter.map (·.what) = some (.finalReply 1#8) ∧ sending.link.rejects = []
      ∧ sending.link.announcePending = false ∧ sending.link.replies = [] ∧ sending.notices.offering = false
      ∧ sending.streams = [] ∧ sending.clear = none := by decide +kernel

theorem witness_PinResetStartsAfresh :
    (go (.resetAsserted 3#2) s1).inReset = true ∧ s1.inReset = false := by decide +kernel
def resetReplySent : State := go .transmitterTake (go (.resetDevice 1#8) s0)
theorem witness_ResetDeviceResetsAfterItsReply :
    s0.Hears 1#8 ∧ State.reset.Hears 255#8 ∧ resetReplySent.inReset = false ∧ resetReplySent.link.resetPending = true
      ∧ resetReplySent.link.transmitter.map (·.what) = some (.finalReply 1#8)
      ∧ (∃ o ∈ resetReplySent.link.outstanding, o.tag = 1#8 ∧ o.kind = 0x05#8) := by decide +kernel
theorem witness_SessionOpensAndCloses :
    State.reset.Hears 1#8 ∧ State.reset.link.outstanding = [] ∧ streaming.Hears 1#8 ∧ streaming.link.outstanding ≠ []
      ∧ streaming.Accepts 1#8 ∧ stream0 ∈ streaming.streams ∧ streaming.ring 0 = some readingRing
      ∧ 0 < readingRing.segments.length ∧ (readingRing.seg 0).state = .reading true := by decide +kernel
theorem witness_SessionClosesOverPorts :
    let s := s0.setPort 7 { upPort with access := some (access (some 5)), waiters := [⟨.host, 4⟩, ⟨.engine 0, 2⟩] }
    s.Accepts 1#8 ∧ (s.port 7).access = some (access (some 5)) ∧ (access (some 5)).waitLeft.isSome = true
      ∧ (s.port 0).access = none ∧ (access none).waitLeft = none := by decide +kernel
theorem witness_IdentifyNamesThePart : State.reset.Hears 1#8 ∧ s0.Hears 255#8 := by decide +kernel
theorem witness_AbortRequestByItsTarget :
    s0.Accepts 1#8 ∧ (∀ o ∈ s0.link.outstanding, o.tag ≠ 9#8) ∧ (9#8 : Byte) ≠ 1#8
      ∧ streaming.link.outstanding.find? (fun x => x.tag == 5#8) = some ⟨5#8, 0x50#8, .withOwner⟩
      ∧ (withOutstanding [⟨5#8, 0x38#8, .withOwner⟩] s0).Accepts 1#8
      ∧ (withOutstanding [⟨5#8, 0x42#8, .placed⟩] s0).Accepts 1#8 := by decide +kernel
theorem witness_AbortRequestEndsAStream :
    streaming.Accepts 1#8 ∧ streaming.streams = [stream0] ∧ streaming.link.outstanding = [⟨5#8, 0x50#8, .withOwner⟩]
      ∧ streaming.ring 0 = some readingRing ∧ (readingRing.seg 0).state = .reading true
      ∧ streaming.link.lastServed ≠ some 5#8 := by decide +kernel
/-- Tag 6 names the access of port 7, waiting or granted. -/
theorem witness_AbortRequestOfAnAccess :
    let s (w : Option Nat) := withOutstanding [⟨6#8, 0x42#8, .withOwner⟩] (s0.setPort 7 { upPort with access := some (access w) })
    (s none).Accepts 1#8 ∧ (s none).link.outstanding.find? (fun x => x.tag == 6#8) = some ⟨6#8, 0x42#8, .withOwner⟩
      ∧ (∀ st ∈ (s none).streams, st.tag ≠ 6#8) ∧ ((s none).port 7).access = some (access none)
      ∧ (access none).tag = 6#8 ∧ (access none).waitLeft = none
      ∧ (∀ q : Fin 8, q < 7 → ((s none).port q).access = none)
      ∧ (s (some 1)).Accepts 1#8 ∧ ((s (some 1)).port 7).access = some (access (some 1))
      ∧ (access (some 1)).waitLeft.isSome = true := by decide +kernel
/-- The second of three streams, the one served last. -/
theorem witness_AbortRequestOfOneStreamAmongSeveral :
    let other (tag : Byte) : Stream := { stream0 with tag := tag, ring := 1 }
    let s : State := { streaming with
      streams := [other 7#8] ++ stream0 :: [other 8#8], link := { streaming.link with lastServed := some 5#8 } }
    s.Accepts 1#8 ∧ (∀ x ∈ [other 7#8] ++ [other 8#8], x.tag ≠ stream0.tag)
      ∧ s.link.outstanding.find? (fun x => x.tag == stream0.tag) = some ⟨5#8, 0x50#8, .withOwner⟩
      ∧ s.ring stream0.ring = some readingRing ∧ (readingRing.seg stream0.segment).state = .reading true
      ∧ s.link.lastServed = some stream0.tag := by decide +kernel
/-- The first number out of each range, and an undefined ring. -/
theorem witness_NumbersOutOfRangeAreBadValues :
    s0.Accepts 1#8 ∧ 4 ≤ (4#8).toNat ∧ 32 ≤ (32#8).toNat ∧ 8 ≤ (8#8).toNat ∧ s0.ring 3 = none
      ∧ (Instr.sealRing 1#8 4#8, 0x12#8) ∈ [(Instr.deleteRing 1#8 4#8, 0x11#8), (.sealRing 1#8 4#8, 0x12#8)] := by
  decide +kernel
/-- The first value out of each range: of DEFINE-RING, OPEN-PLAN, PROBE-ACCESS, READ-SEGMENT and TAKE-NOTICES; a ring and
a plan that are not there; a ring with nothing SEALED, and a number no segment carries. -/
theorem witness_FieldsOutOfRange :
    s0.Accepts 1#8 ∧ (1#8).toNat < 2 ∧ 16 < (17#8).toNat ∧ (0#8).toNat < 1 ∧ 64 < (65#8).toNat ∧ 1 < (2#8).toNat
      ∧ 4 ≤ (4#8).toNat ∧ 4 < (5#8).toNat ∧ 8 ≤ (8#8).toNat ∧ 32 ≤ (32#8).toNat ∧ 2 < (3#8).toNat ∧ 16 ≤ (16#8).toNat
      ∧ (0#8).toNat = 0 ∧ 8 < (9#8).toNat ∧ s0.ring 3 = none ∧ (s0.plan 31).state ≠ .opened
      ∧ ({ ring0 with segments := [.empty, seg .read 0#32 9 1] } : Ring).oldestSealed = none
      ∧ ring0.find 7#32 = none := by decide +kernel

theorem witness_FirstFitIsTheLowestFreeRange :
    s1.RingsSound ∧ s1.firstFit 1022 = some 2 ∧ s1.firstFit 1023 = none := by decide +kernel
theorem witness_RingsAreDefinedAndDeleted :
    s1.Accepts 1#8 ∧ 2 ≤ (2#8).toNat ∧ (16#8).toNat ≤ 16 ∧ (64#8).toNat ≤ 64 ∧ (s1.ring 0).isSome = true
      ∧ s1.ring 1 = none ∧ s1.firstFit (16 * 64) = none ∧ s1.firstFit (2 * 1) = some 2
      ∧ (s0.setRing 0 (some ring0)).Accepts 1#8
      ∧ (∀ p : Fin 32, ((s0.setRing 0 (some ring0)).plan p).attrs.ring = 0 →
          ((s0.setRing 0 (some ring0)).plan p).state ≠ .armed ∧ ((s0.setRing 0 (some ring0)).plan p).runStatus = .idle)
      ∧ (∀ g ∈ ring0.segments, ∀ b, g.state ≠ .reading b)
      ∧ (∃ p : Fin 32, (s1.plan p).attrs.ring = 0 ∧ ((s1.plan p).state = .armed ∨ (s1.plan p).runStatus ≠ .idle))
      ∧ (∃ g ∈ readingRing.segments, ∃ b, g.state = .reading b) := by decide +kernel
theorem witness_SegmentsAreSealedAndReleased :
    s1.Accepts 1#8 ∧ s1.HasRoom 0 ring0 1 0 ∧ ring0.find 7#32 = none ∧ readingRing.find 0#32 = some 0
      ∧ (readingRing.seg 0).state = .reading true ∧ ring0.find 0#32 = some 0 ∧ (ring0.seg 0).state = .sealed
      ∧ ring0.stallList = [] := by decide +kernel
theorem witness_RingQueriesReportTheRing :
    s1.Accepts 1#8 ∧ s1.ring 0 = some ring0 ∧ ring0.count ≤ (2#8).toNat ∧ (1#8).toNat < ring0.count
      ∧ ring0.segments.length = ring0.count ∧ ({ ring0 with fillPos := none } : Ring).filling = none := by decide +kernel
def fullRing : Ring :=
  { ring0 with policy := .discard, segments := [seg .sealed 0#32 256 4, seg .sealed 1#32 256 4], nextSeq := 2#32 }
theorem witness_RecordsAreAppendedOrDropped :
    Memory.wf s1.mem = true ∧ (s0.setRing 0 (some fullRing)).ring 0 = some fullRing ∧ fullRing.policy = .discard
      ∧ fullRing.filling = none ∧ (fullRing.seg fullRing.awaited).state ≠ .free := by decide +kernel
/-- 254 words and a STAMP record of 3 do not fit, 253 and 3 do; the next segment is FREE or SEALED. -/
theorem witness_RecordsSealAndStall :
    let stamp : Record := ⟨0, 0, 4#48, .stamp⟩
    let r : Ring := { ring0 with segments := [.empty, seg .filling 0#32 254 4], nextSeq := 0#32 }
    let full : Ring := { ring0 with segments := [seg .sealed 0#32 204 4, seg .filling 0#32 254 4] }
    let none' : Ring := { ring0 with segments := [seg .sealed 0#32 204 4, seg .read 1#32 256 4], nextSeq := 2#32 }
    (s0.setRing 0 (some r)).ring 0 = some r ∧ 1 < r.segments.length ∧ r.fillPos = some 1 ∧ (r.seg 1).state = .filling
      ∧ r.segWords < (r.seg 1).wordsUsed + stamp.length ∧ (1 + 1) % r.count = 0 ∧ (r.seg 0).state = .free
      ∧ full.segWords < (full.seg 1).wordsUsed + stamp.length ∧ (full.seg 0).state ≠ .free ∧ full.policy = .stall
      ∧ none'.filling = none ∧ (none'.seg none'.awaited).state ≠ .free ∧ none'.policy = .stall
      ∧ ({ s0 with rings := s0.rings.set 0 (some { ring0 with segments := [seg .sealed 0#32 204 4, seg .filling 0#32 253 4] })
          } : State).HasRoom 0 { ring0 with segments := [seg .sealed 0#32 204 4, seg .filling 0#32 253 4] } 1 stamp.length := by
  decide +kernel
/-- Under DISCARD a STAMP record that does not fit, the next segment SEALED; and nothing FILLING, the awaited one FREE. -/
theorem witness_RecordsAreDroppedAfterASeal :
    let full : Ring := { ring0 with policy := .discard, segments := [seg .sealed 0#32 204 4, seg .filling 0#32 254 4] }
    let open' : Ring := { ring0 with segments := [.empty, seg .sealed 1#32 256 4] }
    (s0.setRing 0 (some full)).ring 0 = some full ∧ 1 < full.segments.length ∧ full.fillPos = some 1
      ∧ (full.seg 1).state = .filling ∧ full.segWords < (full.seg 1).wordsUsed + 3 ∧ (1 + 1) % full.count = 0
      ∧ (full.seg 0).state ≠ .free ∧ full.policy = .discard
      ∧ (s0.setRing 0 (some open')).ring 0 = some open' ∧ open'.filling = none ∧ open'.awaited < open'.segments.length
      ∧ (open'.seg open'.awaited).state = .free ∧ (⟨0, 127, 4#48, .stamp⟩ : Record).length < 128 := by decide +kernel
def stallEntry : StallEntry := ⟨0, ⟨0, 0, 4#48, .stamp⟩, false, 9⟩
def stalledRing : Ring := { ring0 with segments := [.empty, seg .sealed 0#32 256 4], stallList := [stallEntry] }
def stalled : State :=
  (running (.stalled .stamp) [.stamp, .wait 3] run0).setRing 0 (some stalledRing)
/-- The awaited segment, released, takes the stalled record; number 1 is another segment's. -/
theorem witness_ReleaseWakesTheStallList :
    let r : Ring := { stalledRing with segments := [seg .read 5#32 204 4, seg .sealed 1#32 256 4] }
    let s := stalled.setRing 0 (some r)
    s.Accepts 1#8 ∧ s.ring 0 = some r ∧ r.find 5#32 = some 0 ∧ (r.seg 0).state = .read ∧ r.awaited = 0
      ∧ 0 < r.segments.length ∧ r.filling = none ∧ r.stallList = [stallEntry] ∧ stallEntry.sealOnEnd = false
      ∧ (s.engine 0).state = .stalled .stamp ∧ s.Executes 0 run0 .stamp ∧ (s.plan 0).steps[1]? = some (.wait 3)
      ∧ r.find 1#32 = some 1 ∧ (r.seg 1).state = .sealed ∧ r.awaited ≠ 1 ∧ (r.seg r.awaited).state ≠ .free
      ∧ r.Carries 5#32 0 := by decide +kernel
theorem witness_StallWakePlacesTheHead :
    stalled.inReset = false ∧ stalled.ring 0 = some stalledRing ∧ stalledRing.stallList = [stallEntry]
      ∧ stallEntry.engine = 0 ∧ stallEntry.sealOnEnd = false ∧ stalledRing.filling = none
      ∧ stalledRing.awaited < stalledRing.segments.length ∧ (stalledRing.seg stalledRing.awaited).state = .free
      ∧ (stalled.engine 0).state = .stalled .stamp ∧ stalled.Executes 0 run0 .stamp
      ∧ (stalled.plan 0).steps[1]? = some (.wait 3) := by decide +kernel

def planIs (pl : Plan) : State := s0.setPlan 31 pl
theorem witness_PlansOpenCloseArmAndDelete :
    s0.Accepts 1#8 ∧ (31#8).toNat = ((31 : Fin 32) : Nat) ∧ (attributes? 3#8 3#8 4#8 31#8 1#8 1#8).isSome = true
      ∧ (s0.plan 31).state = .empty ∧ (s0.plan 31).runStatus = .idle
      ∧ ((planIs (plan0 .opened .idle [.stamp])).plan 31).state = .opened
      ∧ ((planIs (plan0 .ready .idle [.stamp])).plan 31).state = .ready ∧ s0.clear = none
      ∧ (s1.ring 0).isSome = true ∧ s0.ring 0 = none
      ∧ ((planIs (plan0 .ready .running [.stamp])).plan 31).runStatus ≠ .idle := by decide +kernel
/-- A full append at 128 steps, one too many, and an empty pool. -/
theorem witness_AppendStepsTakesAllOrNone :
    let full := planIs (plan0 .opened .idle (List.replicate 127 .stamp))
    full.Accepts 1#8 ∧ (full.plan 31).state = .opened ∧ [anyStep].map encodedStep? = [some .stamp]
      ∧ (full.plan 31).steps.length + 1 ≤ 128 ∧ 128 < (full.plan 31).steps.length + 2 ∧ 1 ≤ full.poolFree
      ∧ ({ full with poolFree := 0 } : State).poolFree < 1
      ∧ encodedStep? ⟨0x06#8, 0x00#8, 0x00#8, 1#16, 0#24⟩ = none := by decide +kernel
/-- A READ of port 7 and one of port 8, a busy policy of 3, the greatest code and duration and one more. -/
theorem witness_EncodedSteps :
    encodedStep? ⟨0x00#8, 0x07#8, 0x65#8, 0xFFFF#16, 9#24⟩ = some (.port ⟨.read, 7, 5, 65535, .accept, true⟩)
      ∧ encodedStep? ⟨0x01#8, 0x00#8, 0x9F#8, 1#16, 9#24⟩ = some (.port ⟨.write 9#24, 0, 15, 1, .retry, false⟩)
      ∧ encodedStep? ⟨0x02#8, 0x08#8, 0x00#8, 1#16, 0#24⟩ = none ∧ encodedStep? ⟨0x00#8, 0x00#8, 0x30#8, 1#16, 0#24⟩ = none
      ∧ encodedStep? ⟨0x04#8, 0xFF#8, 0xFF#8, 0#16, 255#24⟩ = some (.notify 0xFF#8)
      ∧ encodedStep? ⟨0x04#8, 0x00#8, 0x00#8, 0#16, 256#24⟩ = none
      ∧ encodedStep? ⟨0x05#8, 0x00#8, 0x00#8, 0#16, 1000000#24⟩ = some (.wait 1000000)
      ∧ encodedStep? ⟨0x05#8, 0x00#8, 0x00#8, 0#16, 1000001#24⟩ = none := by decide +kernel
theorem witness_DisarmAndAbortDealWithTheRun :
    s1.Accepts 1#8 ∧ (s0.plan 0).state ≠ .armed ∧ ((planIs (plan0 .armed .idle [.stamp])).plan 31).runStatus = .idle
      ∧ (s1.plan 0).state = .armed ∧ (s1.plan 0).runStatus = .running
      ∧ ((planIs (plan0 .armed .queued [.stamp])).plan 31).runStatus = .queued := by decide +kernel
theorem witness_AbortRunInTransact :
    let s := running .transact [.port readStep] run0
    s.Accepts 1#8 ∧ (s.plan 0).runStatus = .running ∧ s.engineOf 0 = some 0 ∧ (s.engine 0).run = some run0
      ∧ (s.engine 0).state = .transact ∧ run0.abortCause = none ∧ run0.plan = 0 := by decide +kernel
/-- A run of plan 0 on engine 0 in each state in which it stops at once. -/
theorem witness_AbortRunStopsAtOnce :
    let holding : State := (running (.spacing 1) [.port readStep] run0).setPort 7 { upPort with holder := some (.engine 0) }
    (∀ s ∈ [s1, running (.starting 3#48) [.stamp] run0, running .ending [.stamp] run0, stalled,
        running .awaitPort [.port readStep] run0],
        s.Accepts 1#8 ∧ (s.plan 0).runStatus = .running ∧ s.engineOf 0 = some 0 ∧ (s.engine 0).run = some run0
          ∧ (s.engine 0).abortTags = [] ∧ s.runQueue = [] ∧ s.clear = none ∧ s.heldPort 0 = none)
      ∧ run0.plan = 0 ∧ run0.abortCause = none ∧ holding.Accepts 1#8 ∧ holding.heldPort 0 = some 7
      ∧ (holding.engine 0).state = .spacing 1 ∧ (holding.port 7).state = .up ∧ (holding.port 7).waiters = []
      ∧ (holding.port 7).commitPending = false := by decide +kernel
theorem witness_QueriesReportPlanAndPort :
    s1.Accepts 1#8 ∧ (0#8).toNat = ((0 : Fin 32) : Nat) ∧ (s0.plan 0).runStatus ≠ .running
      ∧ (s1.plan 0).runStatus = .running ∧ s1.engineOf 0 = some 0 ∧ (s1.engine 0).run = some run0
      ∧ (7#8).toNat = ((7 : Fin 8) : Nat) := by decide +kernel
theorem witness_FireQueuesHoldsOrMisses :
    let hold : Plan := { plan0 .armed .running [.stamp] with attrs := { Attributes.zero with overlap := .hold } }
    (s0.plan 31).state ≠ .armed ∧ (busy (planIs (plan0 .armed .idle [.stamp]))).AllBusy
      ∧ (busy (planIs (plan0 .armed .idle [.stamp]))).Accepts 1#8
      ∧ ((planIs hold).plan 31).attrs.overlap = .hold ∧ ((planIs hold).plan 31).held = false
      ∧ ((planIs (plan0 .armed .queued [.stamp])).plan 31).attrs.overlap = .miss
      ∧ (({ hold with held := true, missCount := 65534 } : Plan).missCount < 65535) := by decide +kernel
/-- Engine 1 is the lowest IDLE one; RUN_BEGIN is placed in ring 0, and stalls where no segment is FREE or FILLING. -/
theorem witness_FireIsTakenAtOnce :
    let s := ((s0.setPlan 31 (plan0 .armed .idle [.wait 7])).setRing 0 (some ring0)).setEngine 0
      ⟨.waiting 5, some { run0 with plan := 9 }, []⟩
    let begin' : Record := ⟨31, 0, 0#48, .runBegin 1#16 .host 0#48⟩
    s.Accepts 1#8 ∧ (31#8).toNat = ((31 : Fin 32) : Nat) ∧ (s.plan 31).state = .armed ∧ (s.plan 31).runStatus = .idle
      ∧ s.runQueue = [] ∧ (s.engine 1).state = .idle ∧ (∀ f < (1 : Fin 4), (s.engine f).state ≠ .idle)
      ∧ (s.plan 31).steps[0]? = some (.wait 7) ∧ (s.commit 0 1 begin' false).2 ≠ .stalled
      ∧ ((s.setRing 0 (some { ring0 with segments := [seg .sealed 0#32 204 4, seg .sealed 1#32 256 4] })).commit 0 1 begin'
          false).2 = .stalled := by decide +kernel
theorem witness_QueuesAreJoinedInOrder :
    [(⟨1, 3, .host, 5#48, 5#48⟩ : RunRequest), ⟨2, 1, .host, 1#48, 1#48⟩, ⟨3, 1, .host, 2#48, 2#48⟩].Pairwise
        (fun a b => b.priority < a.priority ∨ (a.priority = b.priority ∧ a.queueTime ≤ b.queueTime))
      ∧ [(⟨.host, 4⟩ : Waiter), ⟨.engine 1, 2⟩, ⟨.engine 0, 2⟩].Pairwise (fun a b => b.rank ≤ a.rank) := by decide +kernel
theorem witness_FiringReachesEveryBoundPlan :
    let s := busy ((((s0.setInput 3 ⟨true, .rising, 0, none⟩).setCadence 0 ⟨true, 10, some 1⟩).setPort 7 upPort).setPlan 31
      { plan0 .armed .idle [.stamp] with attrs := { Attributes.zero with binding := .ext 3 } })
    s.inReset = false ∧ s.AllBusy ∧ (s.input 3).accepts true = true ∧ (s.cadence 0).countdown.isSome = true
      ∧ (s.port 7).heedsAttention = true ∧ (s.plan 31).attrs.binding.source = some (.ext 3)
      ∧ (s.plan 31).state = .armed ∧ (s.plan 31).runStatus = .idle := by decide +kernel
/-- Plan 0 ends its run on engine 0, the other engines wait; plan 31 is bound to its DONE, plan 5 waits in the queue. -/
theorem witness_FiringOfDone :
    let s : State := { busy s0 with runQueue := [⟨5, 3, .host, 0#48, 0#48⟩] }
    let s := ((s.setPlan 0 (plan0 .armed .running [.wait 7])).setEngine 0 ⟨.waiting 0, some run0, []⟩).setRing 0 (some ring0)
    let s := (s.setPlan 5 (plan0 .armed .queued [.wait 9])).setPlan 31
      { plan0 .armed .idle [.stamp] with attrs := { Attributes.zero with binding := .done 0, priority := 3 } }
    s.inReset = false ∧ (s.engine 0).state = .waiting 0 ∧ s.Executes 0 run0 (.wait 7)
      ∧ (s.plan 0).steps.length = run0.stepIndex + 1 ∧ (s.commit 0 0 ⟨0, 0, 0#48, .runEnd none 0 0 0⟩ false).2 ≠ .stalled
      ∧ (s.plan 0).held = false ∧ (∀ f : Fin 4, f ≠ 0 → (s.engine f).state ≠ .idle) ∧ s.clear = none
      ∧ s.runQueue = [⟨5, 3, .host, 0#48, 0#48⟩] ∧ (s.plan 5).runStatus = .queued ∧ (0#48 : Time) ≤ s.timeBase
      ∧ (s.plan 5).steps[0]? = some (.wait 9)
      ∧ (∀ p : Fin 32, (s.plan p).attrs.binding.source = some (.done 0) → (s.plan p).attrs.priority ≤ 3)
      ∧ (s.plan 31).attrs.binding.source = some (.done 0) ∧ (s.plan 31).state = .armed ∧ (s.plan 31).runStatus = .idle := by
  decide +kernel
theorem witness_TimeBaseIsSetAndRead :
    s0.Accepts 1#8 ∧ (go (.setTime 1#8 0xFFFFFFFFFFFF#48) s0).pending = []
      ∧ ∃ u, step (go (.setTime 1#8 0xFFFFFFFFFFFF#48) s0) = .next u := by
  exact ⟨by decide +kernel, by decide +kernel, _, rfl⟩
theorem witness_TriggerInputsBySettingAndEdge :
    let s := s0.setInput 3 ⟨true, .falling, 65535, none⟩
    s0.Accepts 1#8 ∧ (3#8).toNat = ((3 : Fin 4) : Nat) ∧ 4 ≤ (4#8).toNat ∧ 1 < (2#8).toNat ∧ (s.input 3).enabled = true
      ∧ (s.input 3).timer = none ∧ (s.input 3).edge = .falling ∧ s.Unbound (.ext 3)
      ∧ (s0.input 0).enabled = false := by decide +kernel
theorem witness_CadenceStartsStopsAndReloads :
    s0.Accepts 1#8 ∧ 10 ≤ (10#24).toNat ∧ (9#24).toNat < 10 ∧ 1 < (2#8).toNat
      ∧ ((s0.setCadence 3 ⟨true, 10, some 1⟩).cadence 3).countdown.isSome = true
      ∧ (s0.setCadence 3 ⟨true, 10, some 1⟩).Unbound (.cadence 3) := by decide +kernel
theorem witness_TakenRunBeginsWithItsRecord :
    let s := { (s0.setPlan 0 (plan0 .armed .queued [.wait 7])).setRing 0 (some ring0) with
      runQueue := [⟨0, 0, .host, 0#48, 0#48⟩] }
    s.inReset = false ∧ s.runQueue = [⟨0, 0, .host, 0#48, 0#48⟩] ∧ (∀ f, (s.engine f).state = .idle) ∧ (s.engine 0).state = .idle
      ∧ (∀ f < (0 : Fin 4), (s.engine f).state ≠ .idle) ∧ s.HasRoom 0 ring0 1 6
      ∧ (s.plan 0).steps[0]? = some (.wait 7) := by decide +kernel
theorem witness_EngineTimersGoOnWithTheStep :
    let s := (running (.waiting 0) [.wait 7, .port readStep] run0).setPort 0 upPort
    s1.inReset = false ∧ (s1.engine 0).state = .waiting 3 ∧ s1.Executes 0 run0 (.wait 7)
      ∧ (s1.plan 0).steps[1]? = some (.wait 8)
      ∧ s.Executes 0 run0 (.wait 7) ∧ (s.plan 0).steps[1]? = some (.port readStep) ∧ (s.port 0).identity = some ident
      ∧ (readStep.sub : Nat) < ident.subCount ∧ (s.port 0).state = .up ∧ (s.port 0).holder = none
      ∧ ((s.setPort 0 { upPort with holder := some .host }).port 0).holder.isSome = true := by decide +kernel
/-- The step after the WAIT is a STAMP or a NOTIFY; the STAMP's record is placed, or stalls where no segment is FREE or
FILLING. -/
theorem witness_StampAndNotifyBegin :
    let s := running (.waiting 0) [.wait 7, .stamp, .wait 8] run0
    let t := running (.waiting 0) [.wait 7, .notify 0x2A#8, .wait 8] run0
    let stamp : Record := ⟨0, 1, 0#48, .stamp⟩
    s.inReset = false ∧ s.Executes 0 run0 (.wait 7) ∧ (s.plan 0).steps[2]? = some (.wait 8)
      ∧ (s.plan 0).steps[1]? = some .stamp ∧ (t.plan 0).steps[1]? = some (.notify 0x2A#8)
      ∧ (s.commit 0 0 stamp false).2 ≠ .stalled
      ∧ ((s.setRing 0 (some { ring0 with segments := [seg .sealed 0#32 204 4, seg .sealed 1#32 256 4] })).commit 0 0 stamp
          false).2 = .stalled := by decide +kernel
theorem witness_SpacingExpiryRetriesTheTransfer :
    let s := running (.spacing 1) [.port readStep] run0
    s.inReset = false ∧ (s.engine 0).state = .spacing 1 ∧ s.Executes 0 run0 (.port readStep) := by decide +kernel
theorem witness_LastStepEndsTheRun :
    let s := running (.waiting 0) [.wait 7] run0
    s.inReset = false ∧ (s.engine 0).state = .waiting 0 ∧ s.Executes 0 run0 (.wait 7)
      ∧ (s.plan 0).steps.length = run0.stepIndex + 1 ∧ (s.plan 0).attrs.sealOnEnd = false ∧ s.HasRoom 0 ring0 1 6
      ∧ (s.plan 0).held = false ∧ s.Unbound (.done 0) ∧ s.runQueue = [] ∧ (s.engine 0).abortTags = []
      ∧ s.clear = none := by decide +kernel
/-- The RUN_END of the run above is placed in ring 0, and stalls where no segment of it is FREE or FILLING. -/
theorem witness_LastStepsCommit :
    let s := running (.waiting 0) [.wait 7] run0
    let runEnd : Record := ⟨0, 0, 0#48, .runEnd none 0 0 0⟩
    (s.commit 0 0 runEnd true).2 ≠ .stalled
      ∧ ((s.setRing 0 (some { ring0 with segments := [seg .sealed 0#32 204 4, seg .sealed 1#32 256 4] })).commit 0 0
          runEnd false).2 = .stalled := by decide +kernel
/-- A held trigger at the run's end, every other engine at work, and room for both records. -/
theorem witness_HeldRunFollows :
    let pl : Plan := { plan0 .armed .running [.wait 7] with attrs := { Attributes.zero with overlap := .hold }, held := true }
    let s := (((busy s0).setPlan 0 pl).setEngine 0 ⟨.waiting 0, some run0, []⟩).setRing 0 (some ring0)
    let ended := s.commit 0 0 ⟨0, 0, 0#48, .runEnd none 0 0 0⟩ false
    s.inReset = false ∧ s.Executes 0 run0 (.wait 7) ∧ (s.plan 0).steps.length = run0.stepIndex + 1
      ∧ (s.plan 0).state = .armed ∧ (s.plan 0).held = true ∧ s.Unbound (.done 0) ∧ s.runQueue = [] ∧ s.clear = none
      ∧ (s.engine 0).abortTags = [] ∧ (∀ f : Fin 4, f ≠ 0 → (s.engine f).state ≠ .idle)
      ∧ (s.plan 0).steps[0]? = some (.wait 7) ∧ ended.2 ≠ .stalled
      ∧ (ended.1.commit 0 0 ⟨0, 0, 0#48, .runBegin 2#16 .held 0#48⟩ false).2 ≠ .stalled := by decide +kernel
theorem witness_StallExpiryFailsTheRun :
    stalled.inReset = false ∧ (stalled.engine 0).state = .stalled .stamp ∧ (stalled.engine 0).run = some run0
      ∧ stalled.heldPort 0 = none ∧ (stalled.plan 0).held = false ∧ stalled.runQueue = []
      ∧ (stalled.engine 0).abortTags = [] ∧ stalled.clear = none := by decide +kernel
theorem witness_StallExpiryReleasesTheGrant :
    let s := stalled.setPort 7 { upPort with holder := some (.engine 0) }
    s.heldPort 0 = some 7 ∧ (s.port 7).state = .up ∧ (s.port 7).waiters = [] ∧ (s.port 7).commitPending = false := by
  decide +kernel
def clearing : State := { s1 with clear := some ⟨7#8, 2, 1, false⟩ }
theorem witness_ClearAcquisitionEmptiesTheRings :
    s0.Accepts 1#8 ∧ clearing.Accepts 1#8 ∧ clearing.clear.isSome = true ∧ s0.clear = none ∧ s0.runQueue = []
      ∧ (∀ e : Fin 4, (s0.engine e).state = .idle ∧ (s0.engine e).run = none) ∧ s0.streams = []
      ∧ clearing.clear = some ⟨7#8, 2, 1, false⟩ ∧ (∃ e : Fin 4, (clearing.engine e).state ≠ .idle)
      ∧ (∀ e : Fin 4, (({ s0 with clear := some ⟨7#8, 2, 1, false⟩ } : State).engine e).state = .idle) := by
  decide +kernel
def transacting (r : Run) : State :=
  (running .transact [.port readStep] r).setPort 0
    { upPort with holder := some (.engine 0), txn := some (txn (some (.engine 0)) .read) }
/-- An open stream; a run in WAITING; a run in TRANSACT with a request in the Run Queue. -/
theorem witness_ClearAcquisitionAborts :
    let s : State := { transacting run0 with runQueue := [⟨3, 0, .host, 0#48, 0#48⟩] }
    streaming.Accepts 1#8 ∧ streaming.clear = none ∧ streaming.runQueue = []
      ∧ (∀ e : Fin 4, (streaming.engine e).state = .idle ∧ (streaming.engine e).run = none) ∧ streaming.streams = [stream0]
      ∧ s1.Accepts 1#8 ∧ s1.clear = none ∧ s1.runQueue = [] ∧ s1.streams = [] ∧ (s1.engine 0).state = .waiting 3
      ∧ (s1.engine 0).run = some run0 ∧ run0.abortCause = none ∧ (s1.engine 0).abortTags = [] ∧ s1.heldPort 0 = none
      ∧ (∀ f : Fin 4, f ≠ 0 → (s1.engine f).state = .idle ∧ (s1.engine f).run = none)
      ∧ s.Accepts 1#8 ∧ s.clear = none ∧ (s.engine 0).state = .transact ∧ (s.engine 0).run = some run0
      ∧ (∀ f : Fin 4, f ≠ 0 → (s.engine f).state = .idle ∧ (s.engine f).run = none) := by decide +kernel
theorem witness_AbortedRunStopsAtItsTransactionsEnd :
    let r : Run := { run0 with abortCause := some .clear }
    let s := transacting r
    s.inReset = false ∧ (s.port 0).state = .up ∧ (s.port 0).txn = some (txn (some (.engine 0)) .read)
      ∧ (s.engine 0).run = some r ∧ s.heldPort 0 = some 0 ∧ (s.port 0).waiters = [] ∧ (s.port 0).commitPending = false
      ∧ (s.plan 0).held = false ∧ s.runQueue = [] ∧ s.clear = none ∧ judge 0xA0000010#32 ≠ .silent := by decide +kernel
/-- A tolerant READ with a WAIT after it: REJECTED, BUSY_LIMIT at the limit of 16, SILENT below the limit of 8, and the
port lost in TRANSACT and in SPACING. -/
theorem witness_StepFaultsAreToleratedOrEndTheRun :
    let st : PortStep := { readStep with tolerate := true }
    let r : Run := { run0 with remaining := 2, retry := 16 }
    let s : State := (transacting r).setPlan 0 (plan0 .armed .running [.port st, .wait 3])
    s.inReset = false ∧ (s.port 0).state = .up ∧ (s.port 0).txn = some (txn (some (.engine 0)) .read)
      ∧ s.Executes 0 r (.port st) ∧ st.port = 0 ∧ r.abortCause = none ∧ r.portLost = false
      ∧ r.samplesWritten < 0xFFFFFFFF ∧ s.heldPort 0 = some 0 ∧ (s.port 0).waiters = [] ∧ (s.port 0).commitPending = false
      ∧ (0xC0000010#32 : Word).msb = true ∧ judge 0xC0000010#32 = .reject ∧ judge 0xA0000010#32 = .busy
      ∧ st.busy = .retry ∧ (s.port 0).active.retryLimit ≤ r.retry ∧ r.builder = [] ∧ (s.plan 0).steps[1]? = some (.wait 3)
      ∧ s.HasRoom 0 ring0 1 4 ∧ s.HasRoom 0 ring0 1 6 ∧ readStep.tolerate = false ∧ (s.plan 0).attrs.sealOnEnd = false
      ∧ (s.plan 0).held = false ∧ s.runQueue = [] ∧ (s.engine 0).abortTags = [] ∧ s.clear = none
      ∧ (transacting r).Executes 0 r (.port readStep)
      ∧ (s.port 0).tally + 1 < (s.port 0).active.silenceLimit ∧ (s.engine 0).state = .transact
      ∧ (s.port 0).supply = true
      ∧ (∀ q : Fin 8, q ≠ 0 → (s.port q).holder ≠ some (.engine 0)) := by decide +kernel
/-- The WAIT before a tolerant READ ends: port 0 is OFF, or UP with 4 sub-addresses where the step names 4. -/
theorem witness_StepFaultsAtTheStart :
    let st : PortStep := { readStep with sub := 4, tolerate := true }
    let s : State := running (.waiting 0) [.wait 7, .port st, .wait 3] run0
    s.inReset = false ∧ (s.engine 0).state = .waiting 0 ∧ s.Executes 0 run0 (.wait 7) ∧ s.heldPort 0 = none
      ∧ (s.plan 0).steps[1]? = some (.port st) ∧ (s.plan 0).steps[2]? = some (.wait 3) ∧ (s.port 0).state = .off
      ∧ ((s.setPort 0 upPort).port 0).state = .up ∧ upPort.holder = none ∧ upPort.waiters = []
      ∧ upPort.commitPending = false ∧ upPort.identity = some ident ∧ ident.subCount ≤ st.sub := by decide +kernel

def portIs (p : Port) : State := s0.setPort 7 p
theorem witness_PortPowerByState :
    s0.Accepts 1#8 ∧ (7#8).toNat = ((7 : Fin 8) : Nat) ∧ (s0.port 7).state = .off ∧ (s0.port 7).ocLine = false
      ∧ ((portIs upPort).port 7).state = .up ∧ ((portIs upPort).port 7).holder = none
      ∧ ((portIs upPort).port 7).waiters = []
      ∧ ((portIs { upPort with state := .draining }).port 7).state = .draining
      ∧ ((portIs { upPort with state := .clocking }).port 7).state = .clocking
      ∧ ((portIs { upPort with holder := some .host, txn := some (txn (some .host) .read) }).port 7).txn.isSome = true
      ∧ ((portIs { upPort with state := .fault }).port 7).state = .fault := by decide +kernel
/-- OFF with PnOC asserted; on the way to STOPPING, RETRAINING, UP with a holder between transactions, and UP without. -/
theorem witness_PortPowerOnUnderOvercurrentAndOff :
    let waited : Port := { upPort with state := .retraining, waiters := [⟨.host, 4⟩], access := some (access (some 5)) }
    ((portIs (Port.reset true)).port 7).state = .off ∧ ((portIs (Port.reset true)).port 7).ocLine = true
      ∧ ((portIs (Port.reset true)).port 7).holder = none ∧ ((portIs (Port.reset true)).port 7).waiters = []
      ∧ ((portIs (Port.reset true)).port 7).commitPending = false
      ∧ ((portIs { upPort with holder := some (.engine 0) }).port 7).txn = none
      ∧ ((portIs { upPort with holder := some (.engine 0) }).port 7).state = .up
      ∧ ((portIs waited).port 7).state = .retraining ∧ ((portIs waited).port 7).holder = none
      ∧ ((portIs waited).port 7).waiters = [⟨.host, 4⟩] ∧ ((portIs waited).port 7).access = some (access (some 5)) := by
  decide +kernel
/-- A tolerant READ of engine 0 with a WAIT after it, its engine in state `st` and port 0 as `q`. -/
def tolerant (st : EngineState) (q : Port) : State :=
  (running st [.port { readStep with tolerate := true }, .wait 3] run0).setPort 0 q
/-- Engine 0 waits at a port without a holder, holds it in SPACING, or is STALLED with its grant. -/
theorem witness_PortPowerOffAnswersEngines :
    let waited : Port := { upPort with waiters := [⟨.engine 0, 2⟩] }
    let held : Port := { upPort with holder := some (.engine 0) }
    let s := tolerant .awaitPort waited
    let t := tolerant (.spacing 5) held
    s.Accepts 1#8 ∧ s.Tolerates 0 0 run0 { readStep with tolerate := true } 3 ∧ (s.port 0).state = .up
      ∧ (s.port 0).holder = none ∧ (s.port 0).waiters = [⟨.engine 0, 2⟩] ∧ (s.port 0).commitPending = false
      ∧ (s.port 0).supply = true ∧ t.Tolerates 0 0 run0 { readStep with tolerate := true } 3
      ∧ (t.port 0).holder = some (.engine 0) ∧ (t.port 0).txn = none ∧ (t.port 0).waiters = []
      ∧ (t.engine 0).state = .spacing 5 ∧ ((tolerant (.stalled (.midStep 3)) held).engine 0).state = .stalled (.midStep 3)
      ∧ ((tolerant (.stalled (.midStep 3)) held).engine 0).run = some run0 := by decide +kernel
theorem witness_PortPhasesFollowEachOther :
    let at' (st : PortState) (n : Nat) := ({ upPort with state := st, phase := some 1, attempts := n } : Port)
    s0.inReset = false ∧ (at' .powering 0).phase = some 1 ∧ (at' .powering 0).quiet = none
      ∧ (at' .retraining 0).attempts = 0 ∧ 0 < (at' .identifying 1).attempts ∧ (at' .stopping 0).supply = true
      ∧ ({ at' .stopping 0 with supply := false } : Port).supply = false
      ∧ ({ at' .identifying 0 with phase := none, quiet := some 3 } : Port).quiet = some 3
      ∧ ({ at' .identifying 0 with quiet := some 3 } : Port).phase.isSome = true := by decide +kernel
def identifying : Port :=
  { Port.reset false with state := .identifying, supply := true, attempts := 3, txn := some (txn none .identify) }
theorem witness_IdentifyOutcomesBringUpOrFault :
    let s := portIs identifying
    s.inReset = false ∧ (s.port 7).faultCause = none ∧ (s.port 7).holder = none ∧ (s.port 7).waiters = []
      ∧ (s.port 7).commitPending = false ∧ (s.port 7).txn = some (txn none .identify)
      ∧ (0x82467800#32 : Word).msb = true ∧ judge 0x82467800#32 = .data ∧ (s.port 7).state = .identifying
      ∧ 3 ≤ (s.port 7).attempts
      ∧ ((portIs { upPort with state := .retraining, attempts := 2 }).port 7).identity = some ident
      ∧ ident.model = (0x82467800#32 : Word).extractLsb' 17 12 ∧ judge 0x82447810#32 = .data
      ∧ ident.model ≠ (0x82447810#32 : Word).extractLsb' 17 12 := by decide +kernel
theorem witness_PortLinesActByState :
    (s0.port 7).supply = false ∧ ((portIs upPort).port 7).supply = true ∧ ((portIs upPort).port 7).state = .up
      ∧ ((portIs upPort).port 7).identity = some ident ∧ ident.atn = true ∧ (portIs upPort).Unbound (.attn 7)
      ∧ (s0.port 7).state ≠ .up ∧ (go (.resetAsserted 0#2) s0).inReset = true ∧ (portIs upPort).inReset = false
      ∧ upPort.commitPending = false ∧ ({ ident with atn := false } : Identity).atn = false := by decide +kernel
theorem witness_ResponsesAreJudgedOrDiscarded :
    (s0.port 0).txn = none ∧ ((List.range 31).countP fun i => (0x80000001#32 : Word).getLsbD i) % 2 = 1
      ∧ ((List.range 31).countP fun i => (0xA0000010#32 : Word).getLsbD i) % 2 = 0 := by decide +kernel
theorem witness_ProbeAccessByItsChecks :
    (portIs upPort).Accepts 1#8 ∧ (3#8).toNat = ((3 : Fin 16) : Nat) ∧ (s0.port 7).state ≠ .up
      ∧ (s0.port 7).state ≠ .retraining ∧ ((portIs { upPort with access := some (access none) }).port 7).access.isSome = true
      ∧ ((portIs upPort).port 7).access = none ∧ ((portIs upPort).port 7).identity = some ident
      ∧ ident.subCount ≤ ((4 : Fin 16) : Nat) ∧ ((3 : Fin 16) : Nat) < ident.subCount
      ∧ ((portIs { upPort with holder := some (.engine 0) }).port 7).holder.isSome = true := by decide +kernel
def hostPort : Port :=
  { upPort with holder := some .host, access := some (access none), txn := some (txn (some .host) .read), tally := 7 }
theorem witness_HostAccessesAreAnswered :
    let q := (portIs hostPort).port 7
    (portIs hostPort).inReset = false ∧ q.state = .up ∧ q.holder = some .host ∧ q.waiters = [] ∧ q.commitPending = false
      ∧ q.access = some (access none) ∧ q.txn = some (txn (some .host) .read) ∧ (0x80000000#32 : Word).msb = true
      ∧ judge 0x80000000#32 = .data ∧ judge 0xC0000010#32 = .reject ∧ q.tally < 255
      ∧ 0 < q.active.silenceLimit ∧ q.active.silenceLimit ≤ q.tally + 1
      ∧ ({ q with tally := 6 } : Port).tally + 1 < q.active.silenceLimit
      ∧ (access (some 1)).waitLeft.isSome = true := by decide +kernel
/-- PnOC at port 7 under a host access that holds the port, or waits for it; engine 0 as in `witness_PortPowerOffAnswersEngines`. -/
theorem witness_OvercurrentAnswersTheHost :
    let s := portIs hostPort
    let t := portIs { upPort with waiters := [⟨.host, 4⟩], access := some (access (some 5)) }
    s.inReset = false ∧ (s.port 7).supply = true ∧ (s.port 7).commitPending = false ∧ (s.port 7).holder = some .host
      ∧ (s.port 7).access = some (access none) ∧ (s.port 7).waiters = [] ∧ (t.port 7).holder = none
      ∧ (t.port 7).access = some (access (some 5)) ∧ (t.port 7).waiters = [⟨.host, 4⟩] := by decide +kernel
theorem witness_TransfersMakeShapedSamplesOrRetry :
    let r := { run0 with remaining := 2 }
    let s := transacting r
    s.inReset = false ∧ (s.port 0).state = .up ∧ (s.port 0).txn = some (txn (some (.engine 0)) .read)
      ∧ s.Executes 0 r (.port readStep) ∧ readStep.port = 0 ∧ readStep.fn = .read ∧ r.abortCause = none
      ∧ 2 ≤ r.remaining ∧ r.builder.length < 63 ∧ judge 0x80000000#32 = .data ∧ readStep.busy = .retry
      ∧ r.retry < (s.port 0).active.retryLimit ∧ judge 0xA0000010#32 = .busy
      ∧ (s.port 0).active.width = .w24 ∧ ident.wide = true := by decide +kernel
/-- A step with a WAIT after it: its last transfer, and one of several with a builder that it fills to 64. -/
theorem witness_PortStepsEnd :
    let st : PortStep := { readStep with busy := .accept }
    let r : Run := { run0 with remaining := 1 }
    let full : Run := { run0 with remaining := 2, builder := List.replicate 63 (.busy, 5#48) }
    let s (r : Run) : State := (transacting r).setPlan 0 (plan0 .armed .running [.port st, .wait 3])
    let samples : Record := ⟨0, 0, 0#48, .samples [.busy]⟩
    (s r).inReset = false ∧ ((s r).port 0).state = .up ∧ ((s r).port 0).txn = some (txn (some (.engine 0)) .read)
      ∧ (s r).Executes 0 r (.port st) ∧ (s full).Executes 0 full (.port st) ∧ st.port = 0 ∧ r.abortCause = none
      ∧ r.portLost = false ∧ r.samplesWritten ≤ 0xFFFFFFFF ∧ (s r).heldPort 0 = some 0 ∧ ((s r).port 0).waiters = []
      ∧ ((s r).port 0).commitPending = false ∧ ((s r).plan 0).steps[1]? = some (.wait 3)
      ∧ (0xA0000010#32 : Word).msb = true ∧ judge 0xA0000010#32 = .busy ∧ judge 0x80000000#32 = .data ∧ st.busy = .accept
      ∧ (r.builder ++ [(Sample.busy, 0#48)]) = [(.busy, 0#48)] ∧ (full.builder ++ [(Sample.busy, 0#48)]).length = 64
      ∧ ((s r).commit 0 0 samples false).2 ≠ .stalled
      ∧ (((s r).setRing 0 (some { ring0 with segments := [seg .sealed 0#32 204 4, seg .sealed 1#32 256 4] })).commit 0 0
          samples false).2 = .stalled
      ∧ ({ readStep with busy := .stop } : PortStep).busy = .stop ∧ run0.builder = [] := by decide +kernel
theorem witness_GrantsAndDrainsServeTheWaitList :
    let q := ((portIs { upPort with waiters := [⟨.host, 4⟩], access := some (access (some 5)) }).port 7)
    s0.inReset = false ∧ ((portIs { upPort with state := .draining }).port 7).state = .draining
      ∧ ((portIs { upPort with state := .draining }).port 7).txn = none ∧ q.state = .up ∧ q.holder = none
      ∧ q.commitPending = false ∧ q.waiters = [⟨.host, 4⟩] ∧ q.access = some (access (some 5))
      ∧ q.identity = some ident ∧ (0 : Nat) < ident.subCount ∧ (access (some 5)).fn = .read := by decide +kernel
/-- Port 0 drains: the host access in flight with engine 0 behind it, or engine 0 in flight with or without it. -/
theorem witness_DrainsEndWithTheTransaction :
    let byHost (ws : List Waiter) : Port := { hostPort with state := .draining, waiters := ws, commitPending := true }
    let byEngine (ws : List Waiter) : Port := { upPort with
      state := .draining, holder := some (.engine 0), txn := some (txn (some (.engine 0)) .read), waiters := ws
      access := some (access (some 5)) }
    let s := tolerant .awaitPort (byHost [⟨.engine 0, 2⟩])
    let t := tolerant .transact (byEngine [⟨.host, 4⟩])
    s.inReset = false ∧ (s.port 0).state = .draining ∧ (s.port 0).txn = some (txn (some .host) .read)
      ∧ (s.port 0).holder = some .host ∧ (s.port 0).access = some (access none) ∧ (s.port 0).waiters = [⟨.engine 0, 2⟩]
      ∧ s.Tolerates 0 0 run0 { readStep with tolerate := true } 3 ∧ (byHost []).waiters = []
      ∧ (t.port 0).state = .draining ∧ (t.port 0).holder = some (.engine 0) ∧ (t.engine 0).state = .transact
      ∧ (t.port 0).waiters = [⟨.host, 4⟩] ∧ (t.port 0).access = some (access (some 5)) ∧ (byEngine []).waiters = []
      ∧ t.Tolerates 0 0 run0 { readStep with tolerate := true } 3 ∧ (0x80000000#32 : Word).msb = true
      ∧ judge 0x80000000#32 ≠ .silent ∧ judge 0xA0000000#32 = .silent := by decide +kernel
/-- Engine 0 waits at the head, behind no one or behind a host access whose transaction ends. -/
theorem witness_GrantsReachAnEngine :
    let s (q : Port) : State := (running .awaitPort [.port readStep] run0).setPort 0 { q with waiters := [⟨.engine 0, 2⟩] }
    (s upPort).inReset = false ∧ (s upPort).Executes 0 run0 (.port readStep) ∧ readStep.port = 0
      ∧ ((s upPort).port 0).identity = some ident ∧ (readStep.sub : Nat) < ident.subCount
      ∧ ((s upPort).port 0).waiters = [⟨.engine 0, 2⟩] ∧ ((s upPort).port 0).state = .up
      ∧ ((s upPort).port 0).commitPending = false ∧ ((s upPort).port 0).holder = none
      ∧ ((s hostPort).port 0).holder = some .host ∧ ((s hostPort).port 0).access = some (access none)
      ∧ ((s hostPort).port 0).txn = some (txn (some .host) .read) := by decide +kernel
theorem witness_CommitsCopyTheStagedProfile :
    let q := { upPort with staged := { Profile.reset with rate := .r8 } }
    s0.Accepts 1#8 ∧ ({ q with holder := some .host } : Port).holder.isSome = true ∧ q.holder = none
      ∧ q.staged.rate ≠ q.active.rate ∧ q.state = .up ∧ upPort.staged.rate = upPort.active.rate
      ∧ ({ upPort with commitPending := true } : Port).commitPending = true := by decide +kernel
/-- A change of rate due in a port that is not UP, with an IDENTIFY in flight, and pending behind a host access. -/
theorem witness_CopiesInOtherStates :
    let q : Port := { identifying with staged := { Profile.reset with rate := .r8 } }
    let h : Port := { hostPort with staged := { Profile.reset with rate := .r8 }, commitPending := true, waiters := [⟨.engine 0, 2⟩] }
    (portIs q).Accepts 1#8 ∧ q.holder = none ∧ q.staged.rate ≠ q.active.rate ∧ q.state = .identifying ∧ q.txn.isSome = true
      ∧ ((portIs h).port 7).state = .up ∧ ((portIs h).port 7).holder = some .host
      ∧ ((portIs h).port 7).commitPending = true ∧ ((portIs h).port 7).access = some (access none)
      ∧ ((portIs h).port 7).txn = some (txn (some .host) .read) ∧ h.staged.rate ≠ h.active.rate
      ∧ hostPort.staged.rate = hostPort.active.rate ∧ hostPort.waiters = [] := by decide +kernel
theorem witness_ProfilesAreSetAndRead :
    s0.Accepts 1#8 ∧ (7#8).toNat = ((7 : Fin 8) : Nat) ∧ (∀ i < 8, (0x00#8 : Byte).getLsbD i = true → false = true)
      ∧ (0x80#8 : Byte).getLsbD 7 = true ∧ (1#8).toNat ≤ 1 ∧ 8 ≤ (8#8).toNat ∧ 1 < (2#8).toNat := by decide +kernel

theorem witness_ReadSegmentClaimsTheSegment :
    s1.Accepts 1#8 ∧ s1.ring 0 = some ring0 ∧ ring0.oldestSealed = some 0 ∧ ring0.find 0#32 = some 0
      ∧ (∀ b, (ring0.seg 0).state ≠ .reading b) ∧ readingRing.find 0#32 = some 0
      ∧ (∃ b, (readingRing.seg 0).state = .reading b) ∧ ({ ring0 with segments := [] } : Ring).oldestSealed = none := by
  decide +kernel
theorem witness_PostingsAreKeptOrCounted :
    ((List.range 254).map fun i => notice i false).length < 255
      ∧ ((List.range 255).map fun i => notice i false).length = 255
      ∧ (notice 0 false).delivered = false ∧ (notice 0 false).argB ≠ 0xFFFF#16 ∧ (notice 0 true).delivered = true := by
  decide +kernel
theorem witness_NoticesAreTakenAckedAndResent :
    let q : NoticeQueue := { entries := [notice 4 true, notice 5 true, notice 6 false], nextNo := 7#16, heldLost := 0
                             mode := .poll, credits := 0 }
    s0.Accepts 1#8 ∧ 1 ≤ (1#8).toNat ∧ (8#8).toNat ≤ 8 ∧ q.entries = [notice 4 true, notice 5 true] ++ [notice 6 false]
      ∧ (∀ n ∈ [notice 4 true, notice 5 true], n.delivered = true) ∧ (∀ n ∈ [notice 6 false], n.delivered = false)
      ∧ (∀ n ∈ q.entries, n.delivered = true → n.number ≠ 6#16)
      ∧ q.entries = [notice 4 true] ++ notice 5 true :: [notice 6 false] ∧ (notice 5 true).number = 5#16
      ∧ (∀ m ∈ [notice 4 true], m.number ≠ 5#16) := by decide +kernel
theorem witness_NoticeModeCreditsAndHatn :
    s0.Accepts 1#8 ∧ (1#8).toNat ≤ 1 ∧ 1 < (2#8).toNat ∧ 1 ≤ (1#8).toNat ∧ (32#8).toNat ≤ 32 ∧ 32 < (33#8).toNat := by
  decide +kernel

/-- Engine 3 holds port 0, engine 0 waits for it, and plans 5 and 6 wait in the Run Queue. -/
def sharedPort : State :=
  let s := s0.setPort 0 { upPort with holder := some (.engine 3), waiters := [⟨.engine 0, 0⟩], txn := some (txn (some (.engine 3)) .read) }
  let s := ((s.setPlan 0 (plan0 .armed .running [.port readStep])).setPlan 1 (plan0 .armed .running [.port readStep])).setRing 0 (some ring0)
  let s := (s.setPlan 5 (plan0 .armed .queued [.wait 9])).setPlan 6 (plan0 .armed .queued [.wait 9])
  { s with
    runQueue := [⟨5, 0, .host, 0#48, 0#48⟩, ⟨6, 0, .host, 0#48, 1#48⟩]
    engines := #v[⟨.awaitPort, some run0, []⟩, ⟨.waiting 5, some { run0 with plan := 9 }, []⟩,
      ⟨.waiting 5, some { run0 with plan := 10 }, []⟩, ⟨.transact, some { run0 with plan := 1 }, []⟩] }

/-- R60: engines 0 and 3 become IDLE together; engine 0 takes the head, engine 3 the next. -/
theorem test_idle_together : (List.finRange 4).map (fun e => ((go (.overcurrent 0 true) sharedPort).engine e).run.map Run.plan)
    = [some 5, some 9, some 10, some 6] := by decide +kernel

/-- R60: engine 3's end comes first, and engine 0's end queues the held run of plan 0; both are IDLE when the queue hands
out requests, so engine 0 takes the head and engine 3 the held run. -/
theorem test_idle_together_held :
    let s : State := { (sharedPort.setPlan 0 { plan0 .armed .running [.wait 9, .port readStep] with
        attrs := { Attributes.zero with overlap := .hold }, held := true }).setEngine 0
          ⟨.awaitPort, some { run0 with stepIndex := 1 }, []⟩ with
      runQueue := [⟨5, 0, .host, 0#48, 0#48⟩] }
    (List.finRange 4).map (fun e => ((go (.overcurrent 0 true) s).engine e).run.map Run.plan)
      = [some 5, some 9, some 10, some 0] := by decide +kernel

end Sys2Proof.Tests
end

section
/-! PROOFS. The profile requests (R141, R142): what each byte of a SET-PROFILE body stands for, when the staged profile
is written and when the request fails at its first field out of range, and the answers of both requests. -/

namespace Sys2Proof.Machine

/-! ## Requests answered in their own event -/

/-- A request with an allowed body that the open session hears reaches its owner. -/
theorem State.Accepts.receive_eq {s : State} {tag kind : Byte} {len : Nat} {owner : State → State}
    (h : s.Accepts tag) (hb : bodyAllowed kind len = some true) :
    receive tag kind len owner s = owner (s.admitted tag kind) :=
  have ⟨hears, hopen⟩ := h
  have ⟨hreset, hpending, _⟩ := hears
  receive_admitted hreset hpending (hears.admission (.inl hopen) hb)

/-- Where the owner's only other effect is to take `s` to `t`, the Host Link untouched, the event ends in `t` with the
request answered. -/
theorem State.Accepts.receive_answered {s t : State} {tag kind : Byte} {len : Nat} {owner : State → State}
    {body : List Byte} (h : s.Accepts tag) (hb : bodyAllowed kind len = some true) (hlink : t.link = s.link)
    (ho : owner (s.admitted tag kind) = (t.admitted tag kind).placeReply tag kind body) :
    receive tag kind len owner s = t.answered tag kind body := by
  have ⟨⟨_, _, _, hfresh, _⟩, _⟩ := h
  rw [h.receive_eq hb, ho, State.admit_placeReply (hlink ▸ hfresh)]

theorem State.withPort_of_eq {s : State} {tag kind port : Byte} {f : Fin 8 → Port → State} {p : Fin 8}
    (h : port.toNat = p) : s.withPort tag kind port f = f p (s.port p) := by
  have hn : number? 8 port = some p := by simp [number?, h]
  simp [State.withPort, hn]

theorem State.withPort_of_le {s : State} {tag kind port : Byte} {f : Fin 8 → Port → State} (h : 8 ≤ port.toNat) :
    s.withPort tag kind port f = s.replyNot tag kind .badValue := by
  have hn : number? 8 port = none := by simpa [number?] using h
  simp [State.withPort, hn]

/-! ## The bytes of a profile -/

theorem rate?_eq_ite (b : Byte) :
    rate? b = if b = 0x01#8 ∨ b = 0x02#8 ∨ b = 0x04#8 ∨ b = 0x08#8
      then some (if b = 0x01#8 then .r1 else if b = 0x02#8 then .r2 else if b = 0x04#8 then .r4 else .r8)
      else none := by
  simp only [← BitVec.toNat_inj]
  unfold rate?
  split <;> simp_all

theorem width?_eq_ite (b : Byte) :
    width? b = if b = 0x10#8 ∨ b = 0x18#8 then some (if b = 0x10#8 then .w16 else .w24) else none := by
  simp only [← BitVec.toNat_inj]
  unfold width?
  split <;> simp_all

theorem flag?_eq_ite (b : Byte) : flag? b = if b.toNat ≤ 1 then some (b == 0x01#8) else none := by
  have hbeq : (b == 0x01#8) = (b.toNat == 1) := by
    rw [Bool.eq_iff_iff]
    simp [← BitVec.toNat_inj]
  rw [hbeq]
  unfold flag?
  split
  next h => simp [h]
  next h => simp [h]
  next h0 h1 =>
    have hlarge : ¬ b.toNat ≤ 1 := fun h => (Nat.le_one_iff_eq_zero_or_eq_one.mp h).elim h0 h1
    simp [hlarge]

/-- Every byte but 0 is a count from 1 to 255. -/
theorem range?_byte (b : Byte) : range? 1 255 b.toNat = if b ≠ 0x00#8 then some b.toNat else none := by
  have hlt := b.isLt
  have hpos : (1 ≤ b.toNat ∧ b.toNat ≤ 255) ↔ b ≠ 0x00#8 := by
    rw [ne_eq, ← BitVec.toNat_inj]
    simp only [BitVec.toNat_ofNat]
    omega
  simp only [range?, hpos]

/-! ## Writing the marked fields -/

/-- A field of a SET-PROFILE body: whether its value is in range, and what it writes where it is. -/
structure ProfileField where
  inRange : Bool
  put : Profile → Profile

def ProfileField.write (f : ProfileField) (p : Profile) : Option Profile :=
  if f.inRange then some (f.put p) else none

/-- The eight fields of a SET-PROFILE body with their ranges (Table 7-1). -/
def bodyFields (rate timeout spacing retryLimit width signExtend silenceLimit attention : Byte) : List ProfileField :=
  [ ⟨rate = 0x01#8 ∨ rate = 0x02#8 ∨ rate = 0x04#8 ∨ rate = 0x08#8, fun p => { p with
      rate := if rate = 0x01#8 then .r1 else if rate = 0x02#8 then .r2 else if rate = 0x04#8 then .r4 else .r8 }⟩,
    ⟨timeout ≠ 0x00#8, fun p => { p with timeout := timeout.toNat }⟩,
    ⟨spacing ≠ 0x00#8, fun p => { p with spacing := spacing.toNat }⟩,
    ⟨retryLimit ≠ 0x00#8, fun p => { p with retryLimit := retryLimit.toNat }⟩,
    ⟨width = 0x10#8 ∨ width = 0x18#8, fun p => { p with width := if width = 0x10#8 then .w16 else .w24 }⟩,
    ⟨signExtend.toNat ≤ 1, fun p => { p with signExtend := signExtend == 0x01#8 }⟩,
    ⟨true, fun p => { p with silenceLimit := silenceLimit.toNat }⟩,
    ⟨attention.toNat ≤ 1, fun p => { p with attention := attention == 0x01#8 }⟩ ]

theorem profileFields_eq (rate timeout spacing retryLimit width signExtend silenceLimit attention : Byte) :
    profileFields rate timeout spacing retryLimit width signExtend silenceLimit attention
      = (bodyFields rate timeout spacing retryLimit width signExtend silenceLimit attention).map
          ProfileField.write := by
  simp only [profileFields, bodyFields, List.map_cons, List.map_nil, rate?_eq_ite, width?_eq_ite, flag?_eq_ite,
    range?_byte, apply_ite (Option.map _), Option.map_some, Option.map_none]
  simp [funext_iff, ProfileField.write]

/-- What the fields marked from bit `i` of the mask on make of a profile. -/
def putMarked (present : Byte) : Nat → List ProfileField → Profile → Profile
  | _, [], p => p
  | i, f :: fs, p => putMarked present (i + 1) fs (if present.getLsbD i then f.put p else p)

/-- With every marked field in range, the write takes them all. -/
theorem writeFields_of_inRange {present : Byte} {fs : List ProfileField} {i : Nat} {p : Profile}
    (h : ∀ j < fs.length, present.getLsbD (i + j) = true → (fs.map (·.inRange)).getD j false = true) :
    writeFields present i (fs.map ProfileField.write) p = .ok (putMarked present i fs p) := by
  induction fs generalizing i p with
  | nil => rfl
  | cons f fs ih =>
    have hrest : ∀ p, writeFields present (i + 1) (fs.map ProfileField.write) p
        = .ok (putMarked present (i + 1) fs p) := fun p => ih fun j hj hm => by
      simpa using h (j + 1) (by simpa using hj) (by rwa [Nat.add_assoc, Nat.add_comm 1] at hm)
    by_cases hm : present.getLsbD i
    · have hf : f.inRange = true := by simpa using h 0 (by simp) hm
      simp [writeFields, putMarked, ProfileField.write, hm, hf, hrest]
    · simp [writeFields, putMarked, hm, hrest]

/-- The write fails at the first marked field out of range. -/
theorem writeFields_of_first_outOfRange {present : Byte} {fs : List ProfileField} {i k : Nat} {p : Profile}
    (hk : k < fs.length) (hm : present.getLsbD (i + k) = true) (hbad : (fs.map (·.inRange)).getD k false = false)
    (hfirst : ∀ j < k, present.getLsbD (i + j) = true → (fs.map (·.inRange)).getD j false = true) :
    writeFields present i (fs.map ProfileField.write) p = .error (i + k + 1) := by
  induction fs generalizing i k p with
  | nil => simp at hk
  | cons f fs ih =>
    cases k with
    | zero =>
      have hi : present.getLsbD i = true := hm
      have hf : f.inRange = false := by simpa using hbad
      simp [writeFields, ProfileField.write, hi, hf]
    | succ k =>
      have hrest : ∀ p, writeFields present (i + 1) (fs.map ProfileField.write) p = .error (i + (k + 1) + 1) := by
        intro p
        rw [ih (i := i + 1) (k := k) (by simpa using hk) (by rwa [Nat.add_right_comm]) (by simpa using hbad)
          fun j hj hmj => by simpa using hfirst (j + 1) (by omega) (by rwa [Nat.add_assoc, Nat.add_comm 1] at hmj)]
        congr 1; omega
      by_cases hi : present.getLsbD i
      · have hf : f.inRange = true := by simpa using hfirst 0 (by omega) hi
        simp [writeFields, ProfileField.write, hi, hf, hrest]
      · simp [writeFields, hi, hrest]

theorem Profile.eq_iff {p q : Profile} : p = q ↔
    p.rate = q.rate ∧ p.timeout = q.timeout ∧ p.spacing = q.spacing ∧ p.retryLimit = q.retryLimit ∧ p.width = q.width
      ∧ p.signExtend = q.signExtend ∧ p.silenceLimit = q.silenceLimit ∧ p.attention = q.attention := by
  cases p
  cases q
  simp

/-- Each field of a SET-PROFILE body is written on its own: a field of the profile depends on its own mask bit alone. -/
theorem putMarked_bodyFields
    (present rate timeout spacing retryLimit width signExtend silenceLimit attention : Byte) (old : Profile) :
    putMarked present 0 (bodyFields rate timeout spacing retryLimit width signExtend silenceLimit attention) old =
      { rate :=
          if present.getLsbD 0 then
            (if rate = 0x01#8 then .r1 else if rate = 0x02#8 then .r2 else if rate = 0x04#8 then .r4 else .r8)
          else old.rate
        timeout := if present.getLsbD 1 then timeout.toNat else old.timeout
        spacing := if present.getLsbD 2 then spacing.toNat else old.spacing
        retryLimit := if present.getLsbD 3 then retryLimit.toNat else old.retryLimit
        width := if present.getLsbD 4 then (if width = 0x10#8 then .w16 else .w24) else old.width
        signExtend := if present.getLsbD 5 then signExtend == 0x01#8 else old.signExtend
        silenceLimit := if present.getLsbD 6 then silenceLimit.toNat else old.silenceLimit
        attention := if present.getLsbD 7 then attention == 0x01#8 else old.attention } := by
  simp only [bodyFields, putMarked, Profile.eq_iff, apply_ite Profile.rate, apply_ite Profile.timeout,
    apply_ite Profile.spacing, apply_ite Profile.retryLimit, apply_ite Profile.width, apply_ite Profile.signExtend,
    apply_ite Profile.silenceLimit, apply_ite Profile.attention, ite_self, Nat.zero_add, Nat.reduceAdd, and_self]

/-! ## The two requests -/

section
variable {s : State} {tag port present rate timeout spacing retryLimit width signExtend silenceLimit attention : Byte}
  {p : Fin 8}

/-- R141: a write that takes all marked fields is answered with the staged profile it leaves. -/
theorem exec_setProfile_of_ok {staged : Profile} (ha : s.Accepts tag) (hp : port.toNat = p)
    (hw : writeFields present 0 (profileFields rate timeout spacing retryLimit width signExtend silenceLimit attention)
      (s.port p).staged = .ok staged) :
    exec (.setProfile tag port present rate timeout spacing retryLimit width signExtend silenceLimit attention) s
      = .next ((s.setPort p { s.port p with staged }).answered tag 0x48#8 (0x00#8 :: staged.bytes)) := by
  refine congrArg Host.Outcome.next (ha.receive_answered rfl rfl ?_)
  simp only [ownSetProfile, State.withPort_of_eq hp, State.admit_get_port, hw]
  rfl

/-- R141: a write that fails leaves the port as it was. -/
theorem exec_setProfile_of_error {i : Nat} (ha : s.Accepts tag) (hp : port.toNat = p)
    (hw : writeFields present 0 (profileFields rate timeout spacing retryLimit width signExtend silenceLimit attention)
      (s.port p).staged = .error i) :
    exec (.setProfile tag port present rate timeout spacing retryLimit width signExtend silenceLimit attention) s
      = .next (s.answered tag 0x48#8 [0x10#8, byte i]) := by
  refine congrArg Host.Outcome.next (ha.receive_answered rfl rfl ?_)
  simp only [ownSetProfile, State.withPort_of_eq hp, State.admit_get_port, hw]
  rfl

/-- R142: choice 0 is the staged profile, 1 the active one. -/
theorem exec_readProfile_of_valid {choice : Byte} (ha : s.Accepts tag) (hp : port.toNat = p) (hc : choice.toNat ≤ 1) :
    exec (.readProfile tag port choice) s = .next (s.answered tag 0x4A#8
      (0x00#8 :: (if choice = 0x00#8 then (s.port p).staged else (s.port p).active).bytes
        ++ [flagByte (s.port p).commitPending])) := by
  refine congrArg Host.Outcome.next (ha.receive_answered rfl rfl ?_)
  obtain rfl | rfl : choice = 0x00#8 ∨ choice = 0x01#8 := by
    simp only [← BitVec.toNat_inj, BitVec.toNat_ofNat]
    omega
  all_goals simp [ownReadProfile, flag?, State.withPort_of_eq hp, State.replyOk, Status.code]

/-- The choice is read first and the port after it, and either out of range gets the same answer. -/
theorem exec_readProfile_of_outOfRange {choice : Byte} (ha : s.Accepts tag) (h : 8 ≤ port.toNat ∨ 1 < choice.toNat) :
    exec (.readProfile tag port choice) s = .next (s.answered tag 0x4A#8 [0x10#8, 0x00#8]) := by
  refine congrArg Host.Outcome.next (ha.receive_answered rfl rfl ?_)
  by_cases hc : choice.toNat ≤ 1
  · have hport : 8 ≤ port.toNat := h.resolve_right (by omega)
    simp only [ownReadProfile, flag?_eq_ite, hc, if_true, State.withPort_of_le hport]
    rfl
  · simp only [ownReadProfile, flag?_eq_ite, hc, if_false]
    rfl

end

/-- Settles O55: the marked fields are written in the order of the mask's bits, so the write either takes them all or
fails at the first one out of range, before the port is touched. -/
theorem profilesAreSetAndRead : Obligations.ProfilesAreSetAndRead := by
  unfold Obligations.ProfilesAreSetAndRead
  refine ⟨?_, fun s tag port choice p ha => ⟨exec_readProfile_of_valid ha, exec_readProfile_of_outOfRange ha⟩⟩
  intro s tag port present rate timeout spacing retryLimit width signExtend silenceLimit attention p ha hp
    inRange old new request
  constructor
  · intro hall
    refine exec_setProfile_of_ok ha hp ?_
    rw [profileFields_eq, writeFields_of_inRange, putMarked_bodyFields]
    exact fun j hj hm => hall j hj (by rwa [Nat.zero_add] at hm)
  · intro i hi hm hbad hfirst
    refine exec_setProfile_of_error ha hp ?_
    rw [profileFields_eq, ← Nat.zero_add i]
    exact writeFields_of_first_outOfRange hi (by rwa [Nat.zero_add]) hbad fun j hj hmj =>
      hfirst j hj (by rwa [Nat.zero_add] at hmj)

end Sys2Proof.Machine
end

section
/-! PROOFS. The notice queue: what a posting does to a queue with room, with one place left, and to a full one (R171 to
R173), the notice mode and credits (R176, R177), and when a notice frame is on offer and HATN asserted (R178, R184). -/

namespace Sys2Proof.Machine

/-! ## Postings -/

section
variable {q : NoticeQueue} {kind : NoticeKind} {subject : Byte} {now : Time} {a : Word} {b : Half}

/-- R171: a queue with two places or more takes the entry. -/
theorem NoticeQueue.post_of_lt (h : q.entries.length < 255) :
    q.post kind subject now a b = q.append kind subject now a b := by
  rcases q.post_cases kind subject now a b with ⟨-, hpost⟩ | ⟨hlast, -⟩ | ⟨hfull, -⟩
  · exact hpost
  · omega
  · omega

/-- R172: the last place goes to a marker, whatever was posted. -/
theorem NoticeQueue.post_of_eq (h : q.entries.length = 255) :
    q.post kind subject now a b = q.append .overflow 0x00#8 now 0#32 1#16 := by
  rcases q.post_cases kind subject now a b with ⟨hroom, -⟩ | ⟨-, hpost⟩ | ⟨hfull, -⟩
  · omega
  · exact hpost
  · omega

/-- R173: a posting to a full queue is a loss, whatever was posted. -/
theorem NoticeQueue.post_of_gt (h : 255 < q.entries.length) : q.post kind subject now a b = q.lose := by
  rcases q.post_cases kind subject now a b with ⟨hroom, -⟩ | ⟨hlast, -⟩ | ⟨-, hpost⟩
  · omega
  · omega
  · exact hpost

end

theorem Notice.countLoss_of_ne {n : Notice} (h : n.argB ≠ 0xFFFF#16) : n.countLoss = { n with argB := n.argB + 1 } :=
  if_neg h

theorem Notice.countLoss_of_saturated {n : Notice} (h : n.argB = 0xFFFF#16) : n.countLoss = n := if_pos h

section
variable {q : NoticeQueue} {es : List Notice} {m : Notice}

/-- R173: while the last entry is undelivered, it alone counts the loss. -/
theorem NoticeQueue.lose_of_undelivered (hq : q.entries = es ++ [m]) (hm : m.delivered = false) :
    q.lose = { q with entries := es ++ [m.countLoss] } := by
  simp [NoticeQueue.lose, hq, hm]

/-- R173: once the last entry is delivered, the loss is held. -/
theorem NoticeQueue.lose_of_delivered (hq : q.entries = es ++ [m]) (hm : m.delivered = true) :
    q.lose = { q with heldLost := min (q.heldLost + 1) 0xFFFFFFFF } := by
  simp [NoticeQueue.lose, hq, hm, Config.max32]

end

/-- Settles O57: a queue with room appends the posting, one with a single place left the marker, and a full one counts
the loss where its last entry's delivered mark says. -/
theorem postingsAreKeptOrCounted : Obligations.PostingsAreKeptOrCounted := by
  unfold Obligations.PostingsAreKeptOrCounted
  intro q kind subject now a b
  refine ⟨NoticeQueue.post_of_lt, NoticeQueue.post_of_eq, fun es m hq hes => ?_⟩
  have hfull : 255 < q.entries.length := by simp [hq, hes]
  rw [NoticeQueue.post_of_gt hfull]
  refine ⟨fun hm hb => ?_, fun hm hb => ?_, fun hm => NoticeQueue.lose_of_delivered hq hm⟩
  · rw [NoticeQueue.lose_of_undelivered hq hm, Notice.countLoss_of_ne hb]
  · rw [NoticeQueue.lose_of_undelivered hq hm, Notice.countLoss_of_saturated hb, ← hq]

/-! ## SET-NOTICE-MODE and GRANT-CREDITS -/

theorem range?_of_mem {lo hi n : Nat} (h : lo ≤ n ∧ n ≤ hi) : range? lo hi n = some n := if_pos h

theorem range?_of_notMem {lo hi n : Nat} (h : ¬ (lo ≤ n ∧ n ≤ hi)) : range? lo hi n = none := if_neg h

theorem eq_zero_or_one_of_toNat_le_one {b : Byte} (h : b.toNat ≤ 1) : b = 0x00#8 ∨ b = 0x01#8 := by
  simp only [← BitVec.toNat_inj, BitVec.toNat_ofNat]
  omega

theorem mode?_eq_ite (b : Byte) :
    mode? b = if b.toNat ≤ 1 then some (if b = 0x00#8 then .poll else .push) else none := by
  by_cases h : b.toNat ≤ 1
  · obtain rfl | rfl := eq_zero_or_one_of_toNat_le_one h <;> rfl
  · simp [mode?, flag?_eq_ite, h]

/-- The code of the mode a byte stands for is the byte (R176). -/
theorem NoticeMode.code_of_mode? {b : Byte} {m : NoticeMode} (h : mode? b = some m) : m.code = b := by
  obtain ⟨hb, rfl⟩ : b.toNat ≤ 1 ∧ (if b = 0x00#8 then NoticeMode.poll else .push) = m := by
    simpa [mode?_eq_ite] using h
  obtain rfl | rfl := eq_zero_or_one_of_toNat_le_one hb <;> rfl

section
variable {s : State} {tag x : Byte}

/-- R176: the reply names the mode and the credits. -/
theorem exec_setNoticeMode_of_mode {m : NoticeMode} (ha : s.Accepts tag) (hm : mode? x = some m) :
    exec (.setNoticeMode tag x) s = .next ({ s with notices := { s.notices with mode := m } }.answered tag 0x58#8
      [0x00#8, x, byte s.notices.credits]) := by
  refine congrArg Host.Outcome.next (ha.receive_answered rfl rfl ?_)
  simp only [ownSetNoticeMode, hm, NoticeMode.code_of_mode? hm]
  rfl

theorem exec_setNoticeMode_of_none (ha : s.Accepts tag) (hm : mode? x = none) :
    exec (.setNoticeMode tag x) s = .next (s.answered tag 0x58#8 [0x10#8, 0x00#8]) := by
  refine congrArg Host.Outcome.next (ha.receive_answered rfl rfl ?_)
  simp only [ownSetNoticeMode, hm]
  rfl

/-- R177: a sum above 32 is cut to 32. -/
theorem exec_grantCredits_of_valid (ha : s.Accepts tag) (hx : 1 ≤ x.toNat ∧ x.toNat ≤ 32) :
    exec (.grantCredits tag x) s = .next ({ s with notices := { s.notices with
      credits := min (s.notices.credits + x.toNat) 32 } }.answered tag 0x59#8
        [0x00#8, byte (min (s.notices.credits + x.toNat) 32)]) := by
  refine congrArg Host.Outcome.next (ha.receive_answered rfl rfl ?_)
  simp only [ownGrantCredits, Config.maxCredits, range?_of_mem hx]
  rfl

theorem exec_grantCredits_of_outOfRange (ha : s.Accepts tag) (hx : ¬ (1 ≤ x.toNat ∧ x.toNat ≤ 32)) :
    exec (.grantCredits tag x) s = .next (s.answered tag 0x59#8 [0x10#8, 0x00#8]) := by
  refine congrArg Host.Outcome.next (ha.receive_answered rfl rfl ?_)
  simp only [ownGrantCredits, Config.maxCredits, range?_of_notMem hx]
  rfl

end

/-! ## Notice frames on offer and HATN -/

theorem NoticeQueue.undelivered_isEmpty_eq_false_iff {q : NoticeQueue} :
    q.undelivered.isEmpty = false ↔ ∃ n ∈ q.entries, n.delivered = false := by
  simp [NoticeQueue.undelivered]

/-- R178: a notice frame is on offer in PUSH mode, with credits and an undelivered entry. -/
theorem NoticeQueue.offering_iff {q : NoticeQueue} :
    q.offering = true ↔ q.mode = .push ∧ 0 < q.credits ∧ ∃ n ∈ q.entries, n.delivered = false := by
  simp only [NoticeQueue.offering, Bool.and_eq_true, beq_iff_eq, decide_eq_true_eq, Bool.not_eq_true',
    NoticeQueue.undelivered_isEmpty_eq_false_iff, and_assoc]

/-- With an undelivered entry, POLL mode or the want of credits is all that keeps a notice frame back (R178). -/
theorem NoticeQueue.offering_eq_false_iff {q : NoticeQueue} (h : ∃ n ∈ q.entries, n.delivered = false) :
    q.offering = false ↔ q.mode = .poll ∨ q.credits = 0 := by
  rw [← Bool.not_eq_true, NoticeQueue.offering_iff]
  cases hm : q.mode with
  | poll => simp
  | push => simp only [h, and_true, true_and, reduceCtorEq, false_or]; omega

/-- R184: the levels HATN is made of. -/
theorem State.hatnAsserted_iff {s : State} :
    s.hatnAsserted = true ↔ s.inReset = false ∧ (∃ n ∈ s.notices.entries, n.delivered = false)
      ∧ (s.notices.mode = .poll ∨ s.notices.credits = 0) := by
  simp only [State.hatnAsserted, Bool.and_eq_true, Bool.or_eq_true, beq_iff_eq, Bool.not_eq_true',
    NoticeQueue.undelivered_isEmpty_eq_false_iff, and_assoc]

/-- Settles O59: each request by its field's range; and while an entry is undelivered, HATN's levels say that no notice
frame is on offer. -/
theorem noticeModeCreditsAndHatn : Obligations.NoticeModeCreditsAndHatn := by
  unfold Obligations.NoticeModeCreditsAndHatn
  refine ⟨fun s tag x ha => ⟨fun hx => ?_, fun hx => ?_, fun h1 h32 => ?_, fun hx => ?_⟩, fun s => ?_⟩
  · exact exec_setNoticeMode_of_mode ha (by rw [mode?_eq_ite, if_pos hx])
  · exact exec_setNoticeMode_of_none ha (by rw [mode?_eq_ite, if_neg (by omega)])
  · exact exec_grantCredits_of_valid ha ⟨h1, h32⟩
  · exact exec_grantCredits_of_outOfRange ha (by omega)
  · rw [State.hatnAsserted_iff]
    exact and_congr_right fun _ => and_congr_right fun h => (NoticeQueue.offering_eq_false_iff h).symm

end Sys2Proof.Machine
end

section
/-! PROOFS. IDENTIFY (R202): a request that passes admission in either session state, and what its reply names. -/

namespace Sys2Proof.Machine

/-- A request of a kind that a CLOSED session admits too is answered by its owner's reply, whatever the session state,
and nothing else changes (R192). -/
theorem State.Hears.receive_answered_of_sessionFree {s : State} {tag kind : Byte} {len : Nat} {owner : State → State}
    {body : List Byte} (h : s.Hears tag) (hkind : sessionFree kind = true) (hb : bodyAllowed kind len = some true)
    (ho : owner (s.admitted tag kind) = (s.admitted tag kind).placeReply tag kind body) :
    receive tag kind len owner s = s.answered tag kind body := by
  have ⟨hreset, hpending, _, hfresh, _⟩ := h
  rw [receive_admitted hreset hpending (h.admission (.inr hkind) hb), ho, State.admit_placeReply hfresh]

/-- The bytes of the IDENTIFY reply: only the link rate code and the session state vary with the state (R202, R207). -/
theorem State.identifyFields_eq (s : State) : s.identifyFields =
    [0x10#8, 0x18#8, 0x03#8, 0x08#8, 0x04#8, 0x20#8, 0x04#8, 0x00#8, 0x04#8, 0x04#8, 0x00#8, 0x01#8, 0x00#8, 0x04#8,
     byte s.link.linkRate.toNat, if s.link.sessionOpen then 0x01#8 else 0x00#8] := rfl

/-- Admission changes neither the link rate nor the session state, so the reply names those before the request. -/
theorem State.identifyFields_admitted (s : State) (tag kind : Byte) :
    (s.admitted tag kind).identifyFields = s.identifyFields := rfl

theorem exec_identify {s : State} {tag : Byte} (h : s.Hears tag) :
    exec (.identify tag) s = .next (s.answered tag 0x03#8 (0x00#8 :: s.identifyFields)) := by
  refine congrArg Host.Outcome.next (h.receive_answered_of_sessionFree rfl rfl ?_)
  rw [ownIdentify, State.identifyFields_admitted]
  rfl

/-- Settles O21: IDENTIFY is admitted in either session state, and its owner only replies. -/
theorem identifyNamesThePart : Obligations.IdentifyNamesThePart := by
  unfold Obligations.IdentifyNamesThePart
  intro s tag h
  rw [exec_identify h, State.identifyFields_eq]

end Sys2Proof.Machine
end

section
/-! PROOFS. The invariants of a sound state (Safety.lean), kept together: a relation between two states that says each of
them carries over, closed under composition, and one rule for each elementary update of the state. -/

namespace Sys2Proof.Machine

-- One proof after the other, as in the tests: many at once would each hold a thread.
set_option Elab.async false

/-- Every invariant but the Run Queue's carries over from `s` to `t`, the time base stands still, no block is newly held by
a ring, and capture memory is changed inside held blocks alone. The rings' part may rest on a premise `I`: what an
operation is given (a record's length, a builder's) is often known of an earlier state only, whose rings were sound. -/
structure Kept (I : Prop) (s t : State) : Prop where
  time : t.timeBase = s.timeBase
  mem : Memory.wf s.mem = true → Memory.wf t.mem = true
  ports : s.PortsSound → t.PortsSound
  notices : s.notices.Sound → t.notices.Sound
  link : s.link.Sound → t.link.Sound
  plans : s.PlansSound → t.PlansSound
  rings : I → s.RingsSound → t.RingsSound
  held : ∀ a, t.HeldByRing a → s.HeldByRing a
  inside : I → s.RingsSound → Memory.wf s.mem = true → ∀ a, ¬ s.HeldByRing a →
    Memory.readByte t.mem a = Memory.readByte s.mem a

/-- ... and the Run Queue's invariant too. -/
structure Keeps (I : Prop) (s t : State) : Prop extends Kept I s t where
  queue : s.QueueSound → t.QueueSound

variable {I : Prop}

theorem Kept.trans {s t u : State} (h : Kept I s t) (k : Kept I t u) : Kept I s u where
  time := k.time.trans h.time
  mem := k.mem ∘ h.mem
  ports := k.ports ∘ h.ports
  notices := k.notices ∘ h.notices
  link := k.link ∘ h.link
  plans := k.plans ∘ h.plans
  rings hI hs := k.rings hI (h.rings hI hs)
  held a := h.held a ∘ k.held a
  inside hI hr hm a ha :=
    (k.inside hI (h.rings hI hr) (h.mem hm) a (ha ∘ h.held a)).trans (h.inside hI hr hm a ha)

theorem Keeps.trans {s t u : State} (h : Keeps I s t) (k : Keeps I t u) : Keeps I s u :=
  ⟨h.toKept.trans k.toKept, k.queue ∘ h.queue⟩

/-- That the rings of `s` are sound may be given from `s` on. -/
theorem Keeps.given {s t : State} (h : Keeps (I ∧ s.RingsSound) s t) : Keeps I s t :=
  ⟨⟨h.time, h.mem, h.ports, h.notices, h.link, h.plans, fun hI hs => h.rings ⟨hI, hs⟩ hs, h.held,
    fun hI hs => h.inside ⟨hI, hs⟩ hs⟩, h.queue⟩

/-- The last change first: its state says what the change before it leaves. -/
theorem Keeps.after {s t u : State} (k : Keeps I t u) (h : Keeps I s t) : Keeps I s u := h.trans k

theorem Keeps.refl (s : State) : Keeps I s s :=
  ⟨⟨rfl, id, id, id, id, id, fun _ => id, fun _ => id, fun _ _ _ _ _ => rfl⟩, id⟩

/-- A change of nothing that an invariant speaks of. -/
theorem Keeps.of_eq {s t : State} (htime : t.timeBase = s.timeBase) (hmem : t.mem = s.mem) (hports : t.ports = s.ports)
    (hnotices : t.notices = s.notices) (hlink : t.link = s.link) (hplans : t.plans = s.plans)
    (hpool : t.poolFree = s.poolFree) (hrings : t.rings = s.rings) (hengines : t.engines = s.engines)
    (hqueue : t.runQueue = s.runQueue) : Keeps I s t := by
  obtain ⟨⟩ := s
  obtain ⟨⟩ := t
  dsimp only at *
  subst_vars
  exact ⟨⟨rfl, id, id, id, id, id, fun _ => id, fun _ => id, fun _ _ _ _ _ => rfl⟩, id⟩

/-- Folding a list keeps what each of its steps keeps. -/
theorem Keeps.foldl {α : Type} {f : State → α → State} (h : ∀ s x, Keeps I s (f s x)) (l : List α) (s : State) :
    Keeps I s (l.foldl f s) := by
  induction l generalizing s with
  | nil => exact .refl s
  | cons x l ih => exact (h s x).trans (ih _)

/-! ## One block changed -/

section
variable {s : State}

theorem Keeps.setLink {l : Link} (h : s.link.Sound → l.Sound) : Keeps I s { s with link := l } :=
  ⟨⟨rfl, id, id, id, h, id, fun _ => id, fun _ => id, fun _ _ _ _ _ => rfl⟩, id⟩

theorem Keeps.setNotices {q : NoticeQueue} (h : s.notices.Sound → q.Sound) : Keeps I s { s with notices := q } :=
  ⟨⟨rfl, id, id, h, id, id, fun _ => id, fun _ => id, fun _ _ _ _ _ => rfl⟩, id⟩

theorem Keeps.setPort {p : Fin 8} {x : Port} (h : (s.port p).Sound → x.Sound) : Keeps I s (s.setPort p x) := by
  refine ⟨⟨rfl, id, fun hs q => ?_, id, id, id, fun _ => id, fun _ => id, fun _ _ _ _ _ => rfl⟩, id⟩
  rw [State.setPort_get]
  split
  · exact h (hs p)
  · exact hs q

theorem Keeps.mapPorts {f : Port → Port} (h : ∀ q, q.Sound → (f q).Sound) :
    Keeps I s { s with ports := s.ports.map f } := by
  refine ⟨⟨rfl, id, fun hs p => ?_, id, id, id, fun _ => id, fun _ => id, fun _ _ _ _ _ => rfl⟩, id⟩
  simpa [State.port] using h _ (hs p)

/-- A plan's own part of the invariant (R26, R28, R39). -/
abbrev Plan.Sound (pl : Plan) : Prop :=
  pl.steps.length ≤ 128 ∧ (pl.held = true → pl.state = .armed ∧ pl.attrs.overlap = .hold)

theorem sum_stepsLength_set {n : Nat} (v : Vector Plan n) (p : Fin n) (x : Plan) :
    ((v.set p x).toList.map fun pl => pl.steps.length).sum + v[p].steps.length
      = (v.toList.map fun pl => pl.steps.length).sum + x.steps.length := by
  have hlen : p.1 < v.toList.length := by simp
  have key : ∀ (l : List Plan) (i : Nat) (hi : i < l.length),
      ((l.set i x).map fun pl => pl.steps.length).sum + l[i].steps.length
        = (l.map fun pl => pl.steps.length).sum + x.steps.length := by
    intro l
    induction l with
    | nil => intro i hi; simp at hi
    | cons a l ih =>
      intro i hi
      cases i with
      | zero => simp; omega
      | succ i =>
        have := ih i (by simpa using hi)
        simp only [List.set_cons_succ, List.map_cons, List.sum_cons, List.getElem_cons_succ]
        omega
  simpa only [Vector.toList_set, Vector.getElem_toList, Fin.getElem_fin] using key v.toList p.1 hlen

/-- A plan changed, its steps taken from the pool or returned to it. -/
theorem Keeps.setPlanPool {p : Fin 32} {x : Plan} {free : Nat}
    (hfree : s.PlansSound → free + x.steps.length = s.poolFree + (s.plan p).steps.length)
    (h : (s.plan p).Sound → x.Sound) : Keeps I s ({ s with poolFree := free }.setPlan p x) := by
  refine ⟨⟨rfl, id, id, id, id, fun hs => ?_, fun _ => id, fun _ => id, fun _ _ _ _ _ => rfl⟩, id⟩
  have hpool := hfree hs
  obtain ⟨hsum, hplans⟩ := hs
  refine ⟨?_, fun q => ?_⟩
  · have hset := sum_stepsLength_set s.plans p x
    simp only [State.plan] at hpool
    simp only [State.setPlan]
    omega
  · rw [State.setPlan_get]
    split
    · exact h (hplans p)
    · exact hplans q

/-- A plan changed with its list of steps kept. -/
theorem Keeps.setPlan {p : Fin 32} {x : Plan} (hsteps : x.steps.length = (s.plan p).steps.length)
    (h : (s.plan p).Sound → x.Sound) : Keeps I s (s.setPlan p x) :=
  Keeps.setPlanPool (free := s.poolFree) (fun _ => by rw [hsteps]) h

/-- An engine changed, its builder not full. -/
theorem Kept.setEngine {e : Fin 4} {x : Engine} (hrun : I → s.RingsSound → ∀ r ∈ x.run, r.builder.length < 64) :
    Kept I s (s.setEngine e x) := by
  refine ⟨rfl, id, id, id, id, id, fun hI hs => ?_, fun _ => id, fun _ _ _ _ _ => rfl⟩
  have hx := hrun hI hs
  obtain ⟨hrings, hdisjoint, hbuilders⟩ := hs
  refine ⟨hrings, hdisjoint, fun f => ?_⟩
  rw [State.setEngine_get]
  split
  · exact hx
  · exact hbuilders f

/-- ... and becoming IDLE nowhere here. -/
theorem Keeps.setEngine {e : Fin 4} {x : Engine} (hidle : x.state = .idle → (s.engine e).state = .idle)
    (hrun : I → s.RingsSound → ∀ r ∈ x.run, r.builder.length < 64) : Keeps I s (s.setEngine e x) := by
  refine ⟨.setEngine hrun, fun ⟨hbusy, hsorted⟩ => ⟨fun hq f => ?_, hsorted⟩⟩
  rw [State.setEngine_get]
  split
  · next hf => subst hf; exact fun h => hbusy hq f (hidle h)
  · exact hbusy hq f

/-- Requests gone from the Run Queue. -/
theorem Keeps.setQueue {l : List RunRequest} (h : l.Sublist s.runQueue) : Keeps I s { s with runQueue := l } :=
  ⟨⟨rfl, id, id, id, id, id, fun _ => id, fun _ => id, fun _ _ _ _ _ => rfl⟩, fun ⟨hbusy, hsorted⟩ =>
    ⟨fun hl => hbusy fun hnil => hl (List.sublist_nil.mp (hnil ▸ h)), hsorted.sublist h⟩⟩

theorem Kept.setQueue {l : List RunRequest} : Kept I s { s with runQueue := l } :=
  ⟨rfl, id, id, id, id, id, fun _ => id, fun _ => id, fun _ _ _ _ _ => rfl⟩

theorem State.RingsSound.builder {e : Fin 4} {r : Run} (h : s.RingsSound) (hr : (s.engine e).run = some r) :
    r.builder.length < 64 :=
  h.2.2 e r (by simp [hr])

theorem Keeps.setEngineState {e : Fin 4} {x : EngineState} (hx : x = .idle → (s.engine e).state = .idle) :
    Keeps I s (s.setEngineState e x) :=
  Keeps.setEngine hx fun _ hs => hs.2.2 e

theorem State.setRun_eq_self {e : Fin 4} {r : Run} (h : (s.engine e).run = some r) : s.setRun e r = s := by
  simp only [State.setRun, ← h, State.setEngine, State.engine]
  rw [show s.engines.set e s.engines[e] = s.engines from by simp]

@[simp] theorem State.setRun_twice (e : Fin 4) (r r' : Run) : (s.setRun e r).setRun e r' = s.setRun e r' := by
  simp [State.setRun]

theorem State.setPort_eq_self (p : Fin 8) : s.setPort p (s.port p) = s := by
  simp [State.setPort, State.port]

theorem Keeps.setRun {e : Fin 4} {r : Run} (hr : I → s.RingsSound → r.builder.length < 64) : Keeps I s (s.setRun e r) :=
  Keeps.setEngine id fun hI hs r' h => by
    obtain rfl : r = r' := by simpa using h
    exact hr hI hs

/-- A run changed with its builder kept. -/
theorem Keeps.setRun_of {e : Fin 4} {r r' : Run} (hr : (s.engine e).run = some r) (hb : r'.builder = r.builder) :
    Keeps I s (s.setRun e r') :=
  Keeps.setRun fun _ hs => hb ▸ hs.builder hr

/-- The geometry of a ring: its definition and its base block. -/
abbrev Ring.SameBlocks (r r' : Ring) : Prop := r'.base = r.base ∧ r'.count = r.count ∧ r'.size = r.size

/-- Every ring changed with its blocks kept, and capture memory changed inside them. -/
theorem Keeps.setRingsMem {rs : Vector (Option Ring) 4} {m : List Host.Cell}
    (hrings : ∀ k : Fin 4, (rs[k] = s.rings[k]) ∨
      ∃ r r', s.rings[k] = some r ∧ rs[k] = some r' ∧ r.SameBlocks r' ∧ (I → s.RingsSound → r'.Sound))
    (hwf : Memory.wf s.mem = true → Memory.wf m = true)
    (hinside : I → s.RingsSound → Memory.wf s.mem = true → ∀ a, ¬ s.HeldByRing a →
      Memory.readByte m a = Memory.readByte s.mem a) :
    Keeps I s { s with rings := rs, mem := m } := by
  have geometry : ∀ k : Fin 4, ∀ r' ∈ rs[k], ∃ r ∈ s.rings[k], r.SameBlocks r' ∧ (I → s.RingsSound → r'.Sound) := by
    intro k r' hr'
    rcases hrings k with heq | ⟨r, x, hr, hx, hblocks, hsound⟩
    · exact ⟨r', by rwa [heq] at hr', ⟨rfl, rfl, rfl⟩, fun _ hs => hs.1 k r' (by rwa [heq] at hr')⟩
    · obtain rfl : x = r' := by simpa [hx] using hr'
      exact ⟨r, by simp [hr], hblocks, hsound⟩
  refine ⟨⟨rfl, hwf, id, id, id, id, fun hI hs => ?_, fun a ha => ?_, hinside⟩, id⟩
  · refine ⟨fun k r' hr' => ?_, fun j k hjk a ha b hb => ?_, hs.2.2⟩
    · obtain ⟨r, -, -, hsound⟩ := geometry k r' hr'
      exact hsound hI hs
    · obtain ⟨x, hx, ⟨h1, h2, h3⟩, -⟩ := geometry j a ha
      obtain ⟨y, hy, ⟨k1, k2, k3⟩, -⟩ := geometry k b hb
      have := hs.2.1 j k hjk x hx y hy
      rwa [h1, h2, h3, k1, k2, k3]
  · obtain ⟨k, hk⟩ := ha
    obtain ⟨r', hr', hin⟩ : ∃ r', rs[k] = some r' ∧ _ := by simpa [State.ring, Option.any_eq_true] using hk
    obtain ⟨r, hr, ⟨h1, h2, h3⟩, -⟩ := geometry k r' (by simp [hr'])
    refine ⟨k, ?_⟩
    have hr : s.rings[k] = some r := hr
    simp only [State.ring, hr, Option.any_some, Bool.and_eq_true, decide_eq_true_eq]
    rwa [← h1, ← h2, ← h3]

/-- A ring changed with its blocks kept, and capture memory changed inside blocks that are held. -/
theorem Keeps.setRingMem {k : Fin 4} {r r' : Ring} {m : List Host.Cell} (hr : s.ring k = some r)
    (hblocks : r.SameBlocks r') (hsound : I → s.RingsSound → r'.Sound)
    (hwf : Memory.wf s.mem = true → Memory.wf m = true)
    (hinside : I → s.RingsSound → Memory.wf s.mem = true → ∀ a, ¬ s.HeldByRing a →
      Memory.readByte m a = Memory.readByte s.mem a) :
    Keeps I s { s.setRing k (some r') with mem := m } := by
  refine Keeps.setRingsMem (rs := s.rings.set k (some r')) (fun j => ?_) hwf hinside
  by_cases h : j = k
  · subst h
    exact .inr ⟨r, r', hr, by simp, hblocks, hsound⟩
  · exact .inl (by simpa [State.setRing, State.ring] using s.setRing_other k j (some r') h)

/-- A ring changed with its blocks kept. -/
theorem Keeps.setRing {k : Fin 4} {r r' : Ring} (hr : s.ring k = some r) (hblocks : r.SameBlocks r')
    (hsound : I → s.RingsSound → r'.Sound) : Keeps I s (s.setRing k (some r')) :=
  Keeps.setRingMem (m := s.mem) hr hblocks hsound id fun _ _ _ _ _ => rfl

/-- Every ring changed in one way that keeps its blocks. -/
theorem Keeps.mapRings {f : Ring → Ring} (hblocks : ∀ r : Ring, r.SameBlocks (f r)) (hsound : ∀ r : Ring, r.Sound → (f r).Sound) :
    Keeps I s { s with rings := s.rings.map fun o => o.map f } := by
  have hrings : ∀ k : Fin 4, ((s.rings.map fun o => o.map f)[k] = s.rings[k]) ∨
      ∃ r r', s.rings[k] = some r ∧ (s.rings.map fun o => o.map f)[k] = some r' ∧ r.SameBlocks r'
        ∧ (I → s.RingsSound → r'.Sound) := fun k => by
    have hmap : (s.rings.map fun o => o.map f)[k] = (s.rings[k]).map f := Vector.getElem_map ..
    cases hr : s.rings[k] with
    | none => exact .inl (by rw [hmap, hr]; rfl)
    | some r => exact .inr ⟨r, f r, rfl, by rw [hmap, hr]; rfl, hblocks r, fun _ hs => hsound r (hs.1 k r hr)⟩
  exact Keeps.setRingsMem (rs := s.rings.map fun o => o.map f) (m := s.mem) hrings id fun _ _ _ _ _ => rfl

theorem State.RingsSound.ring {k : Fin 4} {r : Ring} (h : s.RingsSound) (hr : s.ring k = some r) : r.Sound :=
  h.1 k r (by simp [hr])

end

end Sys2Proof.Machine
end

section
/-! PROOFS. The Ring Manager's operations keep the invariants: a record is written inside its segment, a ring stays sound
through openings, appends, seals and releases (R6 to R11), and so do the notice queue and the reply list. -/

namespace Sys2Proof.Machine

-- One proof after the other, as in the tests: many at once would each hold a thread.
set_option Elab.async false

variable {I : Prop}

/-! ## Words in capture memory -/

@[simp] theorem bytesBE_length (k n : Nat) : (bytesBE k n).length = k := by
  induction k with
  | zero => rfl
  | succ k ih => simp [bytesBE, ih]

/-- Writing words leaves every byte outside them alone. -/
theorem Memory.readByte_writeWords_outside {m : List Host.Cell} (w : Nat) (xs : List Word) (a : Nat)
    (h : Memory.wf m = true) (ha : a < 4 * w ∨ 4 * (w + xs.length) ≤ a) :
    Memory.readByte (Memory.writeWords m w xs) a = Memory.readByte m a := by
  induction xs generalizing m w with
  | nil => rfl
  | cons x xs ih =>
    simp only [List.length_cons] at ha
    rw [Memory.writeWords, ih (w + 1) (Memory.writeBytes_wf _ _ h) (by omega),
      Memory.readByte_writeBytes_outside _ _ _ h (by simp only [bytesBE_length]; omega)]

theorem RecordBody.words_length (step : Nat) (b : RecordBody) : (b.words step).length = b.length := by
  cases b <;> simp [RecordBody.words, RecordBody.length, timeWords]

theorem Record.words_length (rec : Record) : rec.words.length = rec.length := by
  simp [Record.words, Record.length, timeWords, RecordBody.words_length]
  omega

/-! ## A ring's own invariant -/

section
variable {r : Ring}

theorem Ring.seg_of_ge {i : Nat} (h : r.segments.length ≤ i) : r.seg i = .empty := by
  simp [Ring.seg, h]

theorem Ring.seg_mem {i : Nat} (h : i < r.segments.length) : r.seg i ∈ r.segments := by
  simp [Ring.seg, h]

theorem Ring.seg_setSeg (i j : Nat) (g : Segment) :
    (r.setSeg i g).seg j = if i = j ∧ i < r.segments.length then g else r.seg j := by
  simp only [Ring.seg, Ring.setSeg, List.getD_eq_getElem?_getD, List.getElem?_set]
  split
  · next h => subst h; split <;> simp_all
  · next h => simp [h]

theorem Ring.lt_length_of_state_ne_free {i : Nat} (h : (r.seg i).state ≠ .free) : i < r.segments.length := by
  by_contra hge
  exact h (by rw [Ring.seg_of_ge (by omega)]; rfl)

/-- A sound ring with one segment changed within its bounds is sound. -/
theorem Ring.Sound.setSeg (h : r.Sound) {i : Nat} {g : Segment}
    (hg : i < r.count → g.wordsUsed ≤ 256 * r.size ∧ (g.state = .free → g = .empty)
      ∧ (g.state = .filling → r.fillPos = some i)) :
    (r.setSeg i g).Sound := by
  obtain ⟨hcount, hsize, hbase, hlen, hsegs, hfill, hpos, hstall⟩ := h
  refine ⟨hcount, hsize, hbase, by simpa [Ring.setSeg] using hlen, fun x hx => ?_, fun j hj hstate => ?_, hpos, hstall⟩
  · rcases List.mem_or_eq_of_mem_set hx with hold | rfl
    · exact hsegs x hold
    · by_cases hi : i < r.count
      · exact ⟨(hg hi).1, (hg hi).2.1⟩
      · rw [show (r.setSeg i x).segments = r.segments from
          List.set_eq_of_length_le (by omega)] at hx
        exact hsegs x hx
  · rw [Ring.seg_setSeg] at hstate
    split at hstate
    · next hij => obtain ⟨rfl, -⟩ := hij; exact (hg hj).2.2 hstate
    · exact hfill j hj hstate

theorem Ring.Sound.seg_wordsUsed (h : r.Sound) (i : Nat) : (r.seg i).wordsUsed ≤ 256 * r.size := by
  obtain ⟨-, -, -, -, hsegs, -⟩ := h
  by_cases hi : i < r.segments.length
  · exact (hsegs _ (Ring.seg_mem hi)).1
  · rw [Ring.seg_of_ge (by omega)]; exact Nat.zero_le _

theorem Ring.Sound.seg_free (h : r.Sound) {i : Nat} (hi : (r.seg i).state = .free) : r.seg i = .empty := by
  obtain ⟨-, -, -, -, hsegs, -⟩ := h
  by_cases hlt : i < r.segments.length
  · exact (hsegs _ (Ring.seg_mem hlt)).2 hi
  · exact Ring.seg_of_ge (by omega)

theorem Ring.filling_eq_some {i : Nat} : r.filling = some i ↔ r.fillPos = some i ∧ (r.seg i).state = .filling := by
  simp only [Ring.filling, Option.filter_eq_some_iff, beq_iff_eq]

theorem Ring.filling_eq_none : r.filling = none ↔ ∀ i, r.fillPos = some i → (r.seg i).state ≠ .filling := by
  simp only [Ring.filling, Option.filter_eq_none_iff, beq_iff_eq]

/-- The awaited segment is one of the ring's (R10). -/
theorem Ring.Sound.awaited_lt (h : r.Sound) : r.awaited < r.count := by
  obtain ⟨⟨hcount, -⟩, -⟩ := h
  unfold Ring.awaited
  split
  · omega
  · exact Nat.mod_lt _ (by omega)

/-- A segment changed to a state that is neither FREE nor FILLING, its words kept. -/
theorem Ring.Sound.setState (h : r.Sound) (i : Nat) {g : Segment} (hw : g.wordsUsed = (r.seg i).wordsUsed)
    (hfree : g.state ≠ .free) (hfilling : g.state ≠ .filling) : (r.setSeg i g).Sound :=
  h.setSeg fun _ => ⟨hw ▸ h.seg_wordsUsed i, fun hg => absurd hg hfree, fun hg => absurd hg hfilling⟩

theorem Ring.Sound.free (h : r.Sound) (i : Nat) : (r.setSeg i .empty).Sound :=
  h.setSeg fun _ => ⟨Nat.zero_le _, fun _ => rfl, fun hf => nomatch hf⟩

theorem Ring.Sound.sealed (h : r.Sound) (i : Nat) (cause : SealCause) : Ring.Sound (r.sealed i cause) :=
  h.setState i (g := { r.seg i with
    state := .sealed, seqNo := r.nextSeq, sealCause := some cause, gapBefore := r.gapPending }) rfl nofun nofun

/-- The awaited segment opened while none is FILLING (R10). -/
theorem Ring.Sound.openAwaited (h : r.Sound) (hnone : r.filling = none) : r.openAwaited.Sound := by
  have hlt := h.awaited_lt
  obtain ⟨hcount, hsize, hbase, hlen, hsegs, hfill, hpos, hstall⟩ := h
  refine ⟨hcount, hsize, hbase, by simpa [Ring.openAwaited, Ring.setSeg] using hlen, fun x hx => ?_,
    fun j hj hstate => ?_, fun i hi => ?_, hstall⟩
  · rcases List.mem_or_eq_of_mem_set hx with hold | rfl
    · exact hsegs x hold
    · exact ⟨(hsegs _ (Ring.seg_mem (hlen ▸ hlt))).1, nofun⟩
  · have hseg : r.openAwaited.seg j = (r.setSeg r.awaited { r.seg r.awaited with state := .filling }).seg j := rfl
    rw [hseg, Ring.seg_setSeg] at hstate
    split at hstate
    · next hij => exact congrArg some hij.1
    · exact absurd hstate (Ring.filling_eq_none.mp hnone j (hfill j hj hstate))
  · obtain rfl : r.awaited = i := by simpa [Ring.openAwaited] using hi
    exact hlt

theorem Ring.Sound.appended (h : r.Sound) {i : Nat} {rec : Record} (hi : r.filling = some i)
    (hfit : (r.seg i).wordsUsed + rec.length ≤ r.segWords) : (r.setSeg i ((r.seg i).appended rec)).Sound := by
  obtain ⟨hpos, hstate⟩ := Ring.filling_eq_some.mp hi
  refine h.setSeg fun _ => ⟨?_, fun hf => ?_, fun _ => hpos⟩
  · simp only [Ring.segWords, Config.blockWords] at hfit
    simp only [Segment.appended]
    omega
  · exact absurd (hstate.symm.trans hf) nofun

theorem Ring.Sound.stallList (h : r.Sound) {l : List StallEntry} (hl : ∀ x ∈ l, x.record.length ≤ 67) :
    Ring.Sound { r with stallList := l } := by
  obtain ⟨hcount, hsize, hbase, hlen, hsegs, hfill, hpos, -⟩ := h
  exact ⟨hcount, hsize, hbase, hlen, hsegs, hfill, hpos, hl⟩

theorem Ring.Sound.stalled (h : r.Sound) : ∀ x ∈ r.stallList, x.record.length ≤ 67 := h.2.2.2.2.2.2.2

theorem Ring.Sound.cleared (h : r.Sound) : r.cleared.Sound := by
  obtain ⟨hcount, hsize, hbase, hlen, -, -, -, hstall⟩ := h
  refine ⟨hcount, hsize, hbase, by simpa [Ring.cleared] using hlen, fun g hg => ?_, fun i _ hi => ?_, nofun, hstall⟩
  · obtain rfl : Segment.empty = g := by
      obtain ⟨x, -, hx⟩ := List.mem_map.mp hg
      exact hx
    exact ⟨Nat.zero_le _, fun _ => rfl⟩
  · have hempty : r.cleared.seg i = .empty := by
      simp only [Ring.cleared, Ring.seg, List.getD_eq_getElem?_getD, List.getElem?_map]
      cases r.segments[i]? <;> rfl
    rw [hempty] at hi
    exact nomatch hi

end

/-! ## Notices and replies -/

/-- Entries numbered consecutively up to the next number: what comes first keeps its number when one is appended. -/
theorem NoticeQueue.Sound.append {q : NoticeQueue} (h : q.Sound) {kind : NoticeKind} {subject : Byte} {now : Time}
    {a : Word} {b : Half} (hroom : q.entries.length < 256) (hkind : q.entries.length = 255 → kind = .overflow) :
    (q.append kind subject now a b).Sound := by
  obtain ⟨hlen, hnumbers, hlast, hprefix, hlost, hcredits⟩ := h
  refine ⟨by simp; omega, ?_, fun hfull => ?_, ?_, fun hne => absurd (hlost hne) (by omega), hcredits⟩
  · rw [NoticeQueue.append_length, List.range_succ]
    simp only [NoticeQueue.append, List.map_append, hnumbers, List.map_cons, List.map_nil]
    congr 1
    · refine List.map_congr_left fun i hi => ?_
      have hi := List.mem_range.mp hi
      rw [show q.entries.length + 1 - i = (q.entries.length - i) + 1 by omega, BitVec.ofNat_add]
      exact (add_sub_add_right_eq_sub _ _ _).symm
    · simp only [List.cons.injEq, and_true]
      rw [show q.entries.length + 1 - q.entries.length = 1 by omega]
      exact (add_sub_cancel_right _ _).symm
  · rw [NoticeQueue.append_length] at hfull
    simp [NoticeQueue.append, hkind (by omega)]
  · simp only [NoticeQueue.append]
    exact List.pairwise_append.mpr ⟨hprefix, List.pairwise_singleton _ _, fun x _ y hy hd => by simp_all⟩

/-- A change of the entries that keeps their numbers and kinds and the order of the delivered marks. -/
theorem NoticeQueue.Sound.mapEntries {q q' : NoticeQueue} (h : q.Sound)
    (hnumbers : q'.entries.map (fun n => n.number) = q.entries.map fun n => n.number)
    (hkinds : q'.entries.map (fun n => n.kind) = q.entries.map fun n => n.kind) (hnext : q'.nextNo = q.nextNo)
    (hmarks : q'.entries.Pairwise fun a b => b.delivered = true → a.delivered = true)
    (hlost : q'.heldLost ≠ 0 → q.entries.length = 256) (hcredits : q'.credits ≤ 32) : q'.Sound := by
  obtain ⟨hlen, hold, hlast, -, -, -⟩ := h
  have hlength : q'.entries.length = q.entries.length := by simpa using congrArg List.length hnumbers
  refine ⟨by omega, by rw [hnumbers, hold, hlength, hnext], fun hfull => ?_, hmarks, fun hne => ?_, hcredits⟩
  · rw [← List.getLast?_map, hkinds, List.getLast?_map]
    exact hlast (by omega)
  · rw [hlength]; exact hlost hne

theorem NoticeQueue.Sound.lose {q : NoticeQueue} (h : q.Sound) (hfull : 255 < q.entries.length) : q.lose.Sound := by
  have hlen : q.entries.length = 256 := by
    obtain ⟨hle, -⟩ := h
    omega
  have ⟨_, _, _, hprefix, hlost, hcredits⟩ := h
  unfold NoticeQueue.lose
  split
  next m hm =>
    obtain ⟨es, hes⟩ := List.getLast?_eq_some_iff.mp hm
    split
    · exact h.mapEntries rfl rfl rfl hprefix (fun _ => hlen) hcredits
    · next hnew =>
      have hcount : m.countLoss.number = m.number ∧ m.countLoss.kind = m.kind ∧ m.countLoss.delivered = m.delivered := by
        unfold Notice.countLoss
        split <;> exact ⟨rfl, rfl, rfl⟩
      refine h.mapEntries (by simp [hes, hcount]) (by simp [hes, hcount]) rfl ?_ hlost hcredits
      rw [hes] at hprefix
      have ⟨hes', _, hmark⟩ := List.pairwise_append.mp hprefix
      simp only [hes, List.dropLast_concat]
      refine List.pairwise_append.mpr ⟨hes', List.pairwise_singleton _ _, fun x hx y hy hd => ?_⟩
      obtain rfl := List.mem_singleton.mp hy
      exact absurd (hcount.2.2 ▸ hd) hnew
  · exact h

theorem NoticeQueue.Sound.post {q : NoticeQueue} (h : q.Sound) (kind : NoticeKind) (subject : Byte) (now : Time)
    (a : Word) (b : Half) : (q.post kind subject now a b).Sound := by
  rcases q.post_cases kind subject now a b with ⟨hlt, hpost⟩ | ⟨heq, hpost⟩ | ⟨hfull, hpost⟩ <;> rw [hpost]
  · exact h.append (by omega) fun _ => by omega
  · exact h.append (by omega) fun _ => rfl
  · exact h.lose hfull

theorem Keeps.post (s : State) (kind : NoticeKind) (subject : Byte) (a : Word) (b : Half) :
    Keeps I s (s.post kind subject a b) :=
  Keeps.setNotices fun h => h.post kind subject s.timeBase a b

/-- A change of the Host Link that leaves tags, refusals, rejects and the receiver as they are, or fewer. -/
theorem Link.Sound.mono {l l' : Link} (h : l.Sound)
    (htags : (l'.outstanding.map fun o => o.tag).Sublist (l.outstanding.map fun o => o.tag))
    (hrejects : l'.rejects.length ≤ l.rejects.length)
    (hrefusals : (l'.replies.filter fun r => r.refusal).length ≤ (l.replies.filter fun r => r.refusal).length)
    (hreceiver : l'.receiver = l.receiver) : l'.Sound := by
  obtain ⟨hlen, hnodup, hzero, hrej, href, hrec⟩ := h
  refine ⟨?_, hnodup.sublist htags, fun o ho hz => ?_, by omega, by omega, by rwa [hreceiver]⟩
  · have := htags.length_le
    simp only [List.length_map] at this
    omega
  · obtain ⟨x, hx, hxo⟩ := List.mem_map.mp (htags.subset (List.mem_map_of_mem ho))
    exact hzero x hx (hxo.trans hz)

theorem placeReply_tags (os : List OutEntry) (tag : Byte) (stage : Stage) :
    (os.map fun o => if o.tag = tag then { o with stage := stage } else o).map (fun o => o.tag)
      = os.map fun o => o.tag := by
  rw [List.map_map]
  refine List.map_congr_left fun o _ => ?_
  simp only [Function.comp]
  split <;> rfl

theorem Keeps.placeReply (s : State) (tag kind : Byte) (body : List Byte) : Keeps I s (s.placeReply tag kind body) :=
  Keeps.setLink fun h => h.mono (by rw [placeReply_tags]) (Nat.le_refl _) (by simp) rfl

theorem Keeps.replyOk (s : State) (tag kind : Byte) (fields : List Byte) : Keeps I s (s.replyOk tag kind fields) :=
  Keeps.placeReply _ _ _ _

theorem Keeps.replyNot (s : State) (tag kind : Byte) (st : Status) (detail : Byte) :
    Keeps I s (s.replyNot tag kind st detail) :=
  Keeps.placeReply _ _ _ _

/-! ## Placement -/

section
variable {s : State} {k : Fin 4}

theorem Keeps.sealSegment {r : Ring} (hr : s.ring k = some r) (i : Nat) (cause : SealCause) :
    Keeps I s (s.sealSegment k r i cause) :=
  (Keeps.setRing (r' := r.sealed i cause) hr ⟨rfl, rfl, rfl⟩ fun _ hs => Ring.Sound.sealed (hs.ring hr) i cause).trans (Keeps.post _ _ _ _ _)

theorem Keeps.sealIfFull (rec : Record) : Keeps I s (s.sealIfFull k rec) := by
  unfold State.sealIfFull
  split
  · exact .refl s
  next r hr =>
  split
  · exact .refl s
  split
  · exact .refl s
  · exact .sealSegment hr _ _

theorem Keeps.openIfNeeded : Keeps I s (s.openIfNeeded k) := by
  unfold State.openIfNeeded
  split
  · exact .refl s
  next r hr =>
  split
  · exact .refl s
  next hnone =>
  split
  · exact .setRing hr ⟨rfl, rfl, rfl⟩ fun _ hs => (hs.ring hr).openAwaited hnone
  · exact .refl s

/-- The words of a record that fits its segment lie in blocks its ring holds (R1, R9). -/
theorem appendRecord_inside {r : Ring} {i : Nat} {rec : Record} (hr : s.ring k = some r) (hs : s.RingsSound)
    (hi : r.filling = some i) (hfit : (r.seg i).wordsUsed + rec.length ≤ r.segWords) (hm : Memory.wf s.mem = true)
    {a : Nat} (ha : ¬ s.HeldByRing a) :
    Memory.readByte (s.appendRecord k r i rec).mem a = Memory.readByte s.mem a := by
  rw [State.appendRecord_mem]
  refine Memory.readByte_writeWords_outside _ _ _ hm ?_
  rw [Record.words_length]
  by_contra hin
  have hlt : i < r.count := by
    obtain ⟨-, -, -, hlen, -⟩ := hs.ring hr
    exact hlen ▸ Ring.lt_length_of_state_ne_free (by simp [(Ring.filling_eq_some.mp hi).2])
  have hlast : (i + 1) * r.size ≤ r.count * r.size := Nat.mul_le_mul_right _ hlt
  simp only [Ring.segBase, Ring.segWords, Config.blockWords, Nat.add_mul, Nat.one_mul] at hin hfit hlast
  refine ha ⟨k, ?_⟩
  simp only [hr, Option.any_some, Bool.and_eq_true, decide_eq_true_eq]
  generalize i * r.size = x at *
  generalize r.count * r.size = y at *
  omega

theorem Keeps.appendRecord {r : Ring} {i : Nat} {rec : Record} (hr : s.ring k = some r) (hi : r.filling = some i)
    (hfit : I → s.RingsSound → (r.seg i).wordsUsed + rec.length ≤ r.segWords) : Keeps I s (s.appendRecord k r i rec) := by
  have hsound : I → s.RingsSound → (r.setSeg i ((r.seg i).appended rec)).Sound := fun hI hs =>
    (hs.ring hr).appended hi (hfit hI hs)
  have hinside : I → s.RingsSound → Memory.wf s.mem = true → ∀ a, ¬ s.HeldByRing a → Memory.readByte
      (Memory.writeWords s.mem (r.segBase i + (r.seg i).wordsUsed) rec.words) a = Memory.readByte s.mem a :=
    fun hI hs hm a ha => by
      rw [← State.appendRecord_mem s k]
      exact appendRecord_inside hr hs hi (hfit hI hs) hm ha
  exact Keeps.setRingMem hr ⟨rfl, rfl, rfl⟩ hsound (Memory.writeWords_wf _ _) hinside

theorem Keeps.appendFilling {rec : Record} {sealOnEnd : Bool}
    (hfit : I → s.RingsSound → ∀ r i, s.ring k = some r → r.filling = some i →
      (r.seg i).wordsUsed + rec.length ≤ r.segWords) :
    Keeps I s (s.appendFilling k rec sealOnEnd).1 := by
  unfold State.appendFilling
  split
  · exact .refl s
  next r hr =>
  split
  · exact .refl s
  next i hi =>
  have happend := Keeps.appendRecord hr hi fun hI hs => hfit hI hs r i hr hi
  dsimp only
  split
  · exact happend.trans (.sealSegment (by simp [State.appendRecord, State.ring, State.setRing]) _ _)
  · exact happend

/-- After steps 2 and 3 of R9 a record fits the FILLING segment, if there is one: it fitted before, or the segment has
just been opened and is empty. -/
theorem fits_after_opening {rec : Record} (hs : s.RingsSound) (hlen : rec.length ≤ 67) {r : Ring} {i : Nat}
    (hr : ((s.sealIfFull k rec).openIfNeeded k).ring k = some r) (hi : r.filling = some i) :
    (r.seg i).wordsUsed + rec.length ≤ r.segWords := by
  have hsound := (Keeps.sealIfFull (I := True) (k := k) rec).rings trivial hs
  have hfull : ∀ r i, (s.sealIfFull k rec).ring k = some r → r.filling = some i →
      (r.seg i).wordsUsed + rec.length ≤ r.segWords := by
    intro r i hr hi
    unfold State.sealIfFull at hr
    split at hr
    · simp_all
    next r0 hr0 =>
    split at hr
    · simp_all
    next j hj =>
    split at hr
    · simp_all
    · obtain rfl : r0.sealed j .full = r := by simpa [State.sealSegment] using hr
      obtain ⟨hpos, hstate⟩ := Ring.filling_eq_some.mp hi
      obtain ⟨hpos0, hstate0⟩ := Ring.filling_eq_some.mp hj
      obtain rfl : j = i := by simpa [Ring.sealed, Ring.setSeg, hpos0] using hpos
      have hseg : (r0.sealed j .full).seg j
          = (r0.setSeg j { r0.seg j with
              state := .sealed, seqNo := r0.nextSeq, sealCause := some .full, gapBefore := r0.gapPending }).seg j := rfl
      rw [hseg, Ring.seg_setSeg, if_pos ⟨rfl, Ring.lt_length_of_state_ne_free (by simp [hstate0])⟩] at hstate
      exact nomatch hstate
  generalize s.sealIfFull k rec = u at *
  unfold State.openIfNeeded at hr
  split at hr
  · exact hfull r i hr hi
  next r0 hr0 =>
  split at hr
  · exact hfull r i hr hi
  next hnone =>
  split at hr
  · next hfree =>
    obtain rfl : r0.openAwaited = r := by simpa using hr
    have hr0 := hsound.ring hr0
    obtain ⟨hpos, hstate⟩ := Ring.filling_eq_some.mp hi
    obtain rfl : r0.awaited = i := by simpa [Ring.openAwaited] using hpos
    have hseg : r0.openAwaited.seg r0.awaited
        = (r0.setSeg r0.awaited { r0.seg r0.awaited with state := .filling }).seg r0.awaited := rfl
    have hempty : (r0.openAwaited.seg r0.awaited).wordsUsed = 0 := by
      rw [hseg, Ring.seg_setSeg, hr0.seg_free hfree]
      split <;> rfl
    have ⟨_, ⟨hsize, _⟩, _⟩ := hr0
    rw [hempty]
    simp only [Ring.segWords, Ring.openAwaited, Ring.setSeg, Config.blockWords]
    omega
  · exact hfull r i hr hi

theorem Keeps.place {rec : Record} {sealOnEnd : Bool} (hlen : I → s.RingsSound → rec.length ≤ 67) :
    Keeps I s (s.place k rec sealOnEnd).1 := by
  have hplace : Keeps (I ∧ s.RingsSound) s (s.place k rec sealOnEnd).1 :=
    ((Keeps.sealIfFull rec).trans Keeps.openIfNeeded).trans <|
      Keeps.appendFilling fun ⟨hI, hs⟩ _ _ _ => fits_after_opening hs (hlen hI hs)
  exact hplace.given

theorem Keeps.drop {r : Ring} (hr : s.ring k = some r) : Keeps I s (s.drop k r) := by
  unfold State.drop
  have hcount : Keeps I s (s.setRing k (some { r with
      discardCount := min (r.discardCount + 1) Config.max32, gapPending := true })) :=
    .setRing hr ⟨rfl, rfl, rfl⟩ fun _ hs => show r.Sound from hs.ring hr
  dsimp only
  split
  · exact hcount
  · exact hcount.trans (.post _ _ _ _ _)

theorem Keeps.commit {e : Fin 4} {rec : Record} {sealOnEnd : Bool} (hlen : I → s.RingsSound → rec.length ≤ 67) :
    Keeps I s (s.commit k e rec sealOnEnd).1 := by
  have hcommit : Keeps (I ∧ s.RingsSound) s (s.commit k e rec sealOnEnd).1 := by
    have hplace : Keeps (I ∧ s.RingsSound) s (s.place k rec sealOnEnd).1 := Keeps.place fun h => hlen h.1
    unfold State.commit
    dsimp only
    split
    · exact hplace
    split
    · exact hplace
    next r hr =>
    split
    · exact hplace.trans (.drop hr)
    · refine hplace.trans (.setRing hr ⟨rfl, rfl, rfl⟩ fun ⟨hI, hs⟩ hu => (hu.ring hr).stallList fun x hx => ?_)
      rcases List.mem_append.mp hx with hold | hnew
      · exact (hu.ring hr).stalled x hold
      · obtain rfl := List.mem_singleton.mp hnew
        exact hlen hI hs
  exact hcommit.given

/-! ## The stall list -/

theorem Keeps.placeStalled (l : List StallEntry) (s : State)
    (hlen : I → ∀ x ∈ l, x.record.length ≤ 67) : Keeps I s (State.placeStalled k l s).1 := by
  induction l generalizing s with
  | nil => exact .refl s
  | cons x xs ih =>
    have hplace : Keeps I s (s.place k x.record x.sealOnEnd).1 :=
      Keeps.place fun hI _ => hlen hI x (List.mem_cons_self ..)
    unfold State.placeStalled
    dsimp only
    split
    · exact hplace.trans (ih _ fun hI y hy => hlen hI y (List.mem_cons_of_mem _ hy))
    · exact hplace

/-- What the placements leave of the stall list was on it. -/
theorem placeStalled_left_subset (l : List StallEntry) (s : State) : (State.placeStalled k l s).2.1 ⊆ l := by
  induction l generalizing s with
  | nil => exact List.Subset.refl _
  | cons x xs ih =>
    unfold State.placeStalled
    dsimp only
    split
    · exact List.Subset.trans (ih _) (List.subset_cons_self x xs)
    · exact List.Subset.refl _

theorem Keeps.wakeRing : Keeps I s (s.wakeRing k).1 := by
  unfold State.wakeRing
  split
  · exact .refl s
  next r hr =>
  split
  · exact .refl s
  have hlen : s.RingsSound → ∀ x ∈ r.stallList, x.record.length ≤ 67 := fun hs => (hs.ring hr).stalled
  have hplaced : Keeps (I ∧ s.RingsSound) s (State.placeStalled k r.stallList s).1 := Keeps.placeStalled _ s fun h => hlen h.2
  dsimp only
  split
  · exact hplaced.given
  next r1 hr1 =>
  have hleft : I ∧ s.RingsSound → (State.placeStalled k r.stallList s).1.RingsSound →
      Ring.Sound { r1 with stallList := (State.placeStalled k r.stallList s).2.1 } := fun h hu =>
    (hu.ring hr1).stallList fun x hx => hlen h.2 x (placeStalled_left_subset _ _ hx)
  refine (hplaced.trans ?_).given
  exact .setRing hr1 ⟨rfl, rfl, rfl⟩ hleft

theorem Ring.Sound.removeStalled {r : Ring} (h : r.Sound) (e : Fin 4) : (r.removeStalled e).Sound :=
  h.stallList fun x hx => h.stalled x (List.mem_filter.mp hx).1

theorem Keeps.leaveStall (s : State) (e : Fin 4) : Keeps I s (s.leaveStall e) :=
  Keeps.mapRings (fun _ => ⟨rfl, rfl, rfl⟩) fun _ h => h.removeStalled e

/-! ## Segments changing hands -/

theorem Keeps.freeSegment {r : Ring} (hr : s.ring k = some r) (i : Nat) : Keeps I s (s.freeSegment k r i) :=
  .setRing hr ⟨rfl, rfl, rfl⟩ fun _ hs => (hs.ring hr).free i

/-- A READING segment goes back to READ or SEALED, any other stays as it is (R21). -/
theorem Ring.Sound.unclaim {r : Ring} (h : r.Sound) (i : Nat) :
    (r.setSeg i { r.seg i with state := (r.seg i).state.beforeRead }).Sound := by
  have ⟨_, _, _, _, _, hfill, _, _⟩ := h
  refine h.setSeg fun hi => ⟨h.seg_wordsUsed i, fun hfree => ?_, fun hfilling => ?_⟩
  · have hold : (r.seg i).state = .free := by
      cases hst : (r.seg i).state with
      | free => rfl
      | reading b => cases b <;> simp [hst, SegState.beforeRead] at hfree
      | filling | sealed | read => simp [hst, SegState.beforeRead] at hfree
    rw [h.seg_free hold]
    rfl
  · refine hfill i hi ?_
    cases hst : (r.seg i).state with
    | filling => rfl
    | reading b => cases b <;> simp [hst, SegState.beforeRead] at hfilling
    | free | sealed | read => simp [hst, SegState.beforeRead] at hfilling

theorem Keeps.unclaim (s : State) (k : Fin 4) (i : Nat) : Keeps I s (s.unclaim k i) := by
  unfold State.unclaim
  split
  · exact .refl s
  next r hr => exact .setRing hr ⟨rfl, rfl, rfl⟩ fun _ hs => (hs.ring hr).unclaim i

end

end Sys2Proof.Machine
end

section
/-! PROOFS. A probe port's own operations keep it sound (R96, R97, R102, R108, R111, R126, R127, R143). -/

namespace Sys2Proof.Machine

-- One proof after the other, as in the tests: many at once would each hold a thread.
set_option Elab.async false

/-- What a port's soundness says of everything but its wait list and its pending commit. -/
structure Port.Basic (p : Port) : Prop where
  supplyOff : p.state = .off ∨ p.state = .fault → p.supply = false
  supplyOn : p.state ≠ .off → p.state ≠ .fault → p.state ≠ .stopping → p.supply = true
  cause : p.faultCause.isSome = true ↔ p.state = .fault
  identified : p.state = .up ∨ p.state = .retraining ∨ p.state = .draining → p.identity.isSome = true
  unidentified :
    p.state = .off ∨ p.state = .powering ∨ p.state = .clocking ∨ p.state = .identifying → p.identity = none
  held : p.holder.isSome = true → p.state = .up ∨ p.state = .draining
  tally : p.tally ≤ 255

theorem Port.sound_iff {p : Port} : p.Sound ↔ p.Basic
    ∧ (p.waiters ≠ [] → p.state = .retraining ∨ p.state = .draining ∨ (p.state = .up ∧ p.holder.isSome = true))
    ∧ (p.commitPending = true → p.state = .draining ∨ (p.state = .up ∧ p.holder.isSome = true)) :=
  ⟨fun ⟨h1, h2, h3, h4, h5, h6, hw, hc, h9⟩ => ⟨⟨h1, h2, h3, h4, h5, h6, h9⟩, hw, hc⟩,
    fun ⟨⟨h1, h2, h3, h4, h5, h6, h9⟩, hw, hc⟩ => ⟨h1, h2, h3, h4, h5, h6, hw, hc, h9⟩⟩

section
variable {p : Port}

theorem Port.Sound.basic (h : p.Sound) : p.Basic := (Port.sound_iff.mp h).1

theorem Port.Sound.waiting (h : p.Sound) (hw : p.waiters ≠ []) :
    p.state = .retraining ∨ p.state = .draining ∨ (p.state = .up ∧ p.holder.isSome = true) :=
  (Port.sound_iff.mp h).2.1 hw

/-- Basic soundness without wait list and pending commit is soundness. -/
theorem Port.Basic.sound (h : p.Basic) (hw : p.waiters = []) (hc : p.commitPending = false) : p.Sound :=
  Port.sound_iff.mpr ⟨h, fun hne => absurd hw hne, fun ht => by simp [hc] at ht⟩

/-- Where a port without a holder has waiters or a pending commit, it is in one of the states that allow both. -/
theorem Port.Sound.release (h : p.Sound) : Port.Basic { p with holder := none } :=
  have b := h.basic
  ⟨b.supplyOff, b.supplyOn, b.cause, b.identified, b.unidentified, nofun, b.tally⟩

theorem Port.Sound.startOrdinary (h : p.Sound) (who : Requester) (fn : PortFn) (sub : Fin 16) :
    (p.startOrdinary who fn sub).Sound := by
  cases fn <;> exact h

theorem Port.startOrdinary_state (who : Requester) (fn : PortFn) (sub : Fin 16) :
    (p.startOrdinary who fn sub).state = p.state := by
  cases fn <;> rfl

theorem Port.Sound.attempt (h : p.Sound) : p.attempt.Sound := by
  unfold Port.attempt
  split <;> exact h

theorem Port.Sound.tallied (h : p.Sound) (o : TxnOutcome) : (p.tallied o).Sound := by
  obtain ⟨h1, h2, h3, h4, h5, h6, hw, hc, -⟩ := h
  refine ⟨h1, h2, h3, h4, h5, h6, hw, hc, ?_⟩
  simp only [Port.tallied, Config.maxTally]
  split <;> omega

/-- Joining the wait list where the answer to the request is to wait (R127). -/
theorem Port.Sound.join (h : p.Sound) (w : Waiter) (hwait : p.answer = .wait) : (p.join w).Sound := by
  obtain ⟨hb, -, hc⟩ := Port.sound_iff.mp h
  refine Port.sound_iff.mpr ⟨⟨hb.supplyOff, hb.supplyOn, hb.cause, hb.identified, hb.unidentified, hb.held, hb.tally⟩,
    fun _ => ?_, hc⟩
  unfold Port.answer at hwait
  cases hst : p.state <;> simp [hst] at hwait
  · exact .inr (.inr ⟨hst, by cases hh : p.holder <;> simp_all [Port.join]⟩)
  · exact .inl hst

theorem Port.Sound.leave (h : p.Sound) (who : Requester) : (p.leave who).Sound := by
  obtain ⟨hb, hw, hc⟩ := Port.sound_iff.mp h
  refine Port.sound_iff.mpr ⟨⟨hb.supplyOff, hb.supplyOn, hb.cause, hb.identified, hb.unidentified, hb.held, hb.tally⟩,
    fun hne => hw fun hnil => hne ?_, hc⟩
  simp [Port.leave, hnil]

/-- The grant given to a requester at an UP port. -/
theorem Port.Basic.grant (h : p.Basic) (hup : p.state = .up) (who : Requester) (ws : List Waiter) :
    Port.Sound { p with holder := some who, waiters := ws } :=
  Port.sound_iff.mpr ⟨⟨h.supplyOff, h.supplyOn, h.cause, h.identified, h.unidentified, fun _ => .inl hup, h.tally⟩,
    fun _ => .inr (.inr ⟨hup, rfl⟩), fun _ => .inr ⟨hup, rfl⟩⟩

theorem Port.answer_granted (h : p.answer = .granted) : p.state = .up ∧ p.holder = none := by
  unfold Port.answer at h
  cases hst : p.state <;> simp [hst] at h
  exact ⟨rfl, h⟩

/-! ## States entered -/

theorem Port.Sound.enterFault (h : p.Sound) (cause : FaultCause) : Port.Basic ((p.enterFault cause).vacate) :=
  ⟨fun _ => rfl, fun _ hne => absurd rfl hne, ⟨fun _ => rfl, fun _ => rfl⟩, nofun, nofun, nofun, h.basic.tally⟩

theorem Port.Basic.enterStopping (h : p.Basic) (hne : p.state ≠ .fault) (hholder : p.holder = none) :
    p.enterStopping.Basic where
  supplyOff := nofun
  supplyOn _ _ hs := absurd rfl hs
  cause := ⟨fun hc => absurd (h.cause.mp hc) hne, nofun⟩
  identified := nofun
  unidentified := nofun
  held hs := by simp [Port.enterStopping, hholder] at hs
  tally := h.tally

theorem Port.Sound.enterPowering (h : p.Sound) (hoff : p.state = .off) : p.enterPowering.Sound := by
  obtain ⟨h1, h2, h3, h4, h5, h6, hw, hc, h9⟩ := h
  simp_all [Port.Sound, Port.enterPowering]

theorem Port.Sound.enterClocking (h : p.Sound) (hp : p.state = .powering) : p.enterClocking.Sound := by
  obtain ⟨h1, h2, h3, h4, h5, h6, hw, hc, h9⟩ := h
  simp_all [Port.Sound, Port.enterClocking]

theorem Port.Sound.enterIdentifying (h : p.Sound) (hp : p.state = .clocking) (n : Nat) :
    Port.Sound { p with state := .identifying, attempts := n } := by
  obtain ⟨h1, h2, h3, h4, h5, h6, hw, hc, h9⟩ := h
  simp_all [Port.Sound]

/-- The end of the supply, or the discharge after it, in STOPPING (R106). -/
theorem Port.Sound.stopClock (h : p.Sound) (hp : p.state = .stopping) (n : Option Nat) :
    Port.Sound { p with supply := false, phase := n } := by
  obtain ⟨h1, h2, h3, h4, h5, h6, hw, hc, h9⟩ := h
  simp_all [Port.Sound]

theorem Port.Sound.enterOff (h : p.Sound) (hp : p.state = .stopping ∨ p.state = .fault) : p.enterOff.Sound := by
  obtain ⟨h1, h2, h3, h4, h5, h6, hw, hc, h9⟩ := h
  rcases hp with hp | hp <;> simp_all [Port.Sound, Port.enterOff]

theorem Port.Sound.enterDraining (h : p.Sound) (hp : p.state = .up) : Port.Sound { p with state := .draining } := by
  obtain ⟨h1, h2, h3, h4, h5, h6, hw, hc, h9⟩ := h
  simp_all [Port.Sound]

/-- UP with an identity, after identification or a retrain. -/
theorem Port.Sound.enterUp (h : p.Sound) (hp : p.state = .identifying ∨ p.state = .retraining) (d : Identity) :
    (p.enterUp d).Basic ∧ (p.enterUp d).commitPending = false
      ∧ (p.state = .identifying → (p.enterUp d).waiters = []) := by
  obtain ⟨h1, h2, h3, h4, h5, h6, hw, hc, h9⟩ := h
  refine ⟨⟨?_, ?_, ?_, ?_, ?_, ?_, h9⟩, ?_, ?_⟩ <;> rcases hp with hp | hp <;> simp_all [Port.enterUp]

/-! ## The profile copy -/

/-- What a copy leaves of a port without a holder (R144, Table 7-3): its wait list, and its state but for IDENTIFYING,
which goes back to CLOCKING, and UP, which may go to RETRAINING. -/
theorem Port.copy_cases (h : p.Basic) (hholder : p.holder = none) :
    p.copy.Basic ∧ p.copy.holder = none ∧ p.copy.waiters = p.waiters ∧ p.copy.commitPending = false
      ∧ (p.copy.state = p.state ∨ (p.state = .identifying ∧ p.copy.state = .clocking)
          ∨ (p.state = .up ∧ p.copy.state = .retraining)) := by
  obtain ⟨h1, h2, h3, h4, h5, h6, h9⟩ := h
  have same : Port.Basic { p with active := p.staged, commitPending := false } := ⟨h1, h2, h3, h4, h5, h6, h9⟩
  unfold Port.copy
  dsimp only
  split
  · exact ⟨same, hholder, rfl, rfl, .inl rfl⟩
  · have habandon : ∀ q : Port, q.abandonQuiet.supply = q.supply ∧ q.abandonQuiet.faultCause = q.faultCause
        ∧ q.abandonQuiet.identity = q.identity ∧ q.abandonQuiet.holder = q.holder
        ∧ q.abandonQuiet.waiters = q.waiters ∧ q.abandonQuiet.commitPending = q.commitPending
        ∧ q.abandonQuiet.tally = q.tally ∧ q.abandonQuiet.state = q.state := fun q => by
      unfold Port.abandonQuiet
      split <;> exact ⟨rfl, rfl, rfl, rfl, rfl, rfl, rfl, rfl⟩
    unfold Port.rateChanged
    split
    next hst => exact ⟨⟨h1, h2, h3, h4, h5, h6, h9⟩, hholder, rfl, rfl, .inl rfl⟩
    next hst =>
      dsimp only at hst
      refine ⟨⟨?_, ?_, ?_, ?_, ?_, ?_, ?_⟩, ?_, ?_, ?_, .inr (.inl ⟨hst, rfl⟩)⟩ <;> simp_all
    next hst =>
      dsimp only at hst
      refine ⟨⟨?_, ?_, ?_, ?_, ?_, ?_, ?_⟩, hholder, rfl, rfl, .inr (.inr ⟨hst, rfl⟩)⟩ <;>
        simp_all [Port.enterRetraining]
    next hst =>
      dsimp only at hst
      refine ⟨⟨?_, ?_, ?_, ?_, ?_, ?_, ?_⟩, ?_, ?_, ?_, .inl ?_⟩ <;> simp_all
    all_goals exact ⟨same, hholder, rfl, rfl, .inl rfl⟩

theorem Port.copyIfPending_cases (h : p.Basic) (hholder : p.holder = none) :
    p.copyIfPending.Basic ∧ p.copyIfPending.holder = none ∧ p.copyIfPending.waiters = p.waiters
      ∧ p.copyIfPending.commitPending = false
      ∧ (p.copyIfPending.state = p.state ∨ (p.state = .identifying ∧ p.copyIfPending.state = .clocking)
          ∨ (p.state = .up ∧ p.copyIfPending.state = .retraining)) := by
  unfold Port.copyIfPending
  split
  · exact Port.copy_cases h hholder
  · next hc => exact ⟨h, hholder, rfl, by simpa using hc, .inl rfl⟩

/-- A copy at a port without a holder (R143, R144). -/
theorem Port.Sound.copy (h : p.Sound) (hholder : p.holder = none) : p.copy.Sound := by
  obtain ⟨hb, hh, hw, hc, hst⟩ := Port.copy_cases h.basic hholder
  refine Port.sound_iff.mpr ⟨hb, fun hne => ?_, fun ht => by simp [hc] at ht⟩
  have hold := h.waiting (hw ▸ hne)
  rw [hholder] at hold
  rcases hst with hst | ⟨hi, -⟩ | ⟨hu, hr⟩
  · rw [hst]
    exact Or.imp_right .inl (by simpa using hold)
  · simp [hi] at hold
  · simp [hu] at hold

/-- The commit-pending flag set under a holder (R143). -/
theorem Port.Sound.setPending (h : p.Sound) (hholder : p.holder.isSome = true) :
    Port.Sound { p with commitPending := true } := by
  obtain ⟨hb, hw, -⟩ := Port.sound_iff.mp h
  refine Port.sound_iff.mpr ⟨⟨hb.supplyOff, hb.supplyOn, hb.cause, hb.identified, hb.unidentified, hb.held, hb.tally⟩,
    hw, fun _ => ?_⟩
  rcases hb.held hholder with hup | hdrain
  · exact .inr ⟨hup, hholder⟩
  · exact .inl hdrain

/-- Entry to FAULT leaves a sound port, whatever the state (R108). -/
theorem Port.Sound.fault (h : p.Sound) (cause : FaultCause) : ((p.enterFault cause).vacate.copyIfPending).Sound := by
  obtain ⟨hb, -, hw, hc, -⟩ := Port.copyIfPending_cases (h.enterFault cause) rfl
  exact hb.sound hw hc

theorem Port.Sound.vacate (h : p.Sound) : p.vacate.Basic :=
  have b := h.basic
  ⟨b.supplyOff, b.supplyOn, b.cause, b.identified, b.unidentified, nofun, b.tally⟩

/-- A port without a holder and without a pending commit stopped, its wait list emptied (R98). -/
theorem Port.Sound.stopVacant (h : p.Sound) (hne : p.state ≠ .fault) (hc : p.commitPending = false) :
    p.vacate.enterStopping.Sound :=
  (h.vacate.enterStopping hne rfl).sound rfl hc

/-- A port stopped in a state that allows neither holder nor waiters (R98). -/
theorem Port.Sound.stopBelowUp (h : p.Sound) (hp : p.state = .powering ∨ p.state = .clocking ∨ p.state = .identifying) :
    p.enterStopping.Sound := by
  obtain ⟨h1, h2, h3, h4, h5, h6, hw, hc, h9⟩ := h
  rcases hp with hp | hp | hp <;> simp_all [Port.Sound, Port.enterStopping]

/-- A port stopped with its grant withdrawn and its wait list emptied (R98, R105). -/
theorem Port.Sound.stop (h : p.Sound) (hne : p.state ≠ .fault) :
    p.vacate.copyIfPending.enterStopping.Sound := by
  obtain ⟨hb, hh, hw, hc, hst⟩ := Port.copyIfPending_cases h.vacate rfl
  refine (hb.enterStopping ?_ hh).sound hw hc
  rcases hst with hst | ⟨-, hst⟩ | ⟨-, hst⟩ <;> rw [hst]
  · exact hne
  · exact nofun
  · exact nofun

end

end Sys2Proof.Machine
end

section
/-! PROOFS. The internal actions of an event keep the invariants, each operation of Machine/Acts.lean in turn, and none
but the closing ones makes an engine IDLE. -/

namespace Sys2Proof.Machine

-- One proof after the other, as in the tests: many at once would each hold a thread.
set_option Elab.async false

variable {I : Prop}

/-- The action that makes an engine IDLE. -/
def Act.idles : Act → Bool
  | .idle _ => true
  | _ => false

/-- What an operation leaves keeps the invariants, and no action that follows makes an engine IDLE. -/
structure Leads (I : Prop) (s : State) (x : State × List Act) : Prop where
  keeps : Keeps I s x.1
  acts : (x.2.all fun a => !a.idles) = true

theorem Leads.after {s t : State} {x : State × List Act} (k : Leads I t x) (h : Keeps I s t) : Leads I s x :=
  ⟨h.trans k.keeps, k.acts⟩

theorem Leads.given {s : State} {x : State × List Act} (h : Leads (I ∧ s.RingsSound) s x) : Leads I s x :=
  ⟨h.keeps.given, h.acts⟩

section
variable {s : State}

/-! ## Triggers and the Run Queue -/

theorem Leads.takeHead : Leads I s s.takeHead := by
  rcases s.takeHead_cases with ⟨h, -⟩ | ⟨q, rest, e, hq, -, hacts, hstate⟩
  · rw [h]
    exact ⟨.refl s, rfl⟩
  · refine ⟨?_, by rw [hacts]; rfl⟩
    rw [hstate]
    have htail : Keeps I s { s with runQueue := rest } := Keeps.setQueue (hq ▸ List.sublist_cons_self q rest)
    refine .after (.setEngine nofun fun _ _ r hr => ?_) (.after (.setPlan rfl fun h => h) htail)
    obtain rfl := Option.some.inj hr
    exact Nat.zero_lt_succ _

theorem Keeps.handOut : Keeps I s s.handOut.1 :=
  State.handOut_keeps (P := Keeps I s) (fun _ h => h.trans Leads.takeHead.keeps) (.refl s)

theorem handOut_acts (s : State) : (s.handOut.2.all fun a => !a.idles) = true := by
  have all : ∀ (l : List (Fin 4)) (x : State × List Act), (x.2.all fun a => !a.idles) = true →
      ((l.foldl (fun x _ => (x.1.takeHead.1, x.2 ++ x.1.takeHead.2)) x).2.all fun a => !a.idles) = true := fun l => by
    induction l with
    | nil => exact fun _ h => h
    | cons _ l ih =>
      refine fun x h => ih _ ?_
      rw [List.all_append, h, (Leads.takeHead (I := True) (s := x.1)).acts]
      rfl
  exact all _ _ rfl

theorem Leads.handOut : Leads I s s.handOut := ⟨.handOut, handOut_acts s⟩

/-- A request that joins keeps the order of priority (R59). -/
theorem insertRequest_pairwise (q : RunRequest) {l : List RunRequest}
    (h : l.Pairwise fun a b => b.priority ≤ a.priority) :
    (insertRequest q l).Pairwise fun a b => b.priority ≤ a.priority := by
  induction l with
  | nil => exact List.pairwise_singleton _ _
  | cons x xs ih =>
    obtain ⟨hx, hxs⟩ := List.pairwise_cons.mp h
    unfold insertRequest
    split
    · next hahead =>
      refine List.pairwise_cons.mpr ⟨fun y hy => ?_, ih hxs⟩
      rcases List.mem_cons.mp ((insertRequest_perm q xs).subset hy) with rfl | hold
      · simp only [RunRequest.ahead, Bool.or_eq_true, decide_eq_true_eq, Bool.and_eq_true, beq_iff_eq] at hahead
        rcases hahead with hlt | ⟨heq, -⟩
        · exact le_of_lt hlt
        · exact le_of_eq heq.symm
      · exact hx y hold
    · next hbehind =>
      have hle : x.priority ≤ q.priority := by
        simp only [RunRequest.ahead, Bool.or_eq_true, decide_eq_true_eq, not_or] at hbehind
        exact not_lt.mp hbehind.1
      refine List.pairwise_cons.mpr ⟨fun y hy => ?_, h⟩
      rcases List.mem_cons.mp hy with rfl | hold
      · exact hle
      · exact le_trans (hx y hold) hle

theorem idleEngine_none_iff : s.idleEngine = none ↔ s.AllBusy := by
  simp [State.idleEngine, State.AllBusy]

theorem insertRequest_ne_nil (q : RunRequest) (l : List RunRequest) : insertRequest q l ≠ [] := fun h => by
  have := (insertRequest_perm q l).length_eq
  simp [h] at this

/-- A run is queued, and taken at once if an engine is IDLE: then none waited before it (R60). -/
theorem Leads.queueRun (p : Fin 32) (source : Source) (time : Time) : Leads I s (s.queueRun p source time) := by
  unfold State.queueRun
  dsimp only
  set q : RunRequest := { plan := p, priority := (s.plan p).attrs.priority, source, trigTime := time, queueTime := s.timeBase }
  set u := ({ s with runQueue := insertRequest q s.runQueue } : State).setPlan p
    { s.plan p with runStatus := .queued, missCount := 0 } with hu
  have hkept : Kept I s u := by
    refine Kept.trans (t := { s with runQueue := insertRequest q s.runQueue }) .setQueue ?_
    rw [hu]
    exact Keeps.toKept (.setPlan rfl fun h => h)
  refine ⟨⟨hkept.trans Leads.takeHead.keeps.toKept, fun ⟨hbusy, hsorted⟩ => ?_⟩, (Leads.takeHead (I := True)).acts⟩
  rcases u.takeHead_cases with ⟨h, hnone⟩ | ⟨q', rest, e, hq, he, -, hstate⟩
  · rw [h]
    have hidle : u.idleEngine = none := hnone.resolve_left (insertRequest_ne_nil q _)
    exact ⟨fun _ => idleEngine_none_iff.mp hidle, insertRequest_pairwise q hsorted⟩
  · have hempty : s.runQueue = [] := by
      by_contra hne
      have := idleEngine_none_iff.mpr (hbusy hne)
      exact absurd (he.symm.trans this) nofun
    have hrest : rest = [] := by
      have : insertRequest q s.runQueue = q' :: rest := hq
      have ⟨_, hrest⟩ : q' = q ∧ rest = [] := by simpa [hempty, insertRequest] using this.symm
      exact hrest
    rw [hstate, hrest]
    exact ⟨fun h => absurd rfl h, List.Pairwise.nil⟩

theorem Keeps.miss (p : Fin 32) (source : Source) : Keeps I s (s.miss p source) := by
  unfold State.miss
  dsimp only
  split
  · exact .after (.post _ _ _ _ _) (.setPlan rfl fun h => h)
  · exact .setPlan rfl fun h => h

/-! ## Commits -/

theorem Leads.commitRecord {e : Fin 4} {r : Run} {time : Time} {body : RecordBody} {sealOnEnd : Bool} {nx : Resume}
    (hlen : I → s.RingsSound → body.length ≤ 64) : Leads I s (s.commitRecord e r time body sealOnEnd nx) := by
  have hcommit := Keeps.commit (I := I) (s := s) (k := (s.plan r.plan).attrs.ring) (e := e)
    (rec := { plan := r.plan, step := r.stepIndex, time, body }) (sealOnEnd := sealOnEnd) fun hI hs => by
      have := hlen hI hs
      simp only [Record.length]
      omega
  unfold State.commitRecord
  dsimp only
  split
  · exact ⟨hcommit.trans (.setEngineState nofun), rfl⟩
  · exact ⟨hcommit, rfl⟩
  · exact ⟨hcommit, rfl⟩

/-- The builder of a run just set is committed: it may be full, for it is emptied (R77). -/
theorem Leads.setRun_commitSamples {e : Fin 4} {r : Run} {nx : Nat → Resume}
    (hlen : I → s.RingsSound → r.builder.length ≤ 64) : Leads I s ((s.setRun e r).commitSamples e r nx) := by
  unfold State.commitSamples
  split
  · next hb => exact ⟨.setRun fun _ _ => by simp [hb], rfl⟩
  · next x t rest hb =>
    dsimp only
    rw [State.setRun_twice]
    refine Leads.given (.after (.commitRecord fun ⟨hI, hs⟩ _ => ?_) (.setRun fun _ _ => by simp))
    have := hlen hI hs
    simp only [hb, List.length_cons] at this
    simpa [RecordBody.length] using this

theorem Leads.commitSamples {e : Fin 4} {r : Run} {nx : Nat → Resume} (hr : (s.engine e).run = some r) :
    Leads I s (s.commitSamples e r nx) := by
  have h : Leads I s ((s.setRun e r).commitSamples e r nx) :=
    .setRun_commitSamples fun _ hs => le_of_lt (hs.builder hr)
  rwa [State.setRun_eq_self hr] at h

theorem Leads.commitRunEnd {e : Fin 4} {r : Run} {reason : Option Reason}
    (hr : I → s.RingsSound → r.builder.length < 64) : Leads I s (s.commitRunEnd e r reason) :=
  .after (.commitRecord fun _ _ => by simp [RecordBody.length]) (.after (.setEngineState nofun) (.setRun hr))

/-! ## Port steps -/

theorem Keeps.startTransfer (e : Fin 4) (st : PortStep) : Keeps I s (s.startTransfer e st) :=
  .after (.setEngineState nofun) (.setPort fun h => h.startOrdinary _ _ _)

theorem Leads.beginPortStep {e : Fin 4} {r : Run} {st : PortStep} : Leads I s (s.beginPortStep e r st) := by
  unfold State.beginPortStep
  have hrun : Keeps I s (s.setRun e { r with remaining := st.count, retry := 0, builder := [] }) :=
    .setRun fun _ _ => by simp
  dsimp only
  split
  · next hans =>
    refine ⟨.after (.setPort fun h => ?_) hrun, rfl⟩
    exact h.basic.grant (Port.answer_granted hans).1 _ _
  · next hans => exact ⟨.after (.setEngineState nofun) (.after (.setPort fun h => h.join _ hans) hrun), rfl⟩
  · exact ⟨hrun, rfl⟩

theorem Leads.checkSubAddress {e : Fin 4} {st : PortStep} : Leads I s (s.checkSubAddress e st) := by
  unfold State.checkSubAddress
  split
  · exact ⟨.refl s, rfl⟩
  · exact ⟨.startTransfer e st, rfl⟩

theorem Leads.setRun_afterTransfer {e : Fin 4} {r : Run} {st : PortStep}
    (hlen : I → s.RingsSound → r.builder.length ≤ 64) : Leads I s ((s.setRun e r).afterTransfer e r st) := by
  unfold State.afterTransfer State.endPortStep
  split
  · exact .setRun_commitSamples hlen
  next hfull =>
  split
  · exact .setRun_commitSamples hlen
  · refine ⟨.after (.startTransfer e st) (.setRun fun hI hs => ?_), rfl⟩
    have := hlen hI hs
    simp only [Config.builderSamples] at hfull
    omega

theorem Run.counted_builder_length (r : Run) (st : PortStep) (x : Sample) (time : Time) :
    (r.counted st x time).builder.length ≤ r.builder.length + 1 := by
  unfold Run.counted
  cases st.fn <;> simp

theorem Leads.counted {e : Fin 4} {r : Run} {st : PortStep} {x : Sample} {time : Time}
    (hr : (s.engine e).run = some r) :
    Leads I s ((s.setRun e (r.counted st x time)).afterTransfer e (r.counted st x time) st) :=
  .setRun_afterTransfer fun _ hs => by
    have := hs.builder hr
    have := r.counted_builder_length st x time
    omega

theorem Leads.busyOutcome {e : Fin 4} {r : Run} {st : PortStep} (hr : (s.engine e).run = some r) :
    Leads I s (s.busyOutcome e r st) := by
  unfold State.busyOutcome
  split
  · exact .commitSamples hr
  · exact .counted hr
  · dsimp only
    split
    · exact ⟨.after (.setEngineState nofun) (.setRun_of hr rfl), rfl⟩
    · exact ⟨.refl s, rfl⟩

theorem Leads.engineOutcome {e : Fin 4} {o : TxnOutcome} {v : Value} : Leads I s (s.engineOutcome e o v) := by
  unfold State.engineOutcome
  split
  · exact ⟨.refl s, rfl⟩
  next r hr =>
  split
  · exact ⟨.refl s, rfl⟩
  split
  · exact .counted hr
  · exact .busyOutcome hr
  all_goals exact ⟨.refl s, rfl⟩

/-! ## Step faults -/

theorem Keeps.postStepFault (r : Run) (reason : Reason) : Keeps I s (s.postStepFault r reason) := by
  unfold State.postStepFault
  split
  · split
    · exact .post _ _ _ _ _
    · exact .refl s
  · exact .refl s

theorem Leads.afterFault {e : Fin 4} {r : Run} {reason : Reason} : Leads I s (s.afterFault e r reason) := by
  unfold State.afterFault
  split
  · refine ⟨.refl s, ?_⟩
    dsimp only
    split <;> rfl
  · exact ⟨.refl s, rfl⟩

theorem Leads.grantWithdrawn {e : Fin 4} : Leads I s (s.grantWithdrawn e) := by
  unfold State.grantWithdrawn
  split
  · exact ⟨.refl s, rfl⟩
  next r hr =>
  split
  · refine ⟨.refl s, ?_⟩
    dsimp only
    split <;> rfl
  · exact ⟨.refl s, rfl⟩
  · exact ⟨.setRun_of hr rfl, rfl⟩
  · exact ⟨.refl s, rfl⟩

/-! ## The arbiter -/

/-- The head of the wait list of a port just set, UP and without a pending commit, is given the grant, or nobody waits:
either way the port is sound. -/
theorem Leads.setPort_grantHead {p : Fin 8} {q : Port} (hq : (s.port p).Sound → q.Basic ∧ q.commitPending = false)
    (hup : q.state = .up) : Leads I s ((s.setPort p q).grantHead p) := by
  unfold State.grantHead
  rw [State.setPort_self]
  dsimp only
  split
  · next hw => exact ⟨.setPort fun h => (hq h).1.sound hw (hq h).2, rfl⟩
  · next w ws hw =>
    rw [State.setPort_twice]
    refine ⟨.setPort fun h => (hq h).1.grant hup _ _, ?_⟩
    cases w.who <;> rfl

theorem Leads.releaseGrant {p : Fin 8} : Leads I s (s.releaseGrant p) := by
  unfold State.releaseGrant
  dsimp only
  have hcases (h : (s.port p).Sound) := Port.copyIfPending_cases h.release rfl
  split
  · next hup =>
    split
    · next hup1 =>
      exact .setPort_grantHead (fun h => have ⟨hb, _, _, hc, _⟩ := hcases h; ⟨hb, hc⟩) hup1
    · next hne =>
      refine ⟨.setPort fun h => ?_, rfl⟩
      obtain ⟨hb, -, -, hc, hst⟩ := hcases h
      have hretrain : (Port.copyIfPending { s.port p with holder := none }).state = .retraining := by
        rcases hst with hsame | ⟨hid, -⟩ | ⟨-, hr⟩
        · exact absurd (hsame.trans hup) hne
        · exact absurd (hup.symm.trans hid) nofun
        · exact hr
      exact Port.sound_iff.mpr ⟨hb, fun _ => .inl hretrain, fun ht => by simp [hc] at ht⟩
  · next hne =>
    refine ⟨.setPort fun h => ?_, rfl⟩
    obtain ⟨hb, hw, hc⟩ := Port.sound_iff.mp h
    refine Port.sound_iff.mpr ⟨h.release, fun hne' => ?_, fun ht => ?_⟩
    · rcases hw hne' with hr | hd | ⟨hu, -⟩
      · exact .inl hr
      · exact .inr (.inl hd)
      · exact absurd hu hne
    · rcases hc ht with hd | ⟨hu, -⟩
      · exact .inl hd
      · exact absurd hu hne

theorem Leads.hostGranted {p : Fin 8} : Leads I s (s.hostGranted p) := by
  unfold State.hostGranted
  dsimp only
  split
  · exact ⟨.refl s, rfl⟩
  next a ha =>
    split
    · exact ⟨.after (.replyNot _ _ _ _ _) (.setPort fun h => h), rfl⟩
    · exact ⟨.setPort fun h => Port.Sound.startOrdinary (show Port.Sound { s.port p with access := some { a with waitLeft := none } } from h) _ _ _, rfl⟩

theorem Keeps.hostOutcome {p : Fin 8} {o : TxnOutcome} {v : Value} : Keeps I s (s.hostOutcome p o v) := by
  unfold State.hostOutcome
  dsimp only
  split
  · exact .refl s
  · exact .after (.replyOk _ _ _ _) (.setPort fun h => h)

/-! ## Ports -/

theorem downActs_all (q : Port) : (q.downActs.all fun a => !a.idles) = true := by
  have hdown : ∀ f : Fin 4 → Act, (∀ e, (f e).idles = false) → ∀ w : Requester,
      ((match w with | .engine e => [f e] | .host => q.accessTag.map .hostDown).all fun a => !a.idles) = true := by
    intro f hf w
    cases w with
    | engine e => simp [hf]
    | host => simp [Act.idles]
  unfold Port.downActs
  simp only [List.all_append, Bool.and_eq_true, List.all_flatMap, List.all_eq_true]
  exact ⟨fun w _ => List.all_eq_true.mp (hdown .withdrawn (fun _ => rfl) w),
    fun w _ => List.all_eq_true.mp (hdown .portDown (fun _ => rfl) w.who)⟩

theorem Keeps.postPortState (p : Fin 8) : Keeps I s (s.postPortState p) := .post _ _ _ _ _

theorem Leads.portFault {p : Fin 8} {cause : FaultCause} : Leads I s (s.portFault p cause) :=
  ⟨.setPort fun h => h.fault cause, by
    simp only [State.portFault, List.all_append, downActs_all]
    rfl⟩

/-- Entry to FAULT of a port whose grant is already gone. -/
theorem Leads.withdrawn_portFault {p : Fin 8} {cause : FaultCause} :
    Leads I s ((s.setPort p { s.port p with holder := none }).portFault p cause) := by
  refine ⟨?_, (Leads.portFault (I := True)).acts⟩
  simp only [State.portFault, State.setPort_self, State.setPort_twice]
  exact .setPort fun h => h.fault cause

theorem Leads.drained {p : Fin 8} (hne : (s.port p).state ≠ .fault) : Leads I s (s.drained p) :=
  ⟨.setPort fun h => h.stop hne, downActs_all _⟩

theorem Leads.stopPort {p : Fin 8}
    (hst : (s.port p).state = .retraining ∨ ((s.port p).state = .up ∧ (s.port p).holder = none)) :
    Leads I s (s.stopPort p) := by
  refine ⟨.setPort fun h => h.stopVacant ?_ ?_, downActs_all _⟩
  · rcases hst with hst | ⟨hst, -⟩ <;> simp [hst]
  · obtain ⟨-, -, hc⟩ := Port.sound_iff.mp h
    by_contra hpending
    have := hc (by simpa using hpending)
    rcases hst with hst | ⟨hst, hh⟩ <;> simp_all

theorem Leads.identifyFailed {p : Fin 8} : Leads I s (s.identifyFailed p) := by
  unfold State.identifyFailed
  dsimp only
  split
  · exact ⟨.setPort fun h => h, rfl⟩
  · exact .portFault

/-- A port comes UP with its notice (R101, R114). -/
theorem setPort_postPortState (s : State) (p : Fin 8) (q : Port) :
    (s.setPort p q).postPortState p =
      (s.post .portState (byte p) 0#32 (pair q.state.code (faultCode q.faultCause))).setPort p q := by
  simp only [State.postPortState, State.setPort_self]
  rfl

theorem Leads.identifyEnd {p : Fin 8} {o : TxnOutcome} {v : Value} : Leads I s (s.identifyEnd p o v) := by
  unfold State.identifyEnd
  dsimp only
  split
  · next hst =>
    refine ⟨.after (.postPortState p) (.setPort fun h => ?_), rfl⟩
    obtain ⟨hb, hc, hw⟩ := h.enterUp (.inl hst) (identityOf v)
    exact hb.sound (hw hst) hc
  · next hst =>
    split
    · rw [setPort_postPortState]
      refine .after (.setPort_grantHead (fun h => ?_) rfl) (.post _ _ _ _ _)
      obtain ⟨hb, hc, -⟩ := Port.Sound.enterUp h (.inr hst) (identityOf v)
      exact ⟨hb, hc⟩
    · exact .portFault
  · exact .identifyFailed
  · exact .identifyFailed
  · exact ⟨.refl s, rfl⟩

theorem postStepFault_setPort (s : State) (p : Fin 8) (x : Port) (r : Run) (reason : Reason) :
    (s.setPort p x).postStepFault r reason = (s.postStepFault r reason).setPort p x := by
  have hstep : (s.setPort p x).currentStep r = s.currentStep r := rfl
  unfold State.postStepFault
  rw [hstep]
  split
  · split <;> rfl
  · rfl

theorem postStepFault_port (s : State) (r : Run) (reason : Reason) (p : Fin 8) :
    (s.postStepFault r reason).port p = s.port p := by
  unfold State.postStepFault
  split
  · split <;> rfl
  · rfl

theorem Leads.silenceFault {p : Fin 8} {who : Requester} : Leads I s (s.silenceFault p who) := by
  have hstop : ∀ (x : State × List Act) (a : Act), Leads I s x → a.idles = false → Leads I s (x.1, x.2 ++ [a]) :=
    fun x a h ha => ⟨h.keeps, by simp [List.all_append, h.acts, ha]⟩
  unfold State.silenceFault
  split
  · exact .after .withdrawn_portFault .hostOutcome
  · next e =>
    dsimp only
    split
    · exact .withdrawn_portFault
    · next r hr =>
      split
      · exact hstop _ _ .withdrawn_portFault rfl
      · refine hstop _ _ ?_ rfl
        rw [postStepFault_setPort, ← postStepFault_port s r .silent p]
        exact .after .withdrawn_portFault (.postStepFault r .silent)

theorem Leads.txnEnd {p : Fin 8} {o : TxnOutcome} {v : Value} : Leads I s (s.txnEnd p o v) := by
  unfold State.txnEnd
  split
  · exact ⟨.refl s, rfl⟩
  next t ht =>
  dsimp only
  split
  · exact .after .identifyEnd (.setPort fun h => h)
  next who hwho =>
  have hended : Keeps I s (s.setPort p (Port.tallied { s.port p with txn := none } o)) :=
    .setPort fun h => Port.Sound.tallied (p := { s.port p with txn := none }) h o
  split
  · next hdrain => exact .after (.drained (by rw [State.setPort_self, hdrain]; nofun)) hended
  split
  · exact .after .silenceFault hended
  cases who with
  | engine e => exact .after .engineOutcome hended
  | host => exact ⟨.after .hostOutcome hended, rfl⟩

/-! ## Streams and the clear -/

theorem Keeps.dropStream (s : State) (tag : Byte) : Keeps I s (s.dropStream tag) :=
  (Keeps.setLink (l := { s.link with lastServed := if s.link.lastServed = some tag then none else s.link.lastServed })
    fun h => h).trans (.of_eq rfl rfl rfl rfl rfl rfl rfl rfl rfl rfl)

theorem Keeps.abortStream (s : State) (st : Stream) : Keeps I s (s.abortStream st) :=
  ((Keeps.unclaim s _ _).trans (.dropStream _ _)).trans (.placeReply _ _ _ _)

theorem Keeps.abortStreams (s : State) : Keeps I s s.abortStreams := .foldl (fun u st => .abortStream u st) _ _

theorem Keeps.clearRings : Keeps I s s.clearRings := by
  unfold State.clearRings
  split
  · exact .refl s
  next c hc =>
  split
  · exact .refl s
  · have hcleared : Keeps I s.abortStreams { s.abortStreams with
        rings := s.abortStreams.rings.map fun o => o.map Ring.cleared } :=
      .mapRings (fun _ => ⟨rfl, rfl, rfl⟩) fun _ h => h.cleared
    exact .after (.replyOk _ _ _ _) (.trans ((Keeps.abortStreams s).trans hcleared) (.of_eq rfl rfl rfl rfl rfl rfl rfl rfl rfl rfl))

/-! ## The end of a run -/

theorem Keeps.endReport {e : Fin 4} {o : RunOutcome} : Keeps I s (s.endReport e o).st := by
  unfold State.endReport
  split
  · exact .refl s
  next r hr =>
  have hplan : Keeps I s (s.setPlan r.plan { s.plan r.plan with runStatus := .idle, held := false }) :=
    .setPlan rfl fun h => ⟨h.1, nofun⟩
  dsimp only
  split
  · exact hplan.trans (Leads.queueRun _ _ _).keeps
  · exact hplan

theorem Kept.becomeIdle {e : Fin 4} : Kept I s (s.becomeIdle e).st :=
  Kept.trans (t := s.setEngine e { state := .idle, run := none, abortTags := [] })
    (.setEngine fun _ _ r hr => by simp at hr) (Keeps.foldl (fun u t => .replyOk u t _ _) _ _).toKept

theorem Leads.abortEngine {e : Fin 4} {cause : AbortCause} : Leads I s (s.abortEngine e cause) := by
  unfold State.abortEngine
  split
  · exact ⟨.refl s, rfl⟩
  next r hr =>
  split
  · exact ⟨.refl s, rfl⟩
  have habort : Keeps I s ((s.setRun e { r with abortCause := some cause }).setPlan r.plan
      { s.plan r.plan with held := false }) :=
    .after (.setPlan rfl fun h => ⟨h.1, nofun⟩) (.setRun_of hr rfl)
  dsimp only
  split
  case h_7 => exact ⟨.after (.mapPorts fun q h => h.leave _) habort, rfl⟩
  case h_8 => exact ⟨habort.trans (.leaveStall _ _), rfl⟩
  all_goals exact ⟨habort, rfl⟩

theorem Leads.resume {e : Fin 4} {r : Run} {x : Resume} (hr : (s.engine e).run = some r) :
    Leads I s (s.resume e r x) := by
  have hwrote : ∀ n lost, Keeps I s (s.setRun e { r.wrote n with portLost := lost }) := fun n lost =>
    .setRun_of hr rfl
  unfold State.resume
  split
  · exact ⟨.refl s, rfl⟩
  · dsimp only
    split
    · exact ⟨hwrote _ _, rfl⟩
    · split
      · exact ⟨.after (.startTransfer e _) (hwrote _ _), rfl⟩
      · exact ⟨hwrote _ _, rfl⟩
  · exact ⟨hwrote _ _, rfl⟩
  · exact .after .afterFault (hwrote _ _)
  · exact ⟨.refl s, rfl⟩
  · exact ⟨.post _ _ _ _ _, rfl⟩
  · exact ⟨.post _ _ _ _ _, rfl⟩

theorem Leads.beginStep {e : Fin 4} {r : Run} : Leads I s (s.beginStep e r) := by
  unfold State.beginStep
  split
  · exact .beginPortStep
  · exact .commitRecord fun _ _ => by simp [RecordBody.length]
  · exact ⟨.post _ _ _ _ _, rfl⟩
  · exact ⟨.setEngineState nofun, rfl⟩
  · exact ⟨.refl s, rfl⟩

theorem Leads.nextStep {e : Fin 4} {r : Run} (hr : (s.engine e).run = some r) : Leads I s (s.nextStep e r) := by
  unfold State.nextStep
  split
  · exact ⟨.setRun_of hr rfl, rfl⟩
  · exact ⟨.setRun_of hr rfl, rfl⟩

end

end Sys2Proof.Machine
end

section
/-! PROOFS. An event keeps the invariants: one action, all actions, and the close of the event, after which no engine is
IDLE beside a waiting request (R60). -/

namespace Sys2Proof.Machine

-- One proof after the other, as in the tests: many at once would each hold a thread.
set_option Elab.async false

variable {I : Prop}

/-- What an action leaves keeps the invariants, and no action that follows before the close makes an engine IDLE. -/
structure Acts (I : Prop) (s : State) (y : Eff) : Prop where
  keeps : Keeps I s y.st
  now : (y.now.all fun a => !a.idles) = true
  later : (y.later.all fun a => !a.idles) = true

section
variable {s : State}

theorem Leads.andThen {x : State × List Act} (h : Leads I s x) : Acts I s (.andThen x) := ⟨h.keeps, h.acts, rfl⟩

theorem Leads.thenLater {x : State × List Act} (h : Leads I s x) : Acts I s (.thenLater x) := ⟨h.keeps, rfl, h.acts⟩

theorem Keeps.just {t : State} (h : Keeps I s t) : Acts I s (.just t) := ⟨h, rfl, rfl⟩

theorem Acts.withRun {e : Fin 4} {f : Run → State × List Act}
    (h : ∀ r, (s.engine e).run = some r → Leads I s (f r)) : Acts I s (s.withRun e f) := by
  unfold State.withRun
  split
  · exact (Keeps.refl s).just
  · next r hr => exact (h r hr).andThen

theorem Acts.arrive {p : Fin 32} {source : Source} {time : Time} : Acts I s (s.arrive p source time) := by
  unfold State.arrive
  split
  · exact (Keeps.refl s).just
  · exact (Leads.queueRun p source time).thenLater
  · next hheld =>
    refine Keeps.just (.setPlan rfl fun h => ⟨h.1, fun _ => ?_⟩)
    unfold Plan.arrival at hheld
    split at hheld
    · next harmed =>
      split at hheld
      · exact nomatch hheld
      all_goals
        split at hheld
        · exact nomatch hheld
        · next hhold => exact ⟨harmed, hhold⟩
    · exact nomatch hheld
    · exact nomatch hheld
    · exact nomatch hheld
  · exact (Keeps.miss p source).just

theorem Acts.endReport {e : Fin 4} {o : RunOutcome} : Acts I s (s.endReport e o) := by
  refine ⟨.endReport, ?_, ?_⟩
  · unfold State.endReport
    split
    · rfl
    · dsimp only
      split
      · simp [State.arrivals, Act.idles]
      · rfl
  · unfold State.endReport
    split
    · rfl
    · dsimp only
      split
      · exact (Leads.queueRun (I := True) _ _ _).acts
      · rfl

/-- One action but the one that makes an engine IDLE. -/
theorem act_keeps (a : Act) (ha : a.idles = false) : Acts I s (act a s) := by
  cases a with
  | arrive p source time => exact .arrive
  | commitBegin e =>
    refine .withRun fun r hr => ?_
    split
    · exact .commitRecord fun _ _ => by simp [RecordBody.length]
    · exact ⟨.refl s, rfl⟩
  | step e => exact .withRun fun r _ => .beginStep
  | next e => exact .withRun fun r hr => .nextStep hr
  | granted e =>
    refine .withRun fun r hr => ?_
    split
    · exact .checkSubAddress
    · exact ⟨.refl s, rfl⟩
  | resume e x => exact .withRun fun r hr => .resume hr
  | faultStep e reason => exact .withRun fun r _ => ⟨.postStepFault r reason, rfl⟩
  | commitFault e reason => exact .withRun fun r hr => .commitSamples hr
  | portDown e => exact Leads.andThen ⟨.refl s, rfl⟩
  | withdrawn e => exact Leads.grantWithdrawn.andThen
  | release e =>
    unfold act
    dsimp only
    split
    · exact (Keeps.refl s).just
    · exact Leads.releaseGrant.andThen
  | releasePort p => exact Leads.releaseGrant.andThen
  | hostGranted p => exact Leads.hostGranted.andThen
  | hostDown tag => exact (Keeps.replyNot _ _ _ _ _).just
  | finish e => exact .withRun fun r hr => .commitRunEnd fun _ hs => show r.builder.length < 64 from hs.builder hr
  | fail e reason => exact .withRun fun r hr => .commitRunEnd fun _ hs => hs.builder hr
  | stallFailed e => exact .withRun fun r _ => ⟨.post _ _ _ _ _, rfl⟩
  | stop e =>
    exact .withRun fun r _ => ⟨.after (.setEngineState nofun) (.setRun fun _ _ => by simp), rfl⟩
  | stopped e => exact .withRun fun r _ => ⟨.post _ _ _ _ _, rfl⟩
  | endReport e o => exact .endReport
  | idle e => exact nomatch ha
  | take => exact Leads.handOut.thenLater
  | clearCheck => exact Keeps.clearRings.just
  | portNotice p => exact (Keeps.postPortState p).just

theorem act_kept (a : Act) : Kept I s (act a s).st := by
  cases ha : a.idles with
  | false => exact (act_keeps a ha).keeps.toKept
  | true =>
    cases a with
    | idle e => exact .becomeIdle
    | _ => exact nomatch ha

/-! ## Events -/

theorem settle_kept {x : Moment} (fuel : Nat) (h : Kept I s x.st) : Kept I s (settle fuel x) :=
  settle_keeps (P := Kept I s) (fun a _ h => h.trans (act_kept a)) fuel x h

theorem carryOut_kept {x : Moment} (fuel : Nat) (acts : List Act) (h : Kept I s x.st) :
    Kept I s (carryOut fuel acts x).st :=
  carryOut_keeps (P := Kept I s) (fun a _ h => h.trans (act_kept a)) fuel acts x h

theorem event_kept {x : State × List Act} (h : Kept I s x.1) : Kept I s (event x) :=
  event_keeps (P := Kept I s) (fun a _ h => h.trans (act_kept a)) h

end

/-! ## The Run Queue is served -/

/-- The actions that may close an event. -/
def Act.closing : Act → Bool
  | .idle _ | .take | .clearCheck => true
  | _ => false

theorem act_last_closing (a : Act) (s : State) : ((act a s).last.all Act.closing) = true := by
  have hrun : ∀ e (f : Run → State × List Act), (s.withRun e f).last = [] := fun e f => by
    unfold State.withRun
    split <;> rfl
  cases a
  case arrive p source time =>
    change ((s.arrive p source time).last.all _) = true
    unfold State.arrive
    split <;> rfl
  case release e =>
    unfold act
    dsimp only
    split <;> rfl
  case endReport e o =>
    change ((s.endReport e o).last.all _) = true
    unfold State.endReport
    split <;> rfl
  case portDown | withdrawn | releasePort | hostGranted | hostDown | idle | take | clearCheck | portNotice => rfl
  all_goals simp only [act, hrun, List.all_nil]

/-- What the actions before the close may assume and leave: the queue served, and only closing actions put off. -/
structure Moment.Served (x : Moment) : Prop where
  queue : x.st.QueueSound
  last : (x.last.all Act.closing) = true

theorem carryOut_served (fuel : Nat) (acts : List Act) (x : Moment) (h : x.Served)
    (ha : (acts.all fun a => !a.idles) = true) : (carryOut fuel acts x).Served := by
  induction fuel generalizing acts x with
  | zero => cases acts <;> exact h
  | succ fuel ih =>
    cases acts with
    | nil => exact h
    | cons a rest =>
      simp only [List.all_cons, Bool.and_eq_true, Bool.not_eq_true'] at ha
      obtain ⟨ha, hrest⟩ := ha
      unfold carryOut
      split
      · exact ih rest x h hrest
      · have hact : Acts True x.st (act a x.st) := act_keeps a ha
        refine ih _ _ ⟨hact.keeps.queue h.queue, ?_⟩ ?_
        · simp [h.last, act_last_closing]
        · simp [hact.now, hact.later, hrest]

/-- The lowest-numbered IDLE engine takes first, so after `n` hand-outs the first `n` engines are busy, unless nobody
waits (R60). -/
theorem takeHead_serves {s : State} {n : Nat} (h : s.runQueue = [] ∨ ∀ f : Fin 4, (f : Nat) < n → (s.engine f).state ≠ .idle) :
    s.takeHead.1.runQueue = [] ∨ ∀ f : Fin 4, (f : Nat) < n + 1 → (s.takeHead.1.engine f).state ≠ .idle := by
  rcases s.takeHead_cases with ⟨htake, hnone⟩ | ⟨q, rest, e, hq, he, -, hstate⟩
  · rw [htake]
    exact hnone.imp_right fun hbusy f _ => idleEngine_none_iff.mp hbusy f
  · have hbusy := h.resolve_left (by simp [hq])
    refine .inr fun f hf => ?_
    rw [hstate, State.setEngine_get]
    split
    · exact nofun
    · next hne =>
      intro hidle
      obtain ⟨hidle_e, hfirst⟩ : (s.engine e).state = .idle ∧ ∀ j < e, (s.engine j).state ≠ .idle := by
        have := List.find?_eq_some_iff_append.mp he
        obtain ⟨hst, as, bs, hsplit, has⟩ := this
        refine ⟨by simpa using hst, fun j hj => ?_⟩
        have hmem : j ∈ as := by
          have hpair : (List.finRange 4).Pairwise (· < ·) := List.pairwise_lt_finRange 4
          rw [hsplit, List.pairwise_append] at hpair
          have hj' : j ∈ as ++ e :: bs := hsplit ▸ List.mem_finRange j
          rcases List.mem_append.mp hj' with hin | hin
          · exact hin
          · rcases List.mem_cons.mp hin with rfl | hin
            · exact absurd hj (lt_irrefl _)
            · exact absurd (List.rel_of_pairwise_cons hpair.2.1 hin) (not_lt.mpr (le_of_lt hj))
        simpa using has j hmem
      have hfe : ¬ f < e := fun hlt => hfirst f hlt hidle
      have hen : ¬ (e : Nat) < n := fun hlt => hbusy e hlt hidle_e
      have : (e : Nat) < f := lt_of_le_of_ne (not_lt.mp hfe) fun heq => hne (Fin.ext heq.symm)
      omega

/-- Handing out serves the queue, whatever stood before (R60). -/
theorem handOut_serves {s : State} (hsorted : s.runQueue.Pairwise fun a b => b.priority ≤ a.priority) :
    s.handOut.1.QueueSound := by
  have hsub : s.handOut.1.runQueue.Sublist s.runQueue :=
    State.handOut_keeps (P := fun u => u.runQueue.Sublist s.runQueue) (fun u h => by
      rcases u.takeHead_cases with ⟨htake, -⟩ | ⟨q, rest, e, hq, -, -, hstate⟩
      · rwa [htake]
      · rw [hstate]
        exact (List.sublist_cons_self q rest).trans (hq ▸ h)) (List.Sublist.refl _)
  refine ⟨fun hne f => ?_, hsorted.sublist hsub⟩
  have hbusy : s.handOut.1.runQueue = [] ∨ ∀ f : Fin 4, (f : Nat) < 0 + 1 + 1 + 1 + 1 → (s.handOut.1.engine f).state ≠ .idle :=
    takeHead_serves (takeHead_serves (takeHead_serves (takeHead_serves (.inr fun _ h => absurd h (Nat.not_lt_zero _)))))
  exact hbusy.resolve_left hne f f.isLt

/-- While the event closes, the queue is served, or handing out is still to come (R60). -/
structure Moment.Closing (x : Moment) : Prop where
  sorted : x.st.runQueue.Pairwise fun a b => b.priority ≤ a.priority
  served : x.st.QueueSound ∨ Act.take ∈ x.last
  last : (x.last.all Act.closing) = true

theorem Moment.Served.closing {x : Moment} (h : x.Served) : x.Closing := ⟨h.queue.2, .inl h.queue, h.last⟩

theorem becomeIdle_runQueue (s : State) (e : Fin 4) : (s.becomeIdle e).st.runQueue = s.runQueue := by
  have all : ∀ (tags : List Byte) (u : State), (tags.foldl (fun st t => st.replyOk t 0x38#8 []) u).runQueue = u.runQueue :=
    fun tags => by
      induction tags with
      | nil => exact fun _ => rfl
      | cons t tags ih => exact fun u => ih _
  exact all _ _

theorem clearRings_queue {s : State} : s.clearRings.runQueue = s.runQueue ∧ s.clearRings.engines = s.engines := by
  have hunclaim : ∀ (u : State) k i, (u.unclaim k i).runQueue = u.runQueue ∧ (u.unclaim k i).engines = u.engines := by
    intro u k i
    unfold State.unclaim
    split <;> exact ⟨rfl, rfl⟩
  have habort : ∀ (l : List Stream) (u : State),
      (l.foldl State.abortStream u).runQueue = u.runQueue ∧ (l.foldl State.abortStream u).engines = u.engines :=
    fun l => by
      induction l with
      | nil => exact fun _ => ⟨rfl, rfl⟩
      | cons st l ih =>
        intro u
        exact ⟨(ih _).1.trans (hunclaim u _ _).1, (ih _).2.trans (hunclaim u _ _).2⟩
  unfold State.clearRings
  split
  · exact ⟨rfl, rfl⟩
  · split
    · exact ⟨rfl, rfl⟩
    · exact habort _ _

theorem settle_serves (fuel : Nat) (x : Moment) (h : x.Closing) : (settle fuel x).QueueSound := by
  induction fuel generalizing x with
  | zero =>
    obtain ⟨s, last, begins⟩ := x
    cases last with
    | nil => exact h.served.resolve_right (by simp)
    | cons a rest => exact handOut_serves h.sorted
  | succ fuel ih =>
    obtain ⟨s, last, begins⟩ := x
    cases last with
    | nil => exact h.served.resolve_right (by simp)
    | cons a rest =>
      obtain ⟨hsorted, hserved, hlast⟩ := h
      simp only [List.all_cons, Bool.and_eq_true] at hlast
      rw [settle_cons]
      cases a with
      | idle e =>
        refine ih _ ?_
        rw [show (act (.idle e) s).now ++ (act (.idle e) s).later = [] from rfl, carryOut_nil]
        refine ⟨?_, .inr (List.mem_append_right _ (List.mem_cons_self ..)), ?_⟩
        · exact (becomeIdle_runQueue s e).symm ▸ hsorted
        · simp only [List.all_append, hlast.2, act_last_closing, Bool.and_self]
      | take =>
        refine ih _ (carryOut_served _ _ _ ⟨handOut_serves hsorted, ?_⟩ ?_).closing
        · simp only [List.all_append, hlast.2, act_last_closing, Bool.and_self]
        · exact handOut_acts s
      | clearCheck =>
        refine ih _ ?_
        rw [show (act .clearCheck s).now ++ (act .clearCheck s).later = [] from rfl, carryOut_nil]
        have ⟨hqueue, hengines⟩ := clearRings_queue (s := s)
        have hst : (act .clearCheck s).st = s.clearRings := rfl
        refine ⟨by rw [hst, hqueue]; exact hsorted, ?_, ?_⟩
        · refine hserved.imp (fun hs => ?_) fun hmem => ?_
          · rw [hst]
            refine ⟨?_, by rw [hqueue]; exact hs.2⟩
            rw [hqueue]
            intro hne e
            rw [show s.clearRings.engine e = s.engine e from by simp only [State.engine, hengines]]
            exact hs.1 hne e
          · rcases List.mem_cons.mp hmem with heq | hin
            · exact nomatch heq
            · exact List.mem_append_left _ hin
        · simp only [List.all_append, hlast.2, act_last_closing, Bool.and_self]
      | _ => exact nomatch hlast.1

/-- An event whose own effect keeps the invariants, and leads to no action that makes an engine IDLE, keeps them. -/
theorem Leads.event {s : State} {x : State × List Act} (h : Leads I s x) : Keeps I s (event x) :=
  ⟨event_kept h.keeps.toKept, fun hs =>
    settle_serves _ _ (carryOut_served _ _ _ ⟨h.keeps.queue hs, rfl⟩ h.acts).closing⟩

end Sys2Proof.Machine
end

section
/-! PROOFS. The Host Link's operations and the requests of every owner keep the invariants; DEFINE-RING and SET-TIME keep
all but the blocks held and the time base. -/

namespace Sys2Proof.Machine

-- One proof after the other, as in the tests: many at once would each hold a thread.
set_option Elab.async false

variable {I : Prop} {s : State}

/-! ## The transmitter -/

theorem Leads.wake (k : Fin 4) : Leads I s (s.wake k) := by
  refine ⟨.wakeRing, List.all_eq_true.mpr fun a ha => ?_⟩
  obtain ⟨e, -, he⟩ := List.mem_filterMap.mp ha
  split at he
  · obtain rfl := Option.some.inj he
    rfl
  · exact nomatch he

theorem Keeps.send (tag kind : Byte) (body : List Byte) (what : Sending) : Keeps I s (s.send tag kind body what) :=
  .setLink fun h => h

/-- A change of the outstanding requests' stages alone keeps their tags. -/
theorem Link.Sound.setStage {l : Link} (h : l.Sound) (tag : Byte) (stage : Stage) {replies : List Reply}
    (hreplies : (replies.filter fun r => r.refusal).length ≤ (l.replies.filter fun r => r.refusal).length) :
    Link.Sound { l with
      replies := replies
      outstanding := l.outstanding.map fun o => if o.tag = tag then { o with stage := stage } else o } :=
  h.mono (by rw [placeReply_tags]) (Nat.le_refl _) hreplies rfl

theorem Keeps.takeReply {r : Reply} {rs : List Reply} (hr : s.link.replies = r :: rs) :
    Keeps I s (s.takeReply r rs) := by
  have htail : (rs.filter fun r => r.refusal).length ≤ (s.link.replies.filter fun r => r.refusal).length := by
    rw [hr]
    exact ((List.sublist_cons_self r rs).filter _).length_le
  unfold State.takeReply
  dsimp only
  split
  · exact .after (.send _ _ _ _) (.setLink fun h => h.mono (List.Sublist.refl _) (Nat.le_refl _) htail rfl)
  · exact .after (.send _ _ _ _) (.setLink fun h => h.setStage r.tag .sending htail)

theorem markDelivered_number (n : Nat) (es : List Notice) :
    (markDelivered n es).map (fun x => x.number) = es.map fun x => x.number := by
  fun_induction markDelivered <;> simp_all

theorem markDelivered_kind (n : Nat) (es : List Notice) :
    (markDelivered n es).map (fun x => x.kind) = es.map fun x => x.kind := by
  fun_induction markDelivered <;> simp_all

/-- Marking the oldest undelivered entries keeps the delivered ones in front (R168). -/
theorem markDelivered_prefix {n : Nat} {es : List Notice}
    (h : es.Pairwise fun a b => b.delivered = true → a.delivered = true) :
    (markDelivered n es).Pairwise fun a b => b.delivered = true → a.delivered = true := by
  fun_induction markDelivered with
  | case1 | case2 => exact h
  | case3 n e es hd ih =>
    exact List.pairwise_cons.mpr ⟨fun _ _ _ => hd, ih (List.pairwise_cons.mp h).2⟩
  | case4 n e es hd ih => exact List.pairwise_cons.mpr ⟨fun _ _ _ => rfl, ih (List.pairwise_cons.mp h).2⟩

theorem NoticeQueue.Sound.deliver {q : NoticeQueue} (h : q.Sound) (n c : Nat) (hc : c ≤ q.credits) :
    NoticeQueue.Sound { q with entries := markDelivered n q.entries, credits := c } := by
  have ⟨_, _, _, hprefix, hlost, hcredits⟩ := h
  exact h.mapEntries (markDelivered_number n _) (markDelivered_kind n _) rfl (markDelivered_prefix hprefix) hlost
    (le_trans hc hcredits)

theorem Keeps.takeNotice : Keeps I s s.takeNotice :=
  .after (.send _ _ _ _) (.setNotices fun h => h.deliver Config.noticesPerFrame _ (Nat.sub_le _ _))

theorem Leads.streamEnd (st : Stream) : Leads I s (s.streamEnd st) := by
  unfold State.streamEnd
  split
  · exact ⟨.dropStream _ _, rfl⟩
  next r hr =>
  dsimp only
  split
  · have hwake : Leads I s ((s.freeSegment st.ring r st.segment).wake st.ring) :=
      .after (.wake _) (.freeSegment hr _)
    exact ⟨.after (.replyOk _ _ _ _) (.after (.dropStream _ _) hwake.keeps), hwake.acts⟩
  · refine ⟨.after (.replyOk _ _ _ _) (.after (.dropStream _ _) (.setRing hr ⟨rfl, rfl, rfl⟩ fun _ hs => ?_)), rfl⟩
    exact (hs.ring hr).setState _ rfl nofun nofun

theorem Leads.takeData : Leads I s s.takeData := by
  unfold State.takeData
  split
  · exact ⟨.refl s, rfl⟩
  next st hst =>
  dsimp only
  have hsent : ∀ (streams : List Stream) (body : List Byte), Keeps I s (State.send
      { s with streams := streams, link := { s.link with lastServed := some st.tag } } st.tag 0xF0#8 body .other) :=
    fun streams body => .after (.send _ _ _ _)
      (.after (t := { s with link := { s.link with lastServed := some st.tag } })
        (.of_eq rfl rfl rfl rfl rfl rfl rfl rfl rfl rfl) (.setLink fun h => h))
  split
  · exact ⟨hsent _ _, rfl⟩
  · exact .after (.streamEnd _) (hsent _ _)

theorem Leads.take : Leads I s s.take := by
  unfold State.take
  split
  · exact ⟨.refl s, rfl⟩
  split
  · next j js hj =>
    refine ⟨.after (.send _ _ _ _) (.setLink fun h => h.mono (List.Sublist.refl _) ?_ (Nat.le_refl _) rfl), rfl⟩
    rw [hj]
    exact Nat.le_succ _
  split
  · exact ⟨.after (.send _ _ _ _) (.setLink fun h => h), rfl⟩
  split
  · next r rs hr => exact ⟨.takeReply hr, rfl⟩
  split
  · exact ⟨.takeNotice, rfl⟩
  · exact .takeData

theorem Keeps.transmit : Keeps I s s.transmit := Leads.take.event

/-! ## Requests of the Host Link and the Notice Queue -/

theorem NoticeQueue.Sound.unmarked {q : NoticeQueue} (h : q.Sound) (mode : NoticeMode) (c : Nat) (hc : c ≤ 32) :
    NoticeQueue.Sound { q.clearMarks with mode := mode, credits := c } := by
  have ⟨_, _, _, _, hlost, _⟩ := h
  refine h.mapEntries ?_ ?_ rfl ?_ hlost hc
  · simp [NoticeQueue.clearMarks]
  · simp [NoticeQueue.clearMarks]
  · simpa [NoticeQueue.clearMarks, List.pairwise_map] using List.pairwise_of_forall fun _ _ => trivial

theorem Keeps.sessionEffects : Keeps I s s.sessionEffects :=
  .setNotices fun h => h.unmarked .poll 0 (Nat.zero_le _)

theorem Keeps.endWaiting (p : Fin 8) (st : Status) : Keeps I s (s.endWaiting p st) := by
  unfold State.endWaiting
  split
  · exact .refl s
  · exact .after (.replyNot _ _ _ _ _) (.setPort fun h => h.leave .host)

theorem Keeps.abortAccesses : Keeps I s s.abortAccesses :=
  .foldl (f := fun st p => st.endWaiting p .aborted) (fun _ _ => .endWaiting _ _) _ _

theorem Keeps.ownOpenSession (tag : Byte) : Keeps I s (ownOpenSession tag s) := by
  unfold Machine.ownOpenSession
  split
  · exact .replyNot _ _ _ _ _
  · exact .after (.replyOk _ _ _ _) (.after (.setLink fun h => h) .sessionEffects)

theorem Keeps.ownCloseSession (tag : Byte) : Keeps I s (ownCloseSession tag s) := by
  have hended : Keeps I s s.abortStreams.abortAccesses.sessionEffects :=
    .after .sessionEffects (.after .abortAccesses (.abortStreams s))
  unfold Machine.ownCloseSession
  generalize s.abortStreams.abortAccesses.sessionEffects = u at hended
  exact .after (.setLink fun h => h) (hended.trans (.replyOk u tag _ _))

theorem Keeps.ownIdentify (tag : Byte) : Keeps I s (ownIdentify tag s) := .replyOk _ _ _ _

theorem Keeps.ownAbortRequest (tag target : Byte) : Keeps I s (ownAbortRequest tag target s) := by
  unfold Machine.ownAbortRequest
  split
  · exact .replyNot _ _ _ _ _
  split
  · exact .replyNot _ _ _ _ _
  split
  · exact .replyNot _ _ _ _ _
  unfold abortNamed
  split
  · exact .after (.replyOk _ _ _ _) (.abortStream _ _)
  split
  · exact .replyNot _ _ _ _ _
  split
  · exact .after (.replyOk _ _ _ _) (.endWaiting _ _)
  · exact .replyNot _ _ _ _ _

theorem Keeps.ownResetDevice (tag : Byte) : Keeps I s (ownResetDevice tag s) :=
  .after (.setLink fun h => h) (.replyOk _ _ _ _)

theorem Keeps.ownSetNoticeMode (tag mode : Byte) : Keeps I s (ownSetNoticeMode tag mode s) := by
  unfold Machine.ownSetNoticeMode
  split
  · exact .replyNot _ _ _ _ _
  · exact .after (.replyOk _ _ _ _) (.setNotices fun h => h)

theorem Keeps.ownGrantCredits (tag count : Byte) : Keeps I s (ownGrantCredits tag count s) := by
  unfold Machine.ownGrantCredits
  split
  · exact .replyNot _ _ _ _ _
  · refine .after (.replyOk _ _ _ _) (.setNotices fun ⟨h1, h2, h3, h4, h5, _⟩ => ⟨h1, h2, h3, h4, h5, ?_⟩)
    simp only [Config.maxCredits]
    omega

theorem Keeps.ownTakeNotices (tag maximum : Byte) : Keeps I s (ownTakeNotices tag maximum s) := by
  unfold Machine.ownTakeNotices
  split
  · exact .replyNot _ _ _ _ _
  · exact .after (.replyOk _ _ _ _) (.setNotices fun h => h.deliver _ _ (Nat.le_refl _))

/-- The entries that remain when some of the oldest are removed, with nothing held back (R182). -/
theorem NoticeQueue.Sound.dropOldest {q : NoticeQueue} (h : q.Sound) {old rest : List Notice}
    (hsplit : q.entries = old ++ rest) (hold : old ≠ []) :
    NoticeQueue.Sound { q with entries := rest, heldLost := 0 } ∧ rest.length < 256 := by
  obtain ⟨hlen, hnumbers, hlast, hprefix, hlost, hcredits⟩ := h
  have hpos : 0 < old.length := List.length_pos_iff.mpr hold
  have hlength : q.entries.length = old.length + rest.length := by simp [hsplit]
  refine ⟨⟨by dsimp only; omega, ?_, fun hfull => ?_, ?_, nofun, hcredits⟩, by omega⟩
  · have hdrop := congrArg (List.drop old.length) hnumbers
    rw [hlength, hsplit, List.map_append, List.drop_left' (by simp)] at hdrop
    dsimp only
    rw [hdrop]
    refine List.ext_getElem (by simp) fun i h1 h2 => ?_
    simp only [List.length_map, List.length_range] at h2
    simp only [List.getElem_drop, List.getElem_map, List.getElem_range]
    rw [show old.length + rest.length - (old.length + i) = rest.length - i by omega]
  · dsimp only at hfull
    omega
  · rw [hsplit] at hprefix
    exact (List.pairwise_append.mp hprefix).2.1

/-- What an acknowledgement removes is not nothing (R182). -/
theorem NoticeQueue.afterAck_split {q : NoticeQueue} {number : Half} {rest : List Notice}
    (h : q.afterAck number = some rest) : ∃ old, q.entries = old ++ rest ∧ old ≠ [] := by
  unfold NoticeQueue.afterAck at h
  split at h
  · next hany =>
    obtain rfl := Option.some.inj h
    obtain ⟨n, hn, hmatch⟩ := List.any_eq_true.mp hany
    have hne : (q.entries.dropWhile fun n => !(n.delivered && n.number == number)) ≠ [] := fun hnil => by
      have hnone := List.dropWhile_eq_nil_iff.mp hnil n hn
      simp [hmatch] at hnone
    obtain ⟨x, xs, hx⟩ := List.exists_cons_of_ne_nil hne
    refine ⟨q.entries.takeWhile (fun n => !(n.delivered && n.number == number)) ++ [x], ?_, by simp⟩
    rw [hx, List.drop_one, List.tail_cons, List.append_assoc, List.singleton_append, ← hx]
    exact List.takeWhile_append_dropWhile.symm
  · exact nomatch h

theorem NoticeQueue.Sound.acked {q : NoticeQueue} (h : q.Sound) {number : Half} {rest : List Notice}
    (hrest : q.afterAck number = some rest) (now : Time) :
    (NoticeQueue.ackMarker { q with entries := rest } now).Sound := by
  obtain ⟨old, hsplit, hold⟩ := NoticeQueue.afterAck_split hrest
  obtain ⟨hdropped, hroom⟩ := h.dropOldest hsplit hold
  unfold NoticeQueue.ackMarker
  dsimp only
  split
  · exact hdropped.append hroom fun _ => rfl
  · next hnone =>
    have hzero : q.heldLost = 0 := by
      by_contra hne
      exact hnone ⟨hroom, hne⟩
    rwa [← hzero] at hdropped

theorem Keeps.ownAckNotices (tag : Byte) (number : Half) : Keeps I s (ownAckNotices tag number s) := by
  unfold Machine.ownAckNotices
  split
  · exact .replyNot _ _ _ _ _
  · next rest hrest => exact .after (.replyOk _ _ _ _) (.setNotices fun h => h.acked hrest _)

theorem Keeps.ownResendNotices (tag : Byte) : Keeps I s (ownResendNotices tag s) :=
  .after (.replyOk _ _ _ _) (.setNotices fun h => h.unmarked s.notices.mode s.notices.credits h.2.2.2.2.2)

/-! ## Requests of the Plan Table -/

theorem Keeps.withPlan {tag kind plan : Byte} {f : Fin 32 → Plan → State} (h : ∀ p, Keeps I s (f p (s.plan p))) :
    Keeps I s (s.withPlan tag kind plan f) := by
  unfold State.withPlan
  split
  · exact .replyNot _ _ _ _ _
  · exact h _

theorem Plan.Sound.not_held {pl : Plan} (h : pl.Sound) (hst : pl.state ≠ .armed) : pl.held = false := by
  cases hh : pl.held with
  | false => rfl
  | true => exact absurd (h.2 hh).1 hst

theorem Keeps.ownOpenPlan (tag plan priority ring bindType bindNumber overlap sealOnEnd : Byte) :
    Keeps I s (ownOpenPlan tag plan priority ring bindType bindNumber overlap sealOnEnd s) := by
  refine .withPlan fun p => ?_
  split
  · exact .replyNot _ _ _ _ _
  split
  · next hst =>
    refine .after (.replyOk _ _ _ _) (.setPlanPool (fun _ => by simp) fun h => ⟨Nat.zero_le _, fun hh => ?_⟩)
    rw [h.not_held (by rcases hst.1 with hst | hst <;> simp [hst])] at hh
    exact nomatch hh
  · exact .replyNot _ _ _ _ _

theorem Keeps.ownAppendSteps (tag plan : Byte) (steps : List EncodedStep) :
    Keeps I s (ownAppendSteps tag plan steps s) := by
  refine .withPlan fun p => ?_
  split
  · exact .replyNot _ _ _ _ _
  split
  · exact .replyNot _ _ _ _ _
  split
  · exact .replyNot _ _ _ _ _
  split
  · exact .replyNot _ _ _ _ _
  · next hst _ new _ hroom hpool =>
    refine .after (.replyOk _ _ _ _) (.setPlanPool (fun _ => ?_) fun h => ⟨?_, h.2⟩)
    · simp only [List.length_append]
      omega
    · simpa [Config.planSteps] using hroom

theorem Keeps.ownClosePlan (tag plan : Byte) : Keeps I s (ownClosePlan tag plan s) := by
  refine .withPlan fun p => ?_
  split
  · exact .replyNot _ _ _ _ _
  split
  · exact .replyNot _ _ _ _ _
  · exact .after (.replyOk _ _ _ _) (.setPlan rfl fun h => ⟨h.1, nofun⟩)

theorem Keeps.ownArmPlan (tag plan : Byte) : Keeps I s (ownArmPlan tag plan s) := by
  refine .withPlan fun p => ?_
  split
  · exact .replyNot _ _ _ _ _
  split
  · exact .replyNot _ _ _ _ _
  · next hst _ =>
    refine .after (.replyOk _ _ _ _) (.setPlan rfl fun h => ⟨h.1, fun hh => ?_⟩)
    have hready : (s.plan p).state = .ready := by
      by_contra hne
      exact hst (.inl hne)
    rw [h.not_held (by simp [hready])] at hh
    exact nomatch hh

/-- A queued request removed, as the Run Queue and its plan take it (R43). -/
theorem Keeps.removeQueued (p : Fin 32) (cause : AbortCause) : Keeps I s (s.removeQueued p cause) :=
  .after (.post _ _ _ _ _) (.after (.setPlan rfl fun h => ⟨h.1, nofun⟩) (.setQueue List.filter_sublist))

theorem Keeps.ownDisarmPlan (tag plan : Byte) : Keeps I s (ownDisarmPlan tag plan s) := by
  refine .withPlan fun p => ?_
  have hdisarmed : Keeps I s (s.setPlan p { s.plan p with state := .ready, held := false }) :=
    .setPlan rfl fun h => ⟨h.1, nofun⟩
  split
  · exact .replyNot _ _ _ _ _
  dsimp only
  split
  · exact .after (.replyOk _ _ _ _) hdisarmed
  · exact .after (.replyOk _ _ _ _) (.after (.removeQueued _ _) hdisarmed)
  · exact .after (.replyOk _ _ _ _) hdisarmed

theorem Keeps.ownDeletePlan (tag plan : Byte) : Keeps I s (ownDeletePlan tag plan s) := by
  refine .withPlan fun p => ?_
  split
  · next hst =>
    refine .after (.replyOk _ _ _ _) (.setPlanPool (fun _ => by simp) fun h => ⟨Nat.zero_le _, fun hh => ?_⟩)
    rw [h.not_held (by rcases hst.1 with hst | hst <;> simp [hst])] at hh
    exact nomatch hh
  · exact .replyNot _ _ _ _ _

theorem Keeps.ownQueryPlan (tag plan : Byte) : Keeps I s (ownQueryPlan tag plan s) :=
  .withPlan fun _ => .replyOk _ _ _ _

theorem Keeps.ownFire (tag plan : Byte) : Keeps I s (ownFire tag plan s) := by
  refine .withPlan fun p => ?_
  split
  · exact .replyNot _ _ _ _ _
  · exact .after (.replyOk _ _ _ _) (Leads.event ⟨.refl s, rfl⟩)

theorem Keeps.ownAbortRun (tag plan : Byte) : Keeps I s (ownAbortRun tag plan s) := by
  refine .withPlan fun p => ?_
  split
  · exact .replyNot _ _ _ _ _
  · exact .after (.replyOk _ _ _ _) (.removeQueued _ _)
  split
  · exact .replyNot _ _ _ _ _
  · next e _ =>
    have hawait : Keeps I s (s.awaitIdle e tag) := .setEngine (fun h => h) fun _ hs => hs.2.2 e
    exact (Leads.abortEngine.after hawait).event

/-- Every plan changed in one way that keeps its list of steps. -/
theorem Keeps.mapPlans {f : Plan → Plan} (hsteps : ∀ pl, (f pl).steps = pl.steps) (h : ∀ pl : Plan, pl.Sound → (f pl).Sound) :
    Keeps I s { s with plans := s.plans.map f } := by
  refine ⟨⟨rfl, id, id, id, id, fun ⟨hsum, hplans⟩ => ⟨?_, fun p => ?_⟩, fun _ => id, fun _ => id,
    fun _ _ _ _ _ => rfl⟩, id⟩
  · simpa [Vector.toList_map, Function.comp_def, hsteps] using hsum
  · simpa [State.plan] using h _ (hplans p)

theorem Keeps.disarmAll : Keeps I s s.disarmAll :=
  .mapPlans (fun pl => by split <;> rfl) fun pl h => by
    split
    · exact ⟨h.1, nofun⟩
    · exact h

theorem Leads.abortAll : Leads I s s.abortAll := by
  have all : ∀ (l : List (Fin 4)) (x : State × List Act), Leads I s x →
      Leads I s (l.foldl (fun x e => (((x.1.abortEngine e .clear).1, x.2 ++ (x.1.abortEngine e .clear).2) : State × List Act)) x) :=
    fun l => by
      induction l with
      | nil => exact fun _ h => h
      | cons e l ih =>
        refine fun x h => ih _ ⟨.after Leads.abortEngine.keeps h.keeps, ?_⟩
        simp only [List.all_append, h.acts, (Leads.abortEngine (I := True)).acts, Bool.and_self]
  exact all _ _ ⟨.refl s, rfl⟩

theorem Keeps.ownClearAcquisition (tag : Byte) : Keeps I s (ownClearAcquisition tag s) := by
  unfold Machine.ownClearAcquisition
  split
  · exact .replyNot _ _ _ _ _
  · have habort : ∀ u : State, Leads I u (u.abortAll.1, u.abortAll.2 ++ [.clearCheck]) := fun u =>
      ⟨Leads.abortAll.keeps, by simp only [List.all_append, (Leads.abortAll (I := True)).acts]; rfl⟩
    have hremoved : Keeps I s (s.disarmAll.runQueue.foldl (fun st (q : RunRequest) => st.removeQueued q.plan .clear)
        s.disarmAll) :=
      .after (.foldl (f := fun st (q : RunRequest) => st.removeQueued q.plan .clear)
        (fun _ _ => .removeQueued _ _) _ _) .disarmAll
    dsimp only
    generalize s.disarmAll.runQueue.foldl (fun st (q : RunRequest) => st.removeQueued q.plan .clear) s.disarmAll = u
      at hremoved
    have hclear : ∀ c : Option Clear, Keeps I u { u with clear := c } := fun _ =>
      .of_eq rfl rfl rfl rfl rfl rfl rfl rfl rfl rfl
    have hleads := (habort _).after (hremoved.trans (hclear (some
      { tag, removed := s.disarmAll.runQueue.length, aborted := s.disarmAll.runsOnEngines, placed := false })))
    exact hleads.event

/-! ## Requests of the Probe Ports -/

theorem Keeps.withPort {tag kind port : Byte} {f : Fin 8 → Port → State} (h : ∀ p, Keeps I s (f p (s.port p))) :
    Keeps I s (s.withPort tag kind port f) := by
  unfold State.withPort
  split
  · exact .replyNot _ _ _ _ _
  · exact h _

theorem Leads.powerUp {p : Fin 8} (hoff : (s.port p).state = .off) : Leads I s (s.powerUp p) := by
  have hup : Keeps I s (s.setPort p (s.port p).enterPowering) := .setPort fun h => h.enterPowering hoff
  unfold State.powerUp
  dsimp only
  split
  · exact .after .portFault hup
  · exact ⟨hup, rfl⟩

theorem Keeps.powerOn (tag : Byte) (p : Fin 8) : Keeps I s (s.powerOn tag p) := by
  unfold State.powerOn
  split
  · next hoff => exact .after (.replyOk _ _ _ _) (Leads.powerUp hoff).event
  · exact .replyOk _ _ _ _
  · exact .replyOk _ _ _ _
  · exact .replyOk _ _ _ _
  · exact .replyOk _ _ _ _
  all_goals exact .replyNot _ _ _ _ _

theorem Leads.startDrain {p : Fin 8} (hup : (s.port p).state = .up) : Leads I s (s.startDrain p) := by
  have hdrain : Keeps I s (s.setPort p { s.port p with state := .draining }) := .setPort fun h => h.enterDraining hup
  unfold State.startDrain
  dsimp only
  split
  · exact .after (.drained (by rw [State.setPort_self]; nofun)) hdrain
  · exact ⟨hdrain, rfl⟩

theorem Leads.powerDown {p : Fin 8} : Leads I s (s.powerDown p) := by
  unfold State.powerDown
  dsimp only
  split
  · exact ⟨.refl s, rfl⟩
  · exact ⟨.refl s, rfl⟩
  · exact ⟨.refl s, rfl⟩
  · next hst => exact ⟨.setPort fun h => h.stopBelowUp (.inl hst), rfl⟩
  · next hst => exact ⟨.setPort fun h => h.stopBelowUp (.inr (.inl hst)), rfl⟩
  · next hst => exact ⟨.setPort fun h => h.stopBelowUp (.inr (.inr hst)), rfl⟩
  · next hst => exact .stopPort (.inl hst)
  · next hst =>
    split
    · exact .startDrain hst
    · next hholder => exact .stopPort (.inr ⟨hst, by simpa using hholder⟩)
  · next hst => exact ⟨.after (.postPortState p) (.setPort fun h => h.enterOff (.inr hst)), rfl⟩

theorem Keeps.ownPortPower (tag port choice : Byte) : Keeps I s (ownPortPower tag port choice s) := by
  unfold Machine.ownPortPower
  split
  · exact .replyNot _ _ _ _ _
  · refine .withPort fun p => ?_
    split
    · exact .powerOn tag p
    · exact .after (.replyOk _ _ _ _) Leads.powerDown.event

theorem Keeps.ownQueryPort (tag port : Byte) : Keeps I s (ownQueryPort tag port s) :=
  .withPort fun _ => .replyOk _ _ _ _

theorem Keeps.requestHostGrant (p : Fin 8) (a : HostAccess) : Keeps I s (s.requestHostGrant p a) := by
  unfold State.requestHostGrant
  dsimp only
  split
  · next hans =>
    refine Leads.event ⟨.setPort fun h => ?_, rfl⟩
    exact (Port.Sound.basic (p := { s.port p with access := some a }) h).grant (Port.answer_granted hans).1 _ _
  · next hans => exact .setPort fun h => h.join _ hans
  · exact .replyNot _ _ _ _ _

theorem Keeps.ownProbeAccess (tag port function subAddress : Byte) (value : Value) :
    Keeps I s (ownProbeAccess tag port function subAddress value s) := by
  unfold Machine.ownProbeAccess
  split
  · split
    · exact .replyNot _ _ _ _ _
    · exact .requestHostGrant _ _
  · exact .replyNot _ _ _ _ _

theorem Keeps.ownSetProfile (tag port present rate timeout spacing retryLimit width signExtend silenceLimit
    attention : Byte) : Keeps I s (ownSetProfile tag port present rate timeout spacing retryLimit width signExtend
      silenceLimit attention s) := by
  refine .withPort fun p => ?_
  split
  · exact .replyNot _ _ _ _ _
  · exact .after (.replyOk _ _ _ _) (.setPort fun h => h)

theorem Keeps.ownCommitProfile (tag port : Byte) : Keeps I s (ownCommitProfile tag port s) := by
  refine .withPort fun p => ?_
  split
  · next hnone => exact .after (.replyOk _ _ _ _) (.setPort fun h => h.copy (by simpa using hnone))
  · next hsome =>
    exact .after (.replyOk _ _ _ _) (.setPort fun h => h.setPending (by simpa [Option.isSome_iff_ne_none] using hsome))

theorem Keeps.ownReadProfile (tag port choice : Byte) : Keeps I s (ownReadProfile tag port choice s) := by
  unfold Machine.ownReadProfile
  split
  · exact .replyNot _ _ _ _ _
  · exact .withPort fun _ => .replyOk _ _ _ _

/-! ## Requests of the Ring Manager and the readout -/

theorem Keeps.withRing {tag kind ring : Byte} {f : Fin 4 → Ring → State}
    (h : ∀ k r, s.ring k = some r → Keeps I s (f k r)) : Keeps I s (s.withRing tag kind ring f) := by
  unfold State.withRing
  split
  · exact .replyNot _ _ _ _ _
  split
  · exact .replyNot _ _ _ _ _
  · next r hr => exact h _ r hr

/-- A ring deleted: what remains is sound, and its blocks are held no longer. -/
theorem Keeps.deleteRing {k : Fin 4} : Keeps I s (s.setRing k none) := by
  have hmono : ∀ j, ∀ r ∈ (s.setRing k none).ring j, r ∈ s.ring j := fun j r hr => by
    rw [State.setRing_get] at hr
    split at hr
    · simp at hr
    · exact hr
  refine ⟨⟨rfl, id, id, id, id, id, fun _ hs => ?_, fun a ⟨j, hj⟩ => ?_, fun _ _ _ _ _ => rfl⟩, id⟩
  · exact ⟨fun j r hr => hs.1 j r (hmono j r hr), fun i j hij a ha b hb => hs.2.1 i j hij a (hmono i a ha) b (hmono j b hb),
      hs.2.2⟩
  · obtain ⟨r, hr, hin⟩ := Option.any_eq_true _ _ |>.mp hj
    exact ⟨j, (Option.any_eq_true _ _).mpr ⟨r, hmono j r (by simp [hr]), hin⟩⟩

theorem Keeps.ownDeleteRing (tag ring : Byte) : Keeps I s (ownDeleteRing tag ring s) := by
  refine .withRing fun k r hr => ?_
  split
  · exact .replyNot _ _ _ _ _
  · exact .after (.replyOk _ _ _ _) .deleteRing

theorem Keeps.ownSealRing (tag ring : Byte) : Keeps I s (ownSealRing tag ring s) := by
  refine .withRing fun k r hr => ?_
  split
  · exact .replyOk _ _ _ _
  · exact .after (.replyOk _ _ _ _) (.sealSegment hr _ _)

theorem Keeps.ownReleaseSegment (tag ring : Byte) (seqNo : Word) : Keeps I s (ownReleaseSegment tag ring seqNo s) := by
  refine .withRing fun k r hr => ?_
  have hfree : ∀ i, Keeps I s ((event ((s.freeSegment k r i).wake k)).replyOk tag 0x13#8 []) := fun i =>
    .after (.replyOk _ _ _ _) (Leads.after (.wake k) (.freeSegment hr i)).event
  split
  · exact .replyNot _ _ _ _ _
  split
  · exact hfree _
  · exact hfree _
  all_goals exact .replyNot _ _ _ _ _

theorem Keeps.ownQueryRing (tag ring : Byte) : Keeps I s (ownQueryRing tag ring s) := by
  unfold Machine.ownQueryRing
  split
  · exact .replyNot _ _ _ _ _
  split
  · exact .replyOk _ _ _ _
  · exact .replyOk _ _ _ _

theorem Keeps.ownListSegments (tag ring start : Byte) : Keeps I s (ownListSegments tag ring start s) := by
  refine .withRing fun k r _ => ?_
  split
  · exact .replyNot _ _ _ _ _
  · exact .replyOk _ _ _ _

theorem Keeps.claim {tag : Byte} {k : Fin 4} {r : Ring} {i : Nat} (hr : s.ring k = some r) :
    Keeps I s (s.claim tag k r i) := by
  refine .after (.of_eq rfl rfl rfl rfl rfl rfl rfl rfl rfl rfl) (t := s.setRing k (some (r.setSeg i { r.seg i with
    state := .reading ((r.seg i).state == .read) }))) (.setRing hr ⟨rfl, rfl, rfl⟩ fun _ hs => ?_)
  exact (hs.ring hr).setState i rfl nofun nofun

theorem Keeps.ownReadSegment (tag ring selector : Byte) (seqNo : Word) :
    Keeps I s (ownReadSegment tag ring selector seqNo s) := by
  unfold Machine.ownReadSegment
  split
  · exact .replyNot _ _ _ _ _
  · refine .withRing fun k r hr => ?_
    unfold readFound
    split
    · exact .replyNot _ _ _ _ _
    split
    · exact .replyNot _ _ _ _ _
    all_goals exact .claim hr

/-! ## Requests of the Trigger Unit -/

theorem Keeps.setInput {n : Fin 4} {x : TrigInput} : Keeps I s (s.setInput n x) :=
  .of_eq rfl rfl rfl rfl rfl rfl rfl rfl rfl rfl

theorem Keeps.setCadence {n : Fin 4} {x : Cadence} : Keeps I s (s.setCadence n x) :=
  .of_eq rfl rfl rfl rfl rfl rfl rfl rfl rfl rfl

theorem Keeps.ownReadTime (tag : Byte) : Keeps I s (ownReadTime tag s) := .replyOk _ _ _ _

theorem Keeps.ownSetTriggerInput (tag input enabled edge : Byte) (holdoff : Half) :
    Keeps I s (ownSetTriggerInput tag input enabled edge holdoff s) := by
  unfold Machine.ownSetTriggerInput
  split
  · exact .replyNot _ _ _ _ _
  · exact .after (.replyOk _ _ _ _) .setInput

theorem Keeps.ownSetCadence (tag generator enable : Byte) (period : Value) :
    Keeps I s (ownSetCadence tag generator enable period s) := by
  unfold Machine.ownSetCadence
  split
  · exact .after (.replyOk _ _ _ _) .setCadence
  · split
    · exact .replyNot _ _ _ _ _
    · exact .after (.replyOk _ _ _ _) .setCadence
  · exact .replyNot _ _ _ _ _

end Sys2Proof.Machine
end

section
/-! PROOFS. Every command and every microsecond keeps the invariants: the Host Link's admission and receiver, the
events, the two resets, and the time that passes with no command waiting. -/

namespace Sys2Proof.Machine

-- One proof after the other, as in the tests: many at once would each hold a thread.
set_option Elab.async false

/-! ## Invariants without the time base and the blocks held -/

/-- Every invariant carries over from `s` to `t`, and capture memory outside held blocks is unchanged; the time base may
move, and blocks may be newly held. -/
structure Handled (s t : State) : Prop where
  mem : Memory.wf s.mem = true → Memory.wf t.mem = true
  ports : s.PortsSound → t.PortsSound
  notices : s.notices.Sound → t.notices.Sound
  link : s.link.Sound → t.link.Sound
  plans : s.PlansSound → t.PlansSound
  rings : s.RingsSound → t.RingsSound
  queue : s.QueueSound → t.QueueSound
  inside : s.RingsSound → Memory.wf s.mem = true → ∀ a, ¬ s.HeldByRing a →
    Memory.readByte t.mem a = Memory.readByte s.mem a

section
variable {s t u : State}

theorem Keeps.handled (h : Keeps True s t) : Handled s t where
  mem := h.mem
  ports := h.ports
  notices := h.notices
  link := h.link
  plans := h.plans
  rings := h.rings trivial
  queue := h.queue
  inside := h.inside trivial

theorem Handled.chain (k : Handled t u) (h : Handled s t) (held : ∀ a, t.HeldByRing a → s.HeldByRing a) :
    Handled s u where
  mem := k.mem ∘ h.mem
  ports := k.ports ∘ h.ports
  notices := k.notices ∘ h.notices
  link := k.link ∘ h.link
  plans := k.plans ∘ h.plans
  rings := k.rings ∘ h.rings
  queue := k.queue ∘ h.queue
  inside hr hm a ha := (k.inside (h.rings hr) (h.mem hm) a (ha ∘ held a)).trans (h.inside hr hm a ha)

theorem Handled.afterKeeps (k : Handled t u) (h : Keeps True s t) : Handled s u := k.chain h.handled h.held

/-- The time base set to another value. -/
theorem Handled.setTime (s : State) (time : Time) : Handled s { s with timeBase := time } :=
  ⟨id, id, id, id, id, id, id, fun _ _ _ _ => rfl⟩

/-- Capture memory kept, what is left of the state handled. -/
theorem Handled.of_mem (hmem : t.mem = s.mem) (ports : s.PortsSound → t.PortsSound)
    (notices : s.notices.Sound → t.notices.Sound) (link : s.link.Sound → t.link.Sound)
    (plans : s.PlansSound → t.PlansSound) (rings : s.RingsSound → t.RingsSound) (queue : s.QueueSound → t.QueueSound) :
    Handled s t :=
  ⟨fun h => hmem ▸ h, ports, notices, link, plans, rings, queue, fun _ _ _ _ => by rw [hmem]⟩

/-! ## DEFINE-RING and SET-TIME -/

theorem range?_eq_some {lo hi n m : Nat} (h : range? lo hi n = some m) : m = n ∧ lo ≤ n ∧ n ≤ hi := by
  unfold range? at h
  split at h
  · next hin => exact ⟨(Option.some.inj h).symm, hin⟩
  · exact nomatch h

/-- The blocks that first fit finds are free and within capture memory (R4). -/
theorem firstFit_eq_some {n b : Nat} (h : s.firstFit n = some b) :
    b + n ≤ 1024 ∧ ∀ k : Fin 4, ∀ r ∈ s.ring k, b + n ≤ r.base ∨ r.base + r.count * r.size ≤ b := by
  unfold State.firstFit at h
  split at h
  · next hn =>
    have hrange := List.mem_of_find?_eq_some h
    have hfree := List.find?_some h
    simp only [List.mem_range, Config.blocks] at hrange hn
    refine ⟨by omega, fun k r hr => ?_⟩
    have hk := List.all_eq_true.mp hfree k (List.mem_finRange k)
    rw [Option.mem_def.mp hr] at hk
    simp only [Option.all_some, Bool.or_eq_true, decide_eq_true_eq] at hk
    exact hk
  · exact nomatch h

/-- The ring that a DEFINE-RING with its fields in range asks for. -/
theorem ringFields?_eq_some {ring count size policy autoRelease : Byte} {limit : Half} {k : Fin 4} {mk : Nat → Ring}
    (h : ringFields? ring count size policy limit autoRelease = some (k, mk)) :
    (2 ≤ count.toNat ∧ count.toNat ≤ 16) ∧ (1 ≤ size.toNat ∧ size.toNat ≤ 64)
      ∧ ∃ p l a, mk = newRing count.toNat size.toNat p l a := by
  simp only [ringFields?, Option.bind_eq_bind, Option.bind_eq_some_iff, Option.pure_def, Option.some.injEq,
    Prod.mk.injEq] at h
  obtain ⟨_, -, c, hc, z, hz, p, -, l, -, a, -, -, rfl⟩ := h
  obtain ⟨rfl, hcount⟩ := range?_eq_some hc
  obtain ⟨rfl, hsize⟩ := range?_eq_some hz
  exact ⟨hcount, hsize, p, l, a, rfl⟩

theorem newRing_sound {count size base limit : Nat} {policy : Policy} {autoRelease : Bool} (hc : 2 ≤ count ∧ count ≤ 16)
    (hz : 1 ≤ size ∧ size ≤ 64) (hfit : base + count * size ≤ 1024) :
    (newRing count size policy limit autoRelease base).Sound := by
  have hseg : ∀ i, (newRing count size policy limit autoRelease base).seg i = .empty := fun i => by
    simp [Ring.seg, newRing, List.getElem?_replicate]
    split <;> rfl
  refine ⟨hc, hz, hfit, List.length_replicate, fun g hg => ?_, fun i _ hi => ?_, nofun, nofun⟩
  · obtain rfl := (List.mem_replicate.mp hg).2
    exact ⟨Nat.zero_le _, fun _ => rfl⟩
  · rw [hseg] at hi
    exact nomatch hi

/-- A ring made where none was, on blocks that no ring holds. -/
theorem Handled.newRing {k : Fin 4} {r : Ring} (hr : r.Sound)
    (hfree : ∀ j : Fin 4, ∀ x ∈ s.ring j, r.base + r.count * r.size ≤ x.base ∨ x.base + x.count * x.size ≤ r.base) :
    Handled s (s.setRing k (some r)) := by
  refine .of_mem rfl id id id id (fun ⟨hrings, hdisjoint, hbuilders⟩ => ⟨fun j x hx => ?_, fun i j hij a ha b hb => ?_,
    hbuilders⟩) id
  · rw [State.setRing_get] at hx
    split at hx
    · obtain rfl := Option.some.inj hx
      exact hr
    · exact hrings j x hx
  · rw [State.setRing_get] at ha hb
    split at ha
    · next hi =>
      obtain rfl := Option.some.inj ha
      rw [if_neg fun hj => hij (hi.trans hj.symm)] at hb
      exact hfree j b hb
    · split at hb
      · obtain rfl := Option.some.inj hb
        exact (hfree i a ha).symm
      · exact hdisjoint i j hij a ha b hb

theorem Handled.ownDefineRing (tag ring count size policy : Byte) (limit : Half) (autoRelease : Byte) :
    Handled s (ownDefineRing tag ring count size policy limit autoRelease s) := by
  unfold Machine.ownDefineRing
  split
  · exact (Keeps.replyNot _ _ _ _ _).handled
  next k mk hfields =>
  obtain ⟨hc, hz, p, l, a, rfl⟩ := ringFields?_eq_some hfields
  split
  · exact (Keeps.replyNot _ _ _ _ _).handled
  split
  · exact (Keeps.replyNot _ _ _ _ _).handled
  next b hb =>
  obtain ⟨hfit, hfree⟩ := firstFit_eq_some hb
  have hdefined : Handled s (s.setRing k (some (Machine.newRing count.toNat size.toNat p l a b))) :=
    .newRing (newRing_sound hc hz hfit) hfree
  have hreplied := (Keeps.replyOk (I := True) (s.setRing k (some (Machine.newRing count.toNat size.toNat p l a b))) tag 0x10#8 (bytesBE 2 b))
  exact ⟨hreplied.mem ∘ hdefined.mem, hreplied.ports ∘ hdefined.ports, hreplied.notices ∘ hdefined.notices,
    hreplied.link ∘ hdefined.link, hreplied.plans ∘ hdefined.plans, hreplied.rings trivial ∘ hdefined.rings,
    hreplied.queue ∘ hdefined.queue, fun _ _ _ _ => rfl⟩

theorem ownDefineRing_timeBase (tag ring count size policy : Byte) (limit : Half) (autoRelease : Byte) (s : State) :
    (ownDefineRing tag ring count size policy limit autoRelease s).timeBase = s.timeBase := by
  unfold ownDefineRing
  split
  · rfl
  split
  · rfl
  split <;> rfl

theorem Handled.ownSetTime (tag : Byte) (time : Time) : Handled s (ownSetTime tag time s) :=
  (Keeps.replyOk _ _ _ _).handled.chain (.setTime s time) fun _ => id

/-! ## Admission -/

theorem Keeps.placeRefusal (tag kind : Byte) (st : Status) : Keeps True s (s.placeRefusal tag kind st) := by
  unfold State.placeRefusal
  split
  · exact .refl s
  · next hroom =>
    refine .setLink fun ⟨hlen, hnodup, hzero, hrejects, _, hreceiver⟩ => ⟨hlen, hnodup, hzero, hrejects, ?_, hreceiver⟩
    simp only [State.refusals, Config.linkQueue] at hroom
    simp only [List.filter_append, List.filter_cons, List.filter_nil, if_true, List.length_append, List.length_singleton]
    omega

/-- The checks of R192 that bound the outstanding-request table. -/
theorem admission_eq_none {tag kind : Byte} {len : Nat} (h : s.admission tag kind len = none) :
    tag ≠ 0x00#8 ∧ (∀ o ∈ s.link.outstanding, o.tag ≠ tag) ∧ s.link.outstanding.length < 4
      ∧ bodyAllowed kind len = some true := by
  unfold State.admission at h
  split at h
  · exact nomatch h
  next htag =>
  split at h
  · exact nomatch h
  split at h
  · exact nomatch h
  next hany =>
  split at h
  · exact nomatch h
  next hroom =>
  refine ⟨htag, by simpa using hany, by simpa [Config.window] using hroom, ?_⟩
  split at h
  · exact nomatch h
  · exact nomatch h
  · assumption

theorem Keeps.admitted {tag kind : Byte} {len : Nat} (h : s.admission tag kind len = none) :
    Keeps True s (s.admitted tag kind) := by
  obtain ⟨htag, hnew, hroom, -⟩ := admission_eq_none h
  refine .setLink fun ⟨hlen, hnodup, hzero, hrejects, hrefusals, hreceiver⟩ =>
    ⟨?_, ?_, fun o ho => ?_, hrejects, hrefusals, hreceiver⟩
  · simp only [List.length_append, List.length_singleton]
    omega
  · simp only [List.map_append, List.map_cons, List.map_nil]
    refine List.Nodup.append hnodup (List.nodup_singleton _) fun x hx hmem => ?_
    obtain ⟨o, ho, rfl⟩ := List.mem_map.mp hx
    exact hnew o ho (List.mem_singleton.mp hmem)
  · rcases List.mem_append.mp ho with hold | hlast
    · exact hzero o hold
    · obtain rfl := List.mem_singleton.mp hlast
      exact htag

theorem Keeps.receive {tag kind : Byte} {len : Nat} {owner : State → State} (h : ∀ u, Keeps True u (owner u)) :
    Keeps True s (receive tag kind len owner s) := by
  unfold Machine.receive
  split
  · exact .refl s
  split
  · exact .placeRefusal _ _ _
  · next hadm => exact .after (h _) (.admitted hadm)

theorem Handled.receive {tag kind : Byte} {len : Nat} {owner : State → State} (h : ∀ u, Handled u (owner u)) :
    Handled s (receive tag kind len owner s) := by
  unfold Machine.receive
  split
  · exact (Keeps.refl s).handled
  split
  · exact (Keeps.placeRefusal _ _ _).handled
  · next hadm => exact (h _).afterKeeps (.admitted hadm)

theorem receive_timeBase {tag kind : Byte} {len : Nat} {owner : State → State}
    (h : (owner (s.admitted tag kind)).timeBase = s.timeBase) : (receive tag kind len owner s).timeBase = s.timeBase := by
  unfold receive
  split
  · rfl
  split
  · exact (Keeps.placeRefusal _ _ _).time
  · exact h

/-! ## Frames by their kind -/

/-- The owners of all kinds but DEFINE-RING and SET-TIME. -/
theorem Keeps.ownerOf {tag kind : Byte} {body : List Byte} (hdefine : kind.toNat ≠ 0x10) (htime : kind.toNat ≠ 0x30) :
    Keeps True s (ownerOf tag kind body s) := by
  generalize howner : Machine.ownerOf tag kind body = owner
  unfold Machine.ownerOf at howner
  dsimp only at howner
  split at howner <;> subst howner
  · exact .ownOpenSession _
  · exact .ownCloseSession _
  · exact .ownIdentify _
  · exact .ownAbortRequest _ _
  · exact .ownResetDevice _
  · contradiction
  · exact .ownDeleteRing _ _
  · exact .ownSealRing _ _
  · exact .ownReleaseSegment _ _ _
  · exact .ownQueryRing _ _
  · exact .ownListSegments _ _ _
  · exact .ownOpenPlan _ _ _ _ _ _ _ _
  · exact .ownAppendSteps _ _ _
  · exact .ownClosePlan _ _
  · exact .ownArmPlan _ _
  · exact .ownDisarmPlan _ _
  · exact .ownDeletePlan _ _
  · exact .ownQueryPlan _ _
  · exact .ownFire _ _
  · contradiction
  · exact .ownReadTime _
  · exact .ownSetTriggerInput _ _ _ _ _
  · exact .ownSetCadence _ _ _ _
  · exact .ownAbortRun _ _
  · exact .ownClearAcquisition _
  · exact .ownPortPower _ _ _
  · exact .ownQueryPort _ _
  · exact .ownProbeAccess _ _ _ _ _
  · exact .ownSetProfile _ _ _ _ _ _ _ _ _ _ _
  · exact .ownCommitProfile _ _
  · exact .ownReadProfile _ _ _
  · exact .ownReadSegment _ _ _ _
  · exact .ownSetNoticeMode _ _
  · exact .ownGrantCredits _ _
  · exact .ownTakeNotices _ _
  · exact .ownAckNotices _ _
  · exact .ownResendNotices _
  · exact .refl s

theorem ownerOf_defineRing (tag : Byte) (body : List Byte) (s : State) : ∃ ring count size policy limit autoRelease,
    ownerOf tag 0x10#8 body s = ownDefineRing tag ring count size policy limit autoRelease s :=
  ⟨_, _, _, _, _, _, rfl⟩

theorem ownerOf_setTime (tag : Byte) (body : List Byte) :
    ownerOf tag 0x30#8 body = ownSetTime tag (BitVec.ofNat 48 (field body 0 6)) := rfl

theorem Handled.ownerOf {tag kind : Byte} {body : List Byte} : Handled s (ownerOf tag kind body s) := by
  by_cases hdefine : kind.toNat = 0x10
  · obtain rfl : kind = 0x10#8 := BitVec.eq_of_toNat_eq hdefine
    obtain ⟨_, _, _, _, _, _, h⟩ := ownerOf_defineRing tag body s
    rw [h]
    exact .ownDefineRing _ _ _ _ _ _ _
  by_cases htime : kind.toNat = 0x30
  · obtain rfl : kind = 0x30#8 := BitVec.eq_of_toNat_eq htime
    exact .ownSetTime _ _
  · exact (Keeps.ownerOf hdefine htime).handled

theorem ownerOf_timeBase {tag kind : Byte} {body : List Byte} (htime : kind ≠ 0x30#8) (s : State) :
    (ownerOf tag kind body s).timeBase = s.timeBase := by
  by_cases hdefine : kind.toNat = 0x10
  · obtain rfl : kind = 0x10#8 := BitVec.eq_of_toNat_eq hdefine
    obtain ⟨_, _, _, _, _, _, h⟩ := ownerOf_defineRing tag body s
    rw [h]
    exact ownDefineRing_timeBase _ _ _ _ _ _ _ _
  · exact (Keeps.ownerOf hdefine fun h => htime (BitVec.eq_of_toNat_eq h)).time

/-! ## The receiver -/

/-- The receiver set to a state that says a frame in progress is not complete. -/
theorem Keeps.setReceiver {r : Receiver} (h : s.link.receiver.sound = true → r.sound = true) :
    Keeps True s (s.setReceiver r) :=
  .setLink fun ⟨hlen, hnodup, hzero, hrejects, hrefusals, hreceiver⟩ =>
    ⟨hlen, hnodup, hzero, hrejects, hrefusals, h hreceiver⟩

theorem Keeps.rejectFrame (reason : RejectReason) (tag : Byte) : Keeps True s (s.rejectFrame reason tag) := by
  refine .setLink fun ⟨hlen, hnodup, hzero, hrejects, hrefusals, _⟩ => ⟨hlen, hnodup, hzero, ?_, hrefusals, rfl⟩
  dsimp only
  split
  · exact hrejects
  · next hroom =>
    simp only [Config.linkQueue] at hroom
    simp only [List.length_append, List.length_singleton]
    omega

theorem Keeps.gapTimerExpiry : Keeps True s (gapTimerExpiry s) := by
  unfold Machine.gapTimerExpiry
  split
  · exact .refl s
  split
  · exact .setReceiver fun _ => rfl
  · exact .rejectFrame _ _

theorem Handled.frameByte (bytes : List Byte) : Handled s (s.frameByte bytes) := by
  unfold State.frameByte
  dsimp only
  split
  · exact (Keeps.rejectFrame _ _).handled
  next hlen =>
  split
  · next hmore =>
    refine (Keeps.setReceiver fun _ => ?_).handled
    simp only [Receiver.sound, Bool.or_eq_true, Bool.and_eq_true, decide_eq_true_eq]
    exact .inr ⟨by omega, hmore⟩
  · unfold State.frameComplete
    dsimp only
    split
    · exact (Handled.receive fun _ => .ownerOf).afterKeeps (.setReceiver fun _ => rfl)
    · exact (Keeps.rejectFrame _ _).handled

theorem Handled.rxdByte (b : Byte) (stopBit : Bool) : Handled s (rxdByte b stopBit s) := by
  unfold Machine.rxdByte
  split
  · exact (Keeps.refl s).handled
  split
  · split
    · exact (Keeps.setReceiver fun _ => rfl).handled
    · exact (Keeps.refl s).handled
  · exact .frameByte _

end

end Sys2Proof.Machine
end

section
/-! PROOFS. The invariants of a step: each event and each microsecond keeps them, a device reset establishes them, and
the obligations on the steps of a sound state follow. -/

namespace Sys2Proof.Machine

-- One proof after the other, as in the tests: many at once would each hold a thread.
set_option Elab.async false

section
variable {s : State}

/-! ## Events of the transmitter, the trigger inputs and the engines -/

theorem Keeps.replySent (tag : Byte) : Keeps True s (s.replySent tag) :=
  .after (t := { s with link := { s.link with outstanding := s.link.outstanding.filter fun o => o.tag != tag } })
    (.of_eq rfl rfl rfl rfl rfl rfl rfl rfl rfl rfl)
    (.setLink fun h => h.mono (List.filter_sublist.map _) (Nat.le_refl _) (Nat.le_refl _) rfl)

theorem Keeps.frameSent (what : Sending) : Keeps True s (s.frameSent what) := by
  have hidle : Keeps True s { s with link := { s.link with transmitter := none } } := .setLink fun h => h
  cases what with
  | other => exact hidle
  | finalReply tag => exact .after (.replySent tag) hidle

/-- Where the frame sent is not the reply of a RESET-DEVICE. -/
theorem Keeps.txdFrameEnd (h : s.endsInReset = false) : Keeps True s (txdFrameEnd s) := by
  unfold Machine.txdFrameEnd
  split
  · exact .refl s
  · rw [h]
    exact .after .transmit (.frameSent _)

theorem arrivals_acts (s : State) (source : Source) (time : Time) :
    ((s.arrivals source time).all fun a => !a.idles) = true := by
  simp [State.arrivals, Act.idles]

theorem Leads.fireSource (source : Source) : Leads True s (s.fireSource source) := ⟨.refl s, arrivals_acts s source _⟩

theorem Keeps.trgEdge (n : Fin 4) (rising : Bool) : Keeps True s (trgEdge n rising s) := by
  unfold Machine.trgEdge
  dsimp only
  split
  · exact ((Leads.fireSource _).after .setInput).event
  · exact .refl s

theorem Leads.cadenceEnd (n : Fin 4) : Leads True s (s.cadenceEnd n) := by
  unfold State.cadenceEnd
  dsimp only
  split
  · exact (Leads.fireSource _).after .setCadence
  · exact ⟨.refl s, rfl⟩

theorem startingActs_acts (s : State) : (s.startingActs.all fun a => !a.idles) = true := by
  simp [State.startingActs, Act.idles]

theorem Keeps.runTake : Keeps True s (runTake s) := by
  refine Leads.event ⟨Leads.takeHead.keeps, ?_⟩
  rw [List.all_append, startingActs_acts, (Leads.takeHead (I := True)).acts]
  rfl

theorem Keeps.spacingExpiry (e : Fin 4) : Keeps True s (spacingExpiry e s) := by
  unfold Machine.spacingExpiry
  split
  · split
    · exact .startTransfer e _
    · exact .refl s
  · exact .refl s

theorem Leads.waitEnd (e : Fin 4) : Leads True s (s.waitEnd e) := by
  unfold State.waitEnd
  split <;> exact ⟨.refl s, rfl⟩

theorem Leads.stallEnd (e : Fin 4) : Leads True s (s.stallEnd e) := by
  unfold State.stallEnd
  split
  · exact ⟨.after (.setRun fun _ _ => Nat.zero_lt_succ _) (.leaveStall s e), rfl⟩
  · exact ⟨.refl s, rfl⟩

/-! ## Events of the ports -/

/-- A change of a port that is made only under a condition. -/
theorem Keeps.setPortIf {c : Prop} [Decidable c] {p : Fin 8} {x : Port} (h : c → (s.port p).Sound → x.Sound) :
    Keeps True s (if c then s.setPort p x else s) := by
  split
  · next hc => exact .setPort (h hc)
  · exact .refl s

theorem Keeps.quietPeriodEnd (p : Fin 8) : Keeps True s (quietPeriodEnd p s) := by
  have hquiet : (s.port p).Sound → Port.Sound { s.port p with quiet := none } := id
  unfold Machine.quietPeriodEnd
  dsimp only
  split
  · exact .refl s
  · refine .setPort fun h => ?_
    split
    · exact (hquiet h).attempt
    · exact hquiet h

theorem Keeps.powerSettleExpiry (p : Fin 8) : Keeps True s (powerSettleExpiry p s) :=
  .setPortIf fun hc h => h.enterClocking hc.1

theorem Keeps.clockSettleExpiry (p : Fin 8) : Keeps True s (clockSettleExpiry p s) :=
  .setPortIf fun hc h => (h.enterIdentifying hc.1 0).attempt

theorem Keeps.retrainSettleExpiry (p : Fin 8) : Keeps True s (retrainSettleExpiry p s) :=
  .setPortIf fun _ h => h.attempt

theorem Keeps.identifySpacingExpiry (p : Fin 8) : Keeps True s (identifySpacingExpiry p s) :=
  .setPortIf fun _ h => h.attempt

theorem Keeps.stopClockExpiry (p : Fin 8) : Keeps True s (stopClockExpiry p s) :=
  .setPortIf fun hc h => h.stopClock hc.1 _

theorem Keeps.dischargeExpiry (p : Fin 8) : Keeps True s (dischargeExpiry p s) := by
  unfold Machine.dischargeExpiry
  dsimp only
  split
  · next hc => exact .after (.postPortState p) (.setPort fun h => h.enterOff (.inl hc.1))
  · exact .refl s

theorem Keeps.overcurrent (p : Fin 8) (asserted : Bool) : Keeps True s (overcurrent p asserted s) := by
  have hlevel : Keeps True s (s.setPort p { s.port p with ocLine := asserted }) := .setPort fun h => h
  unfold Machine.overcurrent
  dsimp only
  split
  · exact (Leads.portFault.after hlevel).event
  · exact hlevel

theorem Keeps.attentionEdge (p : Fin 8) (rising : Bool) : Keeps True s (attentionEdge p rising s) := by
  unfold Machine.attentionEdge
  split
  · dsimp only
    split
    · exact Leads.event ⟨.post _ _ _ _ _, arrivals_acts _ _ _⟩
    · exact Leads.event ⟨.refl s, arrivals_acts _ _ _⟩
  · exact .refl s

theorem Keeps.drainEnd (p : Fin 8) : Keeps True s (drainEnd p s) := by
  unfold Machine.drainEnd
  dsimp only
  split
  · next hc => exact (Leads.drained (by rw [hc.1]; nofun)).event
  · exact .refl s

theorem Leads.grantHead {p : Fin 8} (hup : (s.port p).state = .up) (hpending : (s.port p).commitPending = false) :
    Leads True s (s.grantHead p) := by
  have h : Leads True s ((s.setPort p (s.port p)).grantHead p) := .setPort_grantHead (fun h => ⟨h.basic, hpending⟩) hup
  rwa [State.setPort_eq_self] at h

theorem Keeps.grant (p : Fin 8) : Keeps True s (grant p s) := by
  unfold Machine.grant
  dsimp only
  split
  · next hc => exact (Leads.grantHead hc.1 (by simpa using hc.2.2)).event
  · exact .refl s

theorem Keeps.profileCopy (p : Fin 8) : Keeps True s (profileCopy p s) :=
  .setPortIf fun hc h => h.copy (by simpa using hc.2)

/-! ## Commands -/

theorem Keeps.awake {f : State → State} (h : Keeps True s (f s)) : Keeps True s (awake f s) := by
  unfold Machine.awake
  split
  · exact .refl s
  · exact h

/-- Commands that may move the time base, hold new blocks or reset the part. -/
def Instr.special : Instr → Bool
  | .setTime .. | .defineRing .. | .rxdByte .. | .resetAsserted .. | .resetReleased | .deviceResetRequest
  | .txdFrameEnd => true
  | _ => false

/-- Every other command has a next state and keeps the invariants. -/
theorem exec_keeps {c : Instr} (hc : Instr.special c = false) (s : State) : ∃ t, exec c s = .next t ∧ Keeps True s t := by
  cases c with
  | setTime | defineRing | rxdByte | resetAsserted | resetReleased | deviceResetRequest | txdFrameEnd => exact nomatch hc
  | openSession tag => exact ⟨_, rfl, .receive fun _ => .ownOpenSession _⟩
  | closeSession tag => exact ⟨_, rfl, .receive fun _ => .ownCloseSession _⟩
  | identify tag => exact ⟨_, rfl, .receive fun _ => .ownIdentify _⟩
  | abortRequest tag target => exact ⟨_, rfl, .receive fun _ => .ownAbortRequest _ _⟩
  | resetDevice tag => exact ⟨_, rfl, .receive fun _ => .ownResetDevice _⟩
  | deleteRing tag ring => exact ⟨_, rfl, .receive fun _ => .ownDeleteRing _ _⟩
  | sealRing tag ring => exact ⟨_, rfl, .receive fun _ => .ownSealRing _ _⟩
  | releaseSegment tag ring seqNo => exact ⟨_, rfl, .receive fun _ => .ownReleaseSegment _ _ _⟩
  | queryRing tag ring => exact ⟨_, rfl, .receive fun _ => .ownQueryRing _ _⟩
  | listSegments tag ring start => exact ⟨_, rfl, .receive fun _ => .ownListSegments _ _ _⟩
  | openPlan => exact ⟨_, rfl, .receive fun _ => .ownOpenPlan _ _ _ _ _ _ _ _⟩
  | appendSteps => exact ⟨_, rfl, .receive fun _ => .ownAppendSteps _ _ _⟩
  | closePlan => exact ⟨_, rfl, .receive fun _ => .ownClosePlan _ _⟩
  | armPlan => exact ⟨_, rfl, .receive fun _ => .ownArmPlan _ _⟩
  | disarmPlan => exact ⟨_, rfl, .receive fun _ => .ownDisarmPlan _ _⟩
  | deletePlan => exact ⟨_, rfl, .receive fun _ => .ownDeletePlan _ _⟩
  | queryPlan => exact ⟨_, rfl, .receive fun _ => .ownQueryPlan _ _⟩
  | fire => exact ⟨_, rfl, .receive fun _ => .ownFire _ _⟩
  | readTime => exact ⟨_, rfl, .receive fun _ => .ownReadTime _⟩
  | setTriggerInput => exact ⟨_, rfl, .receive fun _ => .ownSetTriggerInput _ _ _ _ _⟩
  | setCadence => exact ⟨_, rfl, .receive fun _ => .ownSetCadence _ _ _ _⟩
  | abortRun => exact ⟨_, rfl, .receive fun _ => .ownAbortRun _ _⟩
  | clearAcquisition => exact ⟨_, rfl, .receive fun _ => .ownClearAcquisition _⟩
  | portPowerOn => exact ⟨_, rfl, .receive fun _ => .ownPortPower _ _ _⟩
  | portPowerOff => exact ⟨_, rfl, .receive fun _ => .ownPortPower _ _ _⟩
  | queryPort => exact ⟨_, rfl, .receive fun _ => .ownQueryPort _ _⟩
  | probeAccess => exact ⟨_, rfl, .receive fun _ => .ownProbeAccess _ _ _ _ _⟩
  | setProfile => exact ⟨_, rfl, .receive fun _ => .ownSetProfile _ _ _ _ _ _ _ _ _ _ _⟩
  | commitProfile => exact ⟨_, rfl, .receive fun _ => .ownCommitProfile _ _⟩
  | readProfile => exact ⟨_, rfl, .receive fun _ => .ownReadProfile _ _ _⟩
  | readSegment => exact ⟨_, rfl, .receive fun _ => .ownReadSegment _ _ _ _⟩
  | setNoticeMode => exact ⟨_, rfl, .receive fun _ => .ownSetNoticeMode _ _⟩
  | grantCredits => exact ⟨_, rfl, .receive fun _ => .ownGrantCredits _ _⟩
  | takeNotices => exact ⟨_, rfl, .receive fun _ => .ownTakeNotices _ _⟩
  | ackNotices => exact ⟨_, rfl, .receive fun _ => .ownAckNotices _ _⟩
  | resendNotices => exact ⟨_, rfl, .receive fun _ => .ownResendNotices _⟩
  | gapTimerExpiry => exact ⟨_, rfl, .awake .gapTimerExpiry⟩
  | transmitterTake => exact ⟨_, rfl, .awake .transmit⟩
  | trgEdge input rising => exact ⟨_, rfl, .awake (.trgEdge input rising)⟩
  | holdoffExpiry input => exact ⟨_, rfl, .awake .setInput⟩
  | cadenceExpiry n => exact ⟨_, rfl, .awake (Leads.cadenceEnd n).event⟩
  | probeResponse port word early =>
    refine ⟨_, rfl, .awake ?_⟩
    unfold probeResponse
    split
    · exact .refl s
    · exact Leads.txnEnd.event
  | responseTimeout port => exact ⟨_, rfl, .awake Leads.txnEnd.event⟩
  | quietPeriodEnd port => exact ⟨_, rfl, .awake (.quietPeriodEnd port)⟩
  | spacingExpiry engine => exact ⟨_, rfl, .awake (.spacingExpiry engine)⟩
  | waitExpiry engine => exact ⟨_, rfl, .awake (Leads.waitEnd engine).event⟩
  | stallTimerExpiry engine => exact ⟨_, rfl, .awake (Leads.stallEnd engine).event⟩
  | hostWaitLimitExpiry port => exact ⟨_, rfl, .awake (.endWaiting _ _)⟩
  | powerSettleExpiry port => exact ⟨_, rfl, .awake (.powerSettleExpiry port)⟩
  | clockSettleExpiry port => exact ⟨_, rfl, .awake (.clockSettleExpiry port)⟩
  | retrainSettleExpiry port => exact ⟨_, rfl, .awake (.retrainSettleExpiry port)⟩
  | identifySpacingExpiry port => exact ⟨_, rfl, .awake (.identifySpacingExpiry port)⟩
  | stopClockExpiry port => exact ⟨_, rfl, .awake (.stopClockExpiry port)⟩
  | dischargeExpiry port => exact ⟨_, rfl, .awake (.dischargeExpiry port)⟩
  | overcurrent port asserted => exact ⟨_, rfl, .overcurrent port asserted⟩
  | attentionEdge port rising => exact ⟨_, rfl, .awake (.attentionEdge port rising)⟩
  | runTake => exact ⟨_, rfl, .awake .runTake⟩
  | stallWake ring => exact ⟨_, rfl, .awake (Leads.wake ring).event⟩
  | drainEnd port => exact ⟨_, rfl, .awake (.drainEnd port)⟩
  | grant port => exact ⟨_, rfl, .awake (.grant port)⟩
  | profileCopy port => exact ⟨_, rfl, .awake (.profileCopy port)⟩
  | acquisitionClear => exact ⟨_, rfl, .awake (Leads.event ⟨.refl s, rfl⟩)⟩

/-! ## Device reset -/

/-- Every invariant holds. -/
abbrev State.AllSound (s : State) : Prop :=
  Memory.wf s.mem = true ∧ s.PortsSound ∧ s.notices.Sound ∧ s.link.Sound ∧ s.PlansSound ∧ s.QueueSound ∧ s.RingsSound

theorem Port.reset_sound (ocLine : Bool) : (Port.reset ocLine).Sound := by
  simp [Port.reset, Port.Sound]

theorem NoticeQueue.restarted_sound (cause : ResetCause) : (NoticeQueue.restarted cause).Sound := by
  simp [NoticeQueue.restarted, NoticeQueue.Sound]

theorem Link.reset_sound (rate : BitVec 2) (cause : ResetCause) : (Link.reset rate cause).Sound := by
  simp [Link.reset, Link.Sound, Receiver.sound]

theorem afterReset_sound (s : State) (cause : ResetCause) (rate : BitVec 2) : (s.afterReset cause rate).AllSound := by
  have hplan : ∀ p, (s.afterReset cause rate).plan p = .reset := fun p => by
    simp [State.afterReset, State.reset, State.plan]
  have hring : ∀ k, (s.afterReset cause rate).ring k = none := fun k => by
    simp [State.afterReset, State.reset, State.ring]
  have hrun : ∀ e, ((s.afterReset cause rate).engine e).run = none := fun e => by
    simp [State.afterReset, State.reset, State.engine, Engine.reset]
  refine ⟨rfl, fun p => ?_, NoticeQueue.restarted_sound cause, Link.reset_sound rate cause, ⟨rfl, fun p => ?_⟩,
    ⟨fun h => absurd rfl h, List.Pairwise.nil⟩, fun k r hr => ?_, fun j k _ a ha => ?_, fun e r hr => ?_⟩
  · simpa [State.afterReset, State.port] using Port.reset_sound _
  · rw [hplan]
    simp [Plan.reset]
  · rw [hring] at hr
    exact nomatch hr
  · rw [hring] at ha
    exact nomatch ha
  · rw [hrun] at hr
    exact nomatch hr

theorem heldInReset_sound (s : State) (straps : BitVec 2) : (s.heldInReset straps).AllSound := by
  obtain ⟨hmem, hports, -, hlink, hplans, hqueue, hrings⟩ := afterReset_sound s .pin straps
  exact ⟨hmem, hports, by simp [State.heldInReset, NoticeQueue.emptied, NoticeQueue.Sound], hlink, hplans, hqueue, hrings⟩

theorem Handled.released : Handled s s.released :=
  ⟨id, id, fun _ => NoticeQueue.restarted_sound .pin, id, id, id, id, fun _ _ _ _ => rfl⟩

/-! ## One microsecond -/

theorem engine_elapse_idle (x : Engine) : x.elapse.state = .idle ↔ x.state = .idle := by
  unfold Engine.elapse
  split <;> simp_all

theorem engine_elapse_run (x : Engine) : x.elapse.run = x.run := by
  unfold Engine.elapse
  split <;> rfl

theorem Ring.Sound.elapse {r : Ring} (h : r.Sound) : r.elapse.Sound :=
  h.stallList fun x hx => by
    obtain ⟨y, hy, rfl⟩ := List.mem_map.mp hx
    exact h.stalled y hy

theorem Receiver.elapse_sound (r : Receiver) : r.elapse.sound = r.sound := by
  cases r <;> rfl

/-- The rings alone a microsecond on. -/
theorem Keeps.elapseRings : Keeps True s { s with rings := s.rings.map fun o => o.map Ring.elapse } :=
  .mapRings (fun _ => ⟨rfl, rfl, rfl⟩) fun _ h => h.elapse

theorem elapse_engine (e : Fin 4) : s.elapse.engine e = (s.engine e).elapse := by
  simp [State.elapse, State.engine]

theorem Handled.elapse : Handled s s.elapse := by
  refine .of_mem rfl (fun h p => ?_) id (fun ⟨h1, h2, h3, h4, h5, h6⟩ => ⟨h1, h2, h3, h4, h5, ?_⟩) id (fun h => ?_)
    fun ⟨hbusy, hsorted⟩ => ⟨fun hq e hidle => ?_, hsorted⟩
  · have hport : s.elapse.port p = (s.port p).elapse := by simp [State.elapse, State.port]
    rw [hport]
    exact h p
  · exact (Receiver.elapse_sound _).trans h6
  · obtain ⟨hrings, hdisjoint, -⟩ := (Keeps.elapseRings (s := s)).rings trivial h
    refine ⟨hrings, hdisjoint, fun e r hr => ?_⟩
    rw [elapse_engine, engine_elapse_run] at hr
    exact h.2.2 e r hr
  · rw [elapse_engine, engine_elapse_idle] at hidle
    exact hbusy hq e hidle

theorem elapse_held (a : Nat) (h : s.elapse.HeldByRing a) : s.HeldByRing a := (Keeps.elapseRings (s := s)).held a h

/-- What the expiries of one microsecond keep, before the event closes. -/
structure Moment.From (s : State) (x : Moment) : Prop where
  keeps : Keeps True s x.st
  last : (x.last.all Act.closing) = true

/-- Only closing actions are put off to the close. -/
theorem carryOut_last (fuel : Nat) (acts : List Act) (x : Moment) (h : (x.last.all Act.closing) = true) :
    ((carryOut fuel acts x).last.all Act.closing) = true := by
  induction fuel generalizing acts x with
  | zero => cases acts <;> exact h
  | succ fuel ih =>
    cases acts with
    | nil => exact h
    | cons a rest =>
      unfold carryOut
      split
      · exact ih _ _ h
      · refine ih _ _ ?_
        simp only [List.all_append, h, act_last_closing, Bool.and_self]

theorem Moment.From.also {x : Moment} (h : x.From s) {f : State → State × List Act} (hf : ∀ u, Leads True u (f u)) :
    (x.also f).From s := by
  have hlead := hf x.st
  refine ⟨h.keeps.trans ⟨carryOut_kept _ _ hlead.keeps.toKept, fun hq => ?_⟩, carryOut_last _ _ _ h.last⟩
  exact (carryOut_served _ _ { x with st := (f x.st).1 } ⟨hlead.keeps.queue hq, h.last⟩ hlead.acts).queue

/-- A fold of effects of one moment. -/
theorem Moment.From.foldl {α : Type} {f : Moment → α → Moment} (hf : ∀ x a, x.From s → (f x a).From s) (l : List α)
    {x : Moment} (h : x.From s) : (l.foldl f x).From s := by
  induction l generalizing x with
  | nil => exact h
  | cons a l ih => exact ih (hf x a h)

theorem Keeps.expireGap : Keeps True s (expireGap s) := by
  unfold Machine.expireGap
  split
  · exact .gapTimerExpiry
  · exact .refl s

theorem Keeps.expireInput (n : Fin 4) : Keeps True s (expireInput s n) := by
  unfold Machine.expireInput
  split
  · exact .setInput
  · exact .refl s

theorem Leads.expireCadence (n : Fin 4) : Leads True s (expireCadence n s) := by
  unfold Machine.expireCadence
  split
  · exact .cadenceEnd n
  · exact ⟨.refl s, rfl⟩

theorem Leads.expireTxn (p : Fin 8) : Leads True s (expireTxn p s) := by
  unfold Machine.expireTxn
  split
  · split
    · exact .txnEnd
    · exact ⟨.refl s, rfl⟩
  · exact ⟨.refl s, rfl⟩

theorem Keeps.expireQuiet (p : Fin 8) : Keeps True s (expireQuiet s p) := by
  unfold Machine.expireQuiet
  split
  · exact .quietPeriodEnd p
  · exact .refl s

theorem Keeps.phaseEnd (p : Fin 8) : Keeps True s (phaseEnd s p) := by
  unfold Machine.phaseEnd
  split
  · exact .powerSettleExpiry p
  · exact .clockSettleExpiry p
  · exact .identifySpacingExpiry p
  · split
    · exact .retrainSettleExpiry p
    · exact .identifySpacingExpiry p
  · split
    · exact .stopClockExpiry p
    · exact .dischargeExpiry p
  all_goals exact .refl s

theorem Keeps.expirePhase (p : Fin 8) : Keeps True s (expirePhase s p) := by
  unfold Machine.expirePhase
  split
  · exact .phaseEnd p
  · exact .refl s

theorem Keeps.expireHostWait (p : Fin 8) : Keeps True s (expireHostWait s p) := by
  unfold Machine.expireHostWait
  split
  · exact .endWaiting _ _
  · exact .refl s

theorem Moment.From.expirePort {x : Moment} (h : x.From s) (p : Fin 8) : (x.expirePort p).From s := by
  have hended := h.also (f := expireTxn p) fun _ => .expireTxn p
  exact ⟨.after (.expireHostWait p) (.after (.expirePhase p) (.after (.expireQuiet p) hended.keeps)), hended.last⟩

theorem Leads.expireEngine (e : Fin 4) : Leads True s (expireEngine e s) := by
  unfold Machine.expireEngine
  split
  · exact ⟨.spacingExpiry e, rfl⟩
  · exact .waitEnd e
  · split
    · exact .stallEnd e
    · exact ⟨.refl s, rfl⟩
  · exact ⟨.refl s, rfl⟩

theorem expire_from : s.expire.From s := by
  have hstart : (Moment.start ((List.finRange 4).foldl Machine.expireInput (Machine.expireGap s))).From s :=
    ⟨.after (.foldl (fun _ n => .expireInput n) _ _) .expireGap, rfl⟩
  have hcadences := Moment.From.foldl (f := fun x n => x.also (Machine.expireCadence n))
    (fun _ n h => h.also fun _ => .expireCadence n) (List.finRange 4) hstart
  have hports := Moment.From.foldl (fun _ p h => h.expirePort p) (List.finRange 8) hcadences
  have hengines := Moment.From.foldl (f := fun x e => x.also (Machine.expireEngine e))
    (fun _ e h => h.also fun _ => .expireEngine e) (List.finRange 4) hports
  exact hengines.also (f := fun s => (s, s.startingActs)) fun u => ⟨.refl u, startingActs_acts u⟩

/-- The close of a moment whose expiries keep the invariants. -/
theorem Moment.From.settle {x : Moment} (h : x.From s) (fuel : Nat) : Keeps True s (settle fuel x) :=
  ⟨settle_kept fuel h.keeps.toKept, fun hq =>
    settle_serves _ _ (Moment.Served.closing ⟨h.keeps.queue hq, h.last⟩)⟩

theorem Handled.tick : Handled s (tick s) := by
  unfold Machine.tick
  split
  · exact (Keeps.refl s).handled
  · have hexpired := (expire_from (s := s.elapse)).settle Config.settleFuel
    exact (hexpired.trans .transmit).handled.chain .elapse elapse_held

/-! ## A step -/

/-- A command keeps the invariants or is a device reset, after which they hold. -/
theorem exec_sound (c : Instr) (s : State) : ∃ t, exec c s = .next t ∧
    (Handled s t ∨ (t.AllSound ∧ (s.endsInReset = true ∨ ∃ straps, c = .resetAsserted straps))) := by
  cases hc : Instr.special c with
  | false =>
    obtain ⟨t, ht, hkeeps⟩ := exec_keeps hc s
    exact ⟨t, ht, .inl hkeeps.handled⟩
  | true =>
    have hawake : ∀ (f : State → State), (Handled s (f s) ∨ ((f s).AllSound ∧ s.endsInReset = true)) →
        Handled s (awake f s) ∨ ((awake f s).AllSound ∧ (s.endsInReset = true ∨ ∃ straps, c = .resetAsserted straps)) := by
      intro f h
      unfold awake
      split
      · exact .inl (Keeps.refl s).handled
      · exact h.imp_right fun ⟨hsound, hreset⟩ => ⟨hsound, .inl hreset⟩
    cases c with
    | setTime tag time => exact ⟨_, rfl, .inl (.receive fun _ => .ownSetTime tag time)⟩
    | defineRing => exact ⟨_, rfl, .inl (.receive fun _ => .ownDefineRing _ _ _ _ _ _ _)⟩
    | rxdByte b stopBit => exact ⟨_, rfl, .inl (.rxdByte b stopBit)⟩
    | resetAsserted straps => exact ⟨_, rfl, .inr ⟨heldInReset_sound s straps, .inr ⟨straps, rfl⟩⟩⟩
    | resetReleased =>
      refine ⟨_, rfl, .inl ?_⟩
      split
      · exact .released
      · exact (Keeps.refl s).handled
    | deviceResetRequest =>
      refine ⟨_, rfl, hawake _ ?_⟩
      unfold deviceResetRequest
      split
      · next hreset => exact .inr ⟨afterReset_sound s _ _, hreset⟩
      · exact .inl (Keeps.refl s).handled
    | txdFrameEnd =>
      refine ⟨_, rfl, hawake _ ?_⟩
      cases hreset : s.endsInReset with
      | false => exact .inl (Keeps.txdFrameEnd hreset).handled
      | true =>
        unfold txdFrameEnd
        split
        · exact .inl (Keeps.refl s).handled
        · rw [hreset]
          exact .inr ⟨afterReset_sound s _ _, rfl⟩
    | _ => exact nomatch hc

/-- A step keeps the invariants or is a device reset, after which they hold. -/
theorem step_sound {t : State} (h : step s = .next t) : Handled s t ∨
    (t.AllSound ∧ (s.endsInReset = true ∨ ∃ straps rest, s.pending = .resetAsserted straps :: rest)) := by
  unfold step at h
  split at h
  · obtain rfl := Host.Outcome.next.inj h
    exact .inl .tick
  · next c rest hpending =>
    obtain ⟨u, hu, hsound⟩ := exec_sound c { s with pending := rest }
    obtain rfl : u = t := Host.Outcome.next.inj (hu.symm.trans h)
    refine hsound.imp (fun hu => hu.afterKeeps (.of_eq rfl rfl rfl rfl rfl rfl rfl rfl rfl rfl)) fun ⟨hall, hreset⟩ =>
      ⟨hall, hreset.imp id fun ⟨straps, hc⟩ => ⟨straps, rest, hc ▸ hpending⟩⟩

end

/-! ## The obligations -/

/-- Settles O5. -/
theorem resetStateIsSound : Obligations.ResetStateIsSound := by
  have hreset : State.reset.afterReset .pin State.reset.link.linkRate = State.reset := by
    have hports : State.reset.ports.map (fun p => Port.reset p.ocLine) = State.reset.ports := Vector.map_replicate
    rw [State.afterReset, hports]
    rfl
  have hsound := afterReset_sound State.reset .pin State.reset.link.linkRate
  rwa [hreset] at hsound

/-- Settles O6, by the rules above: each block of the state with its own, each command and each microsecond by them. -/
theorem stepsKeepMemoryCanonical : Obligations.StepsKeepMemoryCanonical := fun _ _ hs h =>
  (step_sound h).elim (fun hk => hk.mem hs) fun ⟨⟨hmem, _⟩, _⟩ => hmem

/-- Settles O7: each operation keeps its port sound (`Port.Sound.release` to `Port.Sound.stop`). -/
theorem stepsKeepPortsSound : Obligations.StepsKeepPortsSound := fun _ _ hs h =>
  (step_sound h).elim (fun hk => hk.ports hs) fun ⟨⟨_, hports, _⟩, _⟩ => hports

/-- Settles O8: what is posted, delivered or acknowledged leaves a sound queue (`NoticeQueue.Sound.append` to
`NoticeQueue.Sound.acked`). -/
theorem stepsKeepNoticesSound : Obligations.StepsKeepNoticesSound := fun _ _ hs h =>
  (step_sound h).elim (fun hk => hk.notices hs) fun ⟨⟨_, _, hnotices, _⟩, _⟩ => hnotices

/-- Settles O9: only admission adds a request, only a refusal or a frame reject joins its queue, each below its bound. -/
theorem stepsKeepLinkSound : Obligations.StepsKeepLinkSound := fun _ _ hs h =>
  (step_sound h).elim (fun hk => hk.link hs) fun ⟨⟨_, _, _, hlink, _⟩, _⟩ => hlink

/-- Settles O10: a plan's steps come from the pool and return to it (`Keeps.setPlanPool`). -/
theorem stepsKeepPlansSound : Obligations.StepsKeepPlansSound := fun _ _ hs h =>
  (step_sound h).elim (fun hk => hk.plans hs) fun ⟨⟨_, _, _, _, hplans, _⟩, _⟩ => hplans

/-- Settles O11: an event that leaves an engine IDLE closes by handing out the Run Queue (`settle_serves`). -/
theorem stepsKeepTheRunQueueServed : Obligations.StepsKeepTheRunQueueServed := fun _ _ hs h =>
  (step_sound h).elim (fun hk => hk.queue hs) fun ⟨⟨_, _, _, _, _, hqueue, _⟩, _⟩ => hqueue

/-- Settles O12: a record is appended where it fits (`fits_after_opening`), a ring is made on free blocks. -/
theorem stepsKeepRingsSound : Obligations.StepsKeepRingsSound := fun _ _ hs h =>
  (step_sound h).elim (fun hk => hk.rings hs) fun ⟨⟨_, _, _, _, _, _, hrings⟩, _⟩ => hrings

/-- Settles O13: capture memory is changed by appended records alone, and those lie in their ring's blocks
(`appendRecord_inside`). -/
theorem stepsWriteOnlyInsideRings : Obligations.StepsWriteOnlyInsideRings := by
  intro s t hrings hmem hrequest hpin h a ha
  rcases step_sound h with hk | ⟨-, hreset | ⟨straps, rest, hpending⟩⟩
  · exact hk.inside hrings hmem a ha
  · rw [hrequest] at hreset
    exact nomatch hreset
  · exact absurd hpending (hpin straps rest)

end Sys2Proof.Machine
end

section
/-! PROOFS. Reset and the time base (R46, R47, R49, R50), and the readings of a request's fields that its owner makes
first: a ring, plan or port number (R2, R30), a flag, a count. -/

namespace Sys2Proof.Machine

-- One proof after the other, as in the tests: many at once would each hold a thread.
set_option Elab.async false

/-! ## Steps and reset -/

/-- Settles O1. -/
theorem stepRunsTheFrontCommand : Obligations.StepRunsTheFrontCommand := fun _ _ _ => rfl

/-- Settles O4: the reset state is a literal, whose units are replicas of one. -/
theorem resetLeavesEveryBlockAsItsRuleSays : Obligations.ResetLeavesEveryBlockAsItsRuleSays := by
  have hring : ∀ k, State.reset.ring k = none := fun k => by simp [State.reset, State.ring]
  refine ⟨rfl, rfl, rfl, fun n => ?_, fun n => ?_, fun p => ?_, fun e => ?_, hring, fun b _ => ?_, fun p => ?_,
    rfl, rfl, rfl, rfl, rfl, rfl, rfl, rfl, rfl, rfl, rfl, rfl, rfl, rfl, rfl, rfl⟩
  · simp [State.reset, State.input, TrigInput.reset]
  · simp [State.reset, State.cadence, Cadence.reset]
  · simp [State.reset, State.plan, Plan.reset]
  · simp [State.reset, State.engine, Engine.reset]
  · simp [State.blockHeld, hring]
  · simp [State.reset, State.port, Port.reset, Profile.reset]

/-- Settles O18: the reset of the pin is the same from every state, but for the PnOC levels, the straps and the waiting
commands. -/
theorem pinResetStartsAfresh : Obligations.PinResetStartsAfresh := by
  refine ⟨fun s straps => ⟨_, rfl, rfl, rfl, rfl, rfl, fun p => ⟨rfl, rfl⟩, rfl⟩, fun s straps => rfl, fun s h => ?_,
    fun s h => ?_⟩
  · exact congrArg Host.Outcome.next (if_pos h)
  · exact congrArg Host.Outcome.next (if_neg (by simp [h]))

/-! ## Numbers and flags -/

theorem number?_of_eq {n : Nat} {b : Byte} {k : Fin n} (h : b.toNat = k) : number? n b = some k := by
  simp [number?, h]

theorem number?_of_le {n : Nat} {b : Byte} (h : n ≤ b.toNat) : number? n b = none := by
  simpa [number?] using h

theorem number?_eq_none_iff {n : Nat} {b : Byte} : number? n b = none ↔ n ≤ b.toNat := by
  simp [number?]

theorem number?_eq_some_iff {n : Nat} {b : Byte} {k : Fin n} : number? n b = some k ↔ b.toNat = k := by
  unfold number?
  split
  · simp [Fin.ext_iff]
  · next h => simpa using fun hk : b.toNat = k => h (by omega)

theorem flag?_of_le {b : Byte} (h : b.toNat ≤ 1) : flag? b = some (b != 0x00#8) := by
  obtain rfl | rfl := eq_zero_or_one_of_toNat_le_one h <;> rfl

theorem flag?_of_gt {b : Byte} (h : 1 < b.toNat) : flag? b = none := by
  rw [flag?_eq_ite, if_neg (by omega)]

/-- A byte is a value of a nibble's size or of any other by its number. -/
theorem byte_eq_iff {b c : Byte} : b = c ↔ b.toNat = c.toNat := BitVec.toNat_inj.symm

section
variable {s : State} {tag kind : Byte}

theorem State.withRing_of_le {ring : Byte} {f : Fin 4 → Ring → State} (h : 4 ≤ ring.toNat) :
    s.withRing tag kind ring f = s.replyNot tag kind .badValue := by
  simp only [State.withRing, number?_of_le h]

theorem State.withRing_of_none {ring : Byte} {f : Fin 4 → Ring → State} {k : Fin 4} (hk : ring.toNat = k)
    (h : s.ring k = none) : s.withRing tag kind ring f = s.replyNot tag kind .badState := by
  simp only [State.withRing, number?_of_eq hk, h]

theorem State.withRing_of_some {ring : Byte} {f : Fin 4 → Ring → State} {k : Fin 4} {r : Ring} (hk : ring.toNat = k)
    (h : s.ring k = some r) : s.withRing tag kind ring f = f k r := by
  simp only [State.withRing, number?_of_eq hk, h]

theorem State.withPlan_of_le {plan : Byte} {f : Fin 32 → Plan → State} (h : 32 ≤ plan.toNat) :
    s.withPlan tag kind plan f = s.replyNot tag kind .badValue := by
  simp only [State.withPlan, number?_of_le h]

theorem State.withPlan_of_eq {plan : Byte} {f : Fin 32 → Plan → State} {p : Fin 32} (h : plan.toNat = p) :
    s.withPlan tag kind plan f = f p (s.plan p) := by
  simp only [State.withPlan, number?_of_eq h]

/-- A request that its owner answers with a status other than OK, and that changes nothing else. -/
theorem State.Accepts.receive_not {len : Nat} {owner : State → State} (st : Status) (detail : Byte) (h : s.Accepts tag)
    (hb : bodyAllowed kind len = some true)
    (ho : owner (s.admitted tag kind) = (s.admitted tag kind).replyNot tag kind st detail) :
    receive tag kind len owner s = s.answered tag kind [st.code, detail] :=
  h.receive_answered hb rfl ho

theorem ownPortPower_on (tag port : Byte) (s : State) :
    ownPortPower tag port 0x01#8 s = s.withPort tag 0x40#8 port fun p _ => s.powerOn tag p := rfl

theorem ownPortPower_off (tag port : Byte) (s : State) :
    ownPortPower tag port 0x00#8 s = s.withPort tag 0x40#8 port fun p _ => (event (s.powerDown p)).replyPower tag p := rfl

/-- The lengths an APPEND-STEPS body may have. -/
theorem bodyAllowed_appendSteps {n : Nat} (h1 : 1 ≤ n) (h16 : n ≤ 16) : bodyAllowed 0x21#8 (1 + 8 * n) = some true := by
  simp only [bodyAllowed]
  simp
  omega

end

/-! ## SET-TIME and READ-TIME -/

section
variable {s : State} {tag : Byte}

theorem exec_setTime (ha : s.Accepts tag) (time : Time) :
    exec (.setTime tag time) s =
      .next ({ s with timeBase := time }.answered tag 0x30#8 (0x00#8 :: bytesBE 6 s.timeBase.toNat)) :=
  congrArg Host.Outcome.next (ha.receive_answered rfl rfl rfl)

theorem exec_readTime (ha : s.Accepts tag) :
    exec (.readTime tag) s = .next (s.answered tag 0x31#8 (0x00#8 :: bytesBE 6 s.timeBase.toNat)) :=
  congrArg Host.Outcome.next (ha.receive_answered rfl rfl rfl)

/-- A microsecond counts the time base on, whatever expires in it. -/
theorem tick_timeBase (h : s.inReset = false) : (tick s).timeBase = s.timeBase + 1 := by
  have hexpired := (expire_from (s := s.elapse)).settle Config.settleFuel
  unfold tick
  rw [if_neg (by simp [h])]
  exact (hexpired.trans .transmit).time

theorem step_of_idle (h : s.pending = []) : step s = .next (tick s) := by
  simp only [step, h]

/-- Settles O36. -/
theorem timeBaseIsSetAndRead : Obligations.TimeBaseIsSetAndRead := by
  refine ⟨fun s tag time ha => ⟨exec_setTime ha time, fun t u ht hpending hu => ?_⟩, fun s tag ha => exec_readTime ha⟩
  have ⟨⟨hreset, _⟩, _⟩ := ha
  rw [exec_setTime ha] at ht
  obtain rfl := Host.Outcome.next.inj ht
  rw [step_of_idle hpending] at hu
  obtain rfl := Host.Outcome.next.inj hu
  exact tick_timeBase hreset

end

/-! ## Numbers out of range -/

/-- Settles O23: each owner reads the number first. -/
theorem numbersOutOfRangeAreBadValues : Obligations.NumbersOutOfRangeAreBadValues := by
  intro s tag n a b c d e f g h i half word value steps k request kind ha
  refine ⟨fun hn hmem => ?_, fun hk hnone ha1 hmem => ?_, fun hn h1 h16 hmem => ?_, fun hn hmem => ?_⟩
  · have hnum : number? 4 n = none := number?_of_le hn
    have hring : ∀ u : State, ∀ tag kind f, u.withRing tag kind n f = u.replyNot tag kind .badValue := fun _ _ _ _ =>
      State.withRing_of_le hn
    simp only [List.mem_cons, Prod.mk.injEq, List.not_mem_nil, or_false] at hmem
    rcases hmem with ⟨rfl, rfl⟩ | ⟨rfl, rfl⟩ | ⟨rfl, rfl⟩ | ⟨rfl, rfl⟩ | ⟨rfl, rfl⟩ | ⟨rfl, rfl⟩ | ⟨rfl, rfl⟩
    · refine congrArg Host.Outcome.next (ha.receive_not .badValue 0x00#8 rfl ?_)
      simp only [ownDefineRing, ringFields?, hnum, Option.bind_eq_bind, Option.bind_none]
    · exact congrArg Host.Outcome.next (ha.receive_not .badValue 0x00#8 rfl (hring _ _ _ _))
    · exact congrArg Host.Outcome.next (ha.receive_not .badValue 0x00#8 rfl (hring _ _ _ _))
    · exact congrArg Host.Outcome.next (ha.receive_not .badValue 0x00#8 rfl (hring _ _ _ _))
    · refine congrArg Host.Outcome.next (ha.receive_not .badValue 0x00#8 rfl ?_)
      simp only [ownQueryRing, hnum]
    · exact congrArg Host.Outcome.next (ha.receive_not .badValue 0x00#8 rfl (hring _ _ _ _))
    · refine congrArg Host.Outcome.next (ha.receive_not .badValue 0x00#8 rfl ?_)
      unfold ownReadSegment
      split
      · rfl
      · exact hring _ _ _ _
  · have hring : ∀ kind' kind f, (s.admitted tag kind').withRing tag kind n f
        = (s.admitted tag kind').replyNot tag kind .badState := fun _ _ _ => State.withRing_of_none hk hnone
    simp only [List.mem_cons, Prod.mk.injEq, List.not_mem_nil, or_false] at hmem
    rcases hmem with ⟨rfl, rfl⟩ | ⟨rfl, rfl⟩ | ⟨rfl, rfl⟩ | ⟨rfl, rfl⟩ | ⟨rfl, rfl⟩
    · exact congrArg Host.Outcome.next (ha.receive_not .badState 0x00#8 rfl (hring _ _ _))
    · exact congrArg Host.Outcome.next (ha.receive_not .badState 0x00#8 rfl (hring _ _ _))
    · exact congrArg Host.Outcome.next (ha.receive_not .badState 0x00#8 rfl (hring _ _ _))
    · exact congrArg Host.Outcome.next (ha.receive_not .badState 0x00#8 rfl (hring _ _ _))
    · refine congrArg Host.Outcome.next (ha.receive_not .badState 0x00#8 rfl ?_)
      simp only [ownReadSegment, flag?_of_le ha1]
      exact hring _ _ _
  · have hplan : ∀ u : State, ∀ tag kind f, u.withPlan tag kind n f = u.replyNot tag kind .badValue := fun _ _ _ _ =>
      State.withPlan_of_le hn
    simp only [List.mem_cons, Prod.mk.injEq, List.not_mem_nil, or_false] at hmem
    rcases hmem with ⟨rfl, rfl⟩ | ⟨rfl, rfl⟩ | ⟨rfl, rfl⟩ | ⟨rfl, rfl⟩ | ⟨rfl, rfl⟩ | ⟨rfl, rfl⟩ | ⟨rfl, rfl⟩
      | ⟨rfl, rfl⟩ | ⟨rfl, rfl⟩
    · exact congrArg Host.Outcome.next (ha.receive_not .badValue 0x00#8 rfl (hplan _ _ _ _))
    · exact congrArg Host.Outcome.next (ha.receive_not .badValue 0x00#8 (bodyAllowed_appendSteps h1 h16) (hplan _ _ _ _))
    all_goals exact congrArg Host.Outcome.next (ha.receive_not .badValue 0x00#8 rfl (hplan _ _ _ _))
  · have hport : ∀ u : State, ∀ tag kind f, u.withPort tag kind n f = u.replyNot tag kind .badValue := fun _ _ _ _ =>
      State.withPort_of_le hn
    simp only [List.mem_cons, Prod.mk.injEq, List.not_mem_nil, or_false] at hmem
    rcases hmem with ⟨rfl, rfl⟩ | ⟨rfl, rfl⟩ | ⟨rfl, rfl⟩ | ⟨rfl, rfl⟩ | ⟨rfl, rfl⟩ | ⟨rfl, rfl⟩ | ⟨rfl, rfl⟩
    · exact congrArg Host.Outcome.next (ha.receive_not .badValue 0x00#8 rfl ((ownPortPower_on ..).trans (hport _ _ _ _)))
    · exact congrArg Host.Outcome.next (ha.receive_not .badValue 0x00#8 rfl ((ownPortPower_off ..).trans (hport _ _ _ _)))
    · exact congrArg Host.Outcome.next (ha.receive_not .badValue 0x00#8 rfl (hport _ _ _ _))
    · refine congrArg Host.Outcome.next (ha.receive_not .badValue 0x00#8 rfl ?_)
      simp only [ownProbeAccess, number?_of_le hn]
    · exact congrArg Host.Outcome.next (ha.receive_not .badValue 0x00#8 rfl (hport _ _ _ _))
    · exact congrArg Host.Outcome.next (ha.receive_not .badValue 0x00#8 rfl (hport _ _ _ _))
    · refine congrArg Host.Outcome.next (ha.receive_not .badValue 0x00#8 rfl ?_)
      unfold ownReadProfile
      split
      · rfl
      · exact hport _ _ _ _

end Sys2Proof.Machine
end

section
/-! PROOFS. The Ring Manager's requests that no event follows: first fit and the block pool, DEFINE-RING and DELETE-RING,
QUERY-RING and LIST-SEGMENTS (R3 to R5, R22, R23), and the segment that a sequence number finds (R20, R153). -/

namespace Sys2Proof.Machine

-- One proof after the other, as in the tests: many at once would each hold a thread.
set_option Elab.async false

/-! ## First fit -/

section
variable {s : State}

/-- A block is held where a ring's range covers it (R1). -/
theorem blockHeld_iff {b : Nat} :
    s.blockHeld b = true ↔ ∃ k : Fin 4, ∃ r ∈ s.ring k, r.base ≤ b ∧ b < r.base + r.blockCount := by
  simp [State.blockHeld, Option.any_eq_true]

/-- A range of blocks overlaps no ring's range where none of its blocks is held: rings hold at least one block each. -/
theorem rangeFree_iff (hs : s.RingsSound) {b n : Nat} (hn : 0 < n) :
    s.rangeFree b n = true ↔ ∀ x, b ≤ x → x < b + n → s.blockHeld x = false := by
  simp only [State.rangeFree, List.all_eq_true, List.mem_finRange, true_implies, Bool.eq_false_iff, ne_eq, blockHeld_iff]
  constructor
  · rintro hfree x hbx hxn ⟨k, r, hr, hlo, hhi⟩
    have hk := hfree k
    rw [Option.mem_def.mp hr] at hk
    simp only [Option.all_some, Bool.or_eq_true, decide_eq_true_eq] at hk
    omega
  · intro hheld k
    cases hr : s.ring k with
    | none => rfl
    | some r =>
      simp only [Option.all_some, Bool.or_eq_true, decide_eq_true_eq]
      by_contra hover
      have ⟨⟨hcount, _⟩, ⟨hsize, _⟩, _⟩ := hs.ring hr
      have hpos : 0 < r.blockCount := Nat.mul_pos (by omega) (by omega)
      exact hheld (max b r.base) (by omega) (by omega) ⟨k, r, hr, by omega, by omega⟩

/-- Settles O24: first fit takes the first free range of a search from block 0 on. -/
theorem firstFitIsTheLowestFreeRange : Obligations.FirstFitIsTheLowestFreeRange := by
  intro s n hs hn
  have hheld : ∀ c, ¬ s.rangeFree c n = true → ∃ x, c ≤ x ∧ x < c + n ∧ s.blockHeld x = true := fun c hc => by
    rw [rangeFree_iff hs hn] at hc
    push Not at hc
    simpa using hc
  have hsearch : ∀ {c}, c + n ≤ 1024 → n ≤ Config.blocks ∧ c < Config.blocks - n + 1 := fun h => by
    simp only [Config.blocks]
    omega
  constructor
  · intro b hb
    obtain ⟨hfit, -⟩ := firstFit_eq_some hb
    have ⟨hle, _⟩ := hsearch hfit
    rw [State.firstFit, if_pos hle, List.find?_range_eq_some] at hb
    obtain ⟨hfree, -, hfirst⟩ := hb
    exact ⟨hfit, (rangeFree_iff hs hn).mp hfree, fun c hc => hheld c (by simpa using hfirst c hc)⟩
  · intro hnone c hc
    have ⟨hle, hlt⟩ := hsearch hc
    rw [State.firstFit, if_pos hle] at hnone
    exact hheld c (List.find?_eq_none.mp hnone c (List.mem_range.mpr hlt))

end

/-! ## DEFINE-RING and DELETE-RING -/

section
variable {s : State} {tag ring count size policy autoRelease : Byte} {limit : Half} {k : Fin 4}

theorem policy?_of_le {b : Byte} (h : b.toNat ≤ 1) : policy? b = some (if b = 0x00#8 then .stall else .discard) := by
  obtain rfl | rfl := eq_zero_or_one_of_toNat_le_one h <;> rfl

theorem policy?_of_gt {b : Byte} (h : 1 < b.toNat) : policy? b = none := by
  simp [policy?, flag?_of_gt h]

theorem half_toNat_pos {x : Half} (h : x ≠ 0#16) : 1 ≤ x.toNat := by
  rw [Nat.one_le_iff_ne_zero]
  exact fun hx => h (BitVec.eq_of_toNat_eq hx)

/-- The ring that a DEFINE-RING asks for with every field in range (R3, R4). -/
theorem ringFields?_of_inRange (hk : ring.toNat = k) (hc : 2 ≤ count.toNat ∧ count.toNat ≤ 16)
    (hz : 1 ≤ size.toNat ∧ size.toNat ≤ 64) (hp : policy.toNat ≤ 1) (ha : autoRelease.toNat ≤ 1)
    (hl : policy = 0x00#8 → limit ≠ 0#16) :
    ringFields? ring count size policy limit autoRelease = some (k, newRing count.toNat size.toNat
      (if policy = 0x00#8 then .stall else .discard) (if policy = 0x00#8 then limit.toNat else 0)
      (autoRelease != 0x00#8)) := by
  have hlimit : stallLimit? (if policy = 0x00#8 then .stall else .discard) limit
      = some (if policy = 0x00#8 then limit.toNat else 0) := by
    split
    · next h => exact range?_of_mem ⟨half_toNat_pos (hl h), Nat.le_of_lt_succ limit.isLt⟩
    · rfl
  simp only [ringFields?, number?_of_eq hk, range?_of_mem hc, range?_of_mem hz, policy?_of_le hp, hlimit, flag?_of_le ha,
    Option.bind_eq_bind, Option.bind_some, Option.pure_def]

/-- A DEFINE-RING with a field out of its range asks for none; the stall limit has a range only under STALL (R3). -/
theorem ringFields?_of_outOfRange (h : 4 ≤ ring.toNat ∨ count.toNat < 2 ∨ 16 < count.toNat ∨ size.toNat < 1
    ∨ 64 < size.toNat ∨ 1 < policy.toNat ∨ 1 < autoRelease.toNat ∨ (policy = 0x00#8 ∧ limit = 0#16)) :
    ringFields? ring count size policy limit autoRelease = none := by
  by_contra hsome
  obtain ⟨x, hx⟩ := Option.ne_none_iff_exists'.mp hsome
  simp only [ringFields?, Option.bind_eq_bind, Option.bind_eq_some_iff, Option.pure_def] at hx
  obtain ⟨k, hk, c, hc, z, hz, p, hp, l, hl, a, ha, -⟩ := hx
  have hring := number?_eq_some_iff.mp hk
  obtain ⟨-, hcount⟩ := range?_eq_some hc
  obtain ⟨-, hsize⟩ := range?_eq_some hz
  have hpolicy : ¬ 1 < policy.toNat := fun hgt => by rw [policy?_of_gt hgt] at hp; exact nomatch hp
  have hauto : ¬ 1 < autoRelease.toNat := fun hgt => by rw [flag?_of_gt hgt] at ha; exact nomatch ha
  have hlimit : ¬ (policy = 0x00#8 ∧ limit = 0#16) := by
    rintro ⟨rfl, rfl⟩
    obtain rfl : Policy.stall = p := Option.some.inj hp
    exact nomatch hl
  simp only [hlimit, hpolicy, or_false, false_or] at h
  omega

theorem exec_defineRing_outOfRange (ha : s.Accepts tag)
    (h : ringFields? ring count size policy limit autoRelease = none) :
    exec (.defineRing tag ring count size policy limit autoRelease) s
      = .next (s.answered tag 0x10#8 [0x10#8, 0x00#8]) := by
  refine congrArg Host.Outcome.next (ha.receive_not .badValue 0x00#8 rfl ?_)
  simp only [ownDefineRing, h]

/-- A DEFINE-RING with its fields in range. -/
theorem exec_defineRing {mk : Nat → Ring} (ha : s.Accepts tag)
    (h : ringFields? ring count size policy limit autoRelease = some (k, mk)) :
    ((s.ring k).isSome = true →
      exec (.defineRing tag ring count size policy limit autoRelease) s
        = .next (s.answered tag 0x10#8 [0x11#8, 0x00#8]))
    ∧ (s.ring k = none → s.firstFit (mk 0).blockCount = none →
      exec (.defineRing tag ring count size policy limit autoRelease) s
        = .next (s.answered tag 0x10#8 [0x13#8, 0x00#8]))
    ∧ (∀ b, s.ring k = none → s.firstFit (mk 0).blockCount = some b →
      exec (.defineRing tag ring count size policy limit autoRelease) s
        = .next ((s.setRing k (some (mk b))).answered tag 0x10#8 (0x00#8 :: bytesBE 2 b))) := by
  have hfit : (s.admitted tag 0x10#8).firstFit (mk 0).blockCount = s.firstFit (mk 0).blockCount := rfl
  refine ⟨fun hsome => ?_, fun hnone hfull => ?_, fun b hnone hb => ?_⟩
  · refine congrArg Host.Outcome.next (ha.receive_not .badState 0x00#8 rfl ?_)
    simp only [ownDefineRing, h, State.admit_get_ring, hsome, if_true]
  · refine congrArg Host.Outcome.next (ha.receive_not .noMemory 0x00#8 rfl ?_)
    simp only [ownDefineRing, h, State.admit_get_ring, hnone, Option.isSome_none, Bool.false_eq_true, if_false, hfit, hfull]
  · refine congrArg Host.Outcome.next (ha.receive_answered rfl rfl ?_)
    simp only [ownDefineRing, h, State.admit_get_ring, hnone, Option.isSome_none, Bool.false_eq_true, if_false, hfit, hb]
    rfl

/-- R5: what keeps a ring from being deleted. -/
theorem ringInUse_iff {r : Ring} : s.ringInUse k r = true ↔
    (∃ p : Fin 32, (s.plan p).attrs.ring = k ∧ ((s.plan p).state = .armed ∨ (s.plan p).runStatus ≠ .idle))
      ∨ ∃ g ∈ r.segments, ∃ b, g.state = .reading b := by
  have hreading : (r.segments.any fun g => match g.state with | .reading _ => true | _ => false) = true
      ↔ ∃ g ∈ r.segments, ∃ b, g.state = .reading b := by
    rw [List.any_eq_true]
    refine exists_congr fun g => and_congr_right fun _ => ?_
    cases g.state <;> simp
  unfold State.ringInUse
  rw [Bool.or_eq_true]
  refine or_congr (by simp) hreading

theorem exec_deleteRing {r : Ring} (ha : s.Accepts tag) (hk : ring.toNat = k) (hr : s.ring k = some r) :
    exec (.deleteRing tag ring) s = .next (if s.ringInUse k r then s.answered tag 0x11#8 [0x12#8, 0x00#8]
      else (s.setRing k none).answered tag 0x11#8 [0x00#8]) := by
  have huse : (s.admitted tag 0x11#8).ringInUse k r = s.ringInUse k r := rfl
  split
  · next h =>
    refine congrArg Host.Outcome.next (ha.receive_not .inUse 0x00#8 rfl ?_)
    simp only [ownDeleteRing, State.withRing_of_some hk (show (s.admitted tag 0x11#8).ring k = some r from hr), huse, h, if_true]
  · next h =>
    refine congrArg Host.Outcome.next (ha.receive_answered rfl rfl ?_)
    simp only [ownDeleteRing, State.withRing_of_some hk (show (s.admitted tag 0x11#8).ring k = some r from hr), huse, h]
    rfl

end

/-- Settles O25: the fields in range or not, and then the owner's checks in order. -/
theorem ringsAreDefinedAndDeleted : Obligations.RingsAreDefinedAndDeleted := by
  refine ⟨?_, ?_, fun s tag ring count size policy autoRelease limit ha h =>
    exec_defineRing_outOfRange ha (ringFields?_of_outOfRange h)⟩
  · intro s tag ring count size policy autoRelease limit k ha hk hc2 hc16 hz1 hz64 hp hauto hl
    exact exec_defineRing ha (ringFields?_of_inRange hk ⟨hc2, hc16⟩ ⟨hz1, hz64⟩ hp hauto hl)
  · intro s tag ring k r ha hk hr
    rw [exec_deleteRing ha hk hr]
    refine ⟨fun hplans hsegments => ?_, fun huse => ?_⟩
    · rw [if_neg]
      rw [ringInUse_iff]
      rintro (⟨p, hp, hbusy⟩ | ⟨g, hg, b, hb⟩)
      · obtain ⟨harmed, hidle⟩ := hplans p hp
        exact hbusy.elim harmed fun hne => hne hidle
      · exact hsegments g hg b hb
    · rw [if_pos (ringInUse_iff.mpr huse)]

/-! ## QUERY-RING, LIST-SEGMENTS and SEAL-RING of an empty ring -/

section
variable {s : State} {tag ring start : Byte} {k : Fin 4} {r : Ring}

theorem exec_queryRing (ha : s.Accepts tag) (hk : ring.toNat = k) (hr : s.ring k = some r) :
    exec (.queryRing tag ring) s = .next (s.answered tag 0x14#8 (0x00#8 :: 0x01#8 :: r.queryFields)) := by
  refine congrArg Host.Outcome.next (ha.receive_answered rfl rfl ?_)
  simp only [ownQueryRing, number?_of_eq hk, State.admit_get_ring, hr]
  rfl

theorem exec_queryRing_undefined (ha : s.Accepts tag) (hk : ring.toNat = k) (hr : s.ring k = none) :
    exec (.queryRing tag ring) s = .next (s.answered tag 0x14#8 (List.replicate 25 0x00#8)) := by
  refine congrArg Host.Outcome.next (ha.receive_answered rfl rfl ?_)
  simp only [ownQueryRing, number?_of_eq hk, State.admit_get_ring, hr]
  rfl

theorem exec_listSegments (ha : s.Accepts tag) (hk : ring.toNat = k) (hr : s.ring k = some r) :
    exec (.listSegments tag ring start) s = .next (s.answered tag 0x15#8
      (if r.count ≤ start.toNat then [0x10#8, 0x00#8] else 0x00#8 :: r.descriptors start.toNat)) := by
  have hr' : (s.admitted tag 0x15#8).ring k = some r := hr
  refine congrArg Host.Outcome.next (ha.receive_answered rfl rfl ?_)
  simp only [ownListSegments, State.withRing_of_some hk hr']
  split <;> rfl

theorem exec_sealRing_empty (ha : s.Accepts tag) (hk : ring.toNat = k) (hr : s.ring k = some r)
    (hnone : r.filling = none) :
    exec (.sealRing tag ring) s = .next (s.answered tag 0x12#8 (List.replicate 8 0x00#8)) := by
  have hr' : (s.admitted tag 0x12#8).ring k = some r := hr
  refine congrArg Host.Outcome.next (ha.receive_answered rfl rfl ?_)
  simp only [ownSealRing, State.withRing_of_some hk hr', hnone]
  rfl

/-- The descriptors of a LIST-SEGMENTS reply, as a walk along the segments (R23). -/
theorem Ring.descriptors_eq (hlen : r.segments.length = r.count) (i : Nat) (hi : i < r.count) :
    r.descriptors i = (((r.segments.drop i).take 8).zipIdx i).flatMap fun g => Segment.bytes g.2 g.1 := by
  have hwalk : (List.range (min 8 (r.count - i))).map (fun j => (r.seg (i + j), i + j))
      = ((r.segments.drop i).take 8).zipIdx i := by
    refine List.ext_getElem (by simp [hlen]) fun j h1 h2 => ?_
    simp only [List.length_map, List.length_range] at h1
    simp only [List.getElem_map, List.getElem_range, List.getElem_zipIdx, List.getElem_take, List.getElem_drop, Ring.seg,
      List.getD_eq_getElem?_getD, List.getElem?_eq_getElem (show i + j < r.segments.length by omega), Option.getD_some]
  rw [← hwalk, List.flatMap_map]
  rfl

theorem Ring.countState_eq (f : SegState → Bool) : r.countState f = r.segments.countP fun g => f g.state := by
  rw [List.countP_eq_length_filter]
  rfl

/-- Settles O27: both requests read the ring and place a reply. -/
theorem ringQueriesReportTheRing : Obligations.RingQueriesReportTheRing := by
  refine ⟨fun s tag ring start k r ha hk hr => ⟨?_, fun hle => ?_, fun hlt hlen => ?_⟩,
    fun s tag ring k r ha hk hr hnone => exec_sealRing_empty ha hk hr hnone,
    fun s tag ring k ha hk hr => exec_queryRing_undefined ha hk hr, fun i g => ?_⟩
  · rw [exec_queryRing ha hk hr]
    have hreading : (fun g : Segment => g.state == .reading true || g.state == .reading false)
        = fun g => match g.state with | .reading _ => true | _ => false := by
      funext g
      cases g.state with
      | reading b => cases b <;> rfl
      | _ => rfl
    rw [hreading]
    simp only [Ring.queryFields, Ring.countState_eq]
    rfl
  · rw [exec_listSegments ha hk hr, if_pos hle]
  · rw [exec_listSegments ha hk hr, if_neg (by omega), Ring.descriptors_eq hlen _ hlt]
  · have hstate : g.state.code = match g.state with
        | .free => 0x00#8 | .filling => 0x01#8 | .sealed => 0x02#8 | .reading _ => 0x03#8 | .read => 0x04#8 := by
      cases g.state <;> rfl
    have hcause : sealCode g.sealCause = match g.sealCause with
        | none => 0x00#8 | some .full => 0x01#8 | some .host => 0x02#8 | some .runEnd => 0x03#8 := by
      cases g.sealCause with
      | none => rfl
      | some c => cases c <;> rfl
    rw [Segment.bytes, hstate, hcause]
    rfl

end

end Sys2Proof.Machine
end

section
/-! PROOFS. The Plan Table's requests that no event follows: OPEN-PLAN with its attributes, CLOSE-PLAN, ARM-PLAN and
DELETE-PLAN, APPEND-STEPS with its encoded steps, and QUERY-PLAN (R29 to R34, R36, R44). -/

namespace Sys2Proof.Machine

-- One proof after the other, as in the tests: many at once would each hold a thread.
set_option Elab.async false

/-! ## Attributes -/

theorem overlap?_eq_some_iff {b : Byte} {o : Overlap} :
    overlap? b = some o ↔ b = match o with | .miss => 0x00#8 | .hold => 0x01#8 := by
  by_cases h : b.toNat ≤ 1
  · obtain rfl | rfl := eq_zero_or_one_of_toNat_le_one h <;> cases o <;> decide
  · have hne : b ≠ 0x00#8 ∧ b ≠ 0x01#8 := ⟨fun hb => h (by simp [hb]), fun hb => h (by simp [hb])⟩
    obtain ⟨h0, h1⟩ := hne
    simp only [overlap?, flag?_of_gt (by omega : 1 < b.toNat), Option.map_none, reduceCtorEq, false_iff]
    cases o
    · exact h0
    · exact h1

theorem flag?_eq_some_iff {b : Byte} {f : Bool} : flag? b = some f ↔ b = if f then 0x01#8 else 0x00#8 := by
  by_cases h : b.toNat ≤ 1
  · obtain rfl | rfl := eq_zero_or_one_of_toNat_le_one h <;> cases f <;> decide
  · have hne : b ≠ 0x00#8 ∧ b ≠ 0x01#8 := ⟨fun hb => h (by simp [hb]), fun hb => h (by simp [hb])⟩
    obtain ⟨h0, h1⟩ := hne
    simp only [flag?_of_gt (by omega : 1 < b.toNat), reduceCtorEq, false_iff]
    cases f
    · exact h0
    · exact h1

/-- A binding by its two bytes (R207): the type says which number the second byte is, if any. -/
theorem binding?_eq_some_iff {type num : Byte} {b : Binding} : binding? type num = some b ↔
    match b with
    | .unbound => type = 0x00#8
    | .ext n => type = 0x01#8 ∧ num.toNat = n
    | .cadence n => type = 0x02#8 ∧ num.toNat = n
    | .attn n => type = 0x03#8 ∧ num.toNat = n
    | .done q => type = 0x04#8 ∧ num.toNat = q := by
  have htype : ∀ c : Byte, type = c ↔ type.toNat = c.toNat := fun c => byte_eq_iff
  simp only [htype]
  unfold binding?
  split <;> rename_i h <;> cases b <;> simp_all [number?_eq_some_iff]

theorem attributes?_eq_some_iff {priority ring bindType bindNumber overlap sealOnEnd : Byte} {attrs : Attributes} :
    attributes? priority ring bindType bindNumber overlap sealOnEnd = some attrs ↔
      number? 4 priority = some attrs.priority ∧ number? 4 ring = some attrs.ring
        ∧ binding? bindType bindNumber = some attrs.binding ∧ overlap? overlap = some attrs.overlap
        ∧ flag? sealOnEnd = some attrs.sealOnEnd := by
  obtain ⟨p, r, b, o, f⟩ := attrs
  simp only [attributes?, Option.bind_eq_bind, Option.bind_eq_some_iff, Option.pure_def, Option.some.injEq,
    Attributes.mk.injEq]
  constructor
  · rintro ⟨_, hp, _, hr, _, hb, _, ho, _, hf, rfl, rfl, rfl, rfl, rfl⟩
    exact ⟨hp, hr, hb, ho, hf⟩
  · rintro ⟨hp, hr, hb, ho, hf⟩
    exact ⟨_, hp, _, hr, _, hb, _, ho, _, hf, rfl, rfl, rfl, rfl, rfl⟩

theorem attributes?_of_outOfRange {priority ring bindType bindNumber overlap sealOnEnd : Byte}
    (h : 4 ≤ priority.toNat ∨ 4 ≤ ring.toNat ∨ 1 < overlap.toNat ∨ 1 < sealOnEnd.toNat ∨ 4 < bindType.toNat
      ∨ ((bindType = 0x01#8 ∨ bindType = 0x02#8) ∧ 4 ≤ bindNumber.toNat)
      ∨ (bindType = 0x03#8 ∧ 8 ≤ bindNumber.toNat) ∨ (bindType = 0x04#8 ∧ 32 ≤ bindNumber.toNat)) :
    attributes? priority ring bindType bindNumber overlap sealOnEnd = none := by
  by_contra hsome
  obtain ⟨attrs, hattrs⟩ := Option.ne_none_iff_exists'.mp hsome
  obtain ⟨hp, hr, hb, ho, hf⟩ := attributes?_eq_some_iff.mp hattrs
  have hpriority := number?_eq_some_iff.mp hp
  have hring := number?_eq_some_iff.mp hr
  have hoverlap : overlap.toNat ≤ 1 := by
    rw [overlap?_eq_some_iff.mp ho]
    cases attrs.overlap <;> decide
  have hseal : sealOnEnd.toNat ≤ 1 := by
    rw [flag?_eq_some_iff.mp hf]
    cases attrs.sealOnEnd <;> decide
  have hbinding := binding?_eq_some_iff.mp hb
  have := attrs.priority.isLt
  have := attrs.ring.isLt
  rcases h with h | h | h | h | h
  · omega
  · omega
  · omega
  · omega
  · cases hbind : attrs.binding with
    | unbound =>
      rw [hbind] at hbinding
      subst hbinding
      simp at h
    | ext n | cadence n | attn n | done n =>
      rw [hbind] at hbinding
      obtain ⟨rfl, hnum⟩ := hbinding
      simp at h
      omega

/-! ## OPEN-PLAN, CLOSE-PLAN, ARM-PLAN and DELETE-PLAN -/

section
variable {s : State} {tag plan : Byte} {p : Fin 32}

theorem exec_openPlan {priority ring bindType bindNumber overlap sealOnEnd : Byte} {attrs : Attributes}
    (ha : s.Accepts tag) (hp : plan.toNat = p)
    (h : attributes? priority ring bindType bindNumber overlap sealOnEnd = some attrs) :
    exec (.openPlan tag plan priority ring bindType bindNumber overlap sealOnEnd) s =
      .next (if ((s.plan p).state = .empty ∨ (s.plan p).state = .ready) ∧ (s.plan p).runStatus = .idle then
        ({ s with poolFree := s.poolFree + (s.plan p).steps.length }.setPlan p
          { s.plan p with state := .opened, attrs := attrs, steps := [] }).answered tag 0x20#8 [0x00#8]
        else s.answered tag 0x20#8 [0x11#8, 0x00#8]) := by
  split
  · next hc =>
    refine congrArg Host.Outcome.next (ha.receive_answered rfl rfl ?_)
    simp only [ownOpenPlan, State.withPlan_of_eq hp, h, State.admit_get_plan, hc]
    rfl
  · next hc =>
    refine congrArg Host.Outcome.next (ha.receive_not .badState 0x00#8 rfl ?_)
    simp only [ownOpenPlan, State.withPlan_of_eq hp, h, State.admit_get_plan, hc, if_false]

theorem exec_openPlan_outOfRange {priority ring bindType bindNumber overlap sealOnEnd : Byte} (ha : s.Accepts tag)
    (h : attributes? priority ring bindType bindNumber overlap sealOnEnd = none) :
    exec (.openPlan tag plan priority ring bindType bindNumber overlap sealOnEnd) s
      = .next (s.answered tag 0x20#8 [0x10#8, 0x00#8]) := by
  refine congrArg Host.Outcome.next (ha.receive_not .badValue 0x00#8 rfl ?_)
  simp only [ownOpenPlan, h]
  unfold State.withPlan
  split <;> rfl

theorem exec_closePlan (ha : s.Accepts tag) (hp : plan.toNat = p) :
    exec (.closePlan tag plan) s = .next (
      if (s.plan p).state ≠ .opened then s.answered tag 0x22#8 [0x11#8, 0x00#8]
      else if (s.plan p).steps.length = 0 then s.answered tag 0x22#8 [0x10#8, 0x00#8]
      else (s.setPlan p { s.plan p with state := .ready, runNumber := 0#16, held := false, missCount := 0 }).answered
        tag 0x22#8 [0x00#8, byte (s.plan p).steps.length]) := by
  split
  · next hc =>
    refine congrArg Host.Outcome.next (ha.receive_not .badState 0x00#8 rfl ?_)
    simp only [ownClosePlan, State.withPlan_of_eq hp, State.admit_get_plan, hc, ne_eq, not_false_eq_true, if_true]
  split
  · next hc hnil =>
    refine congrArg Host.Outcome.next (ha.receive_not .badValue 0x00#8 rfl ?_)
    simp only [ownClosePlan, State.withPlan_of_eq hp, State.admit_get_plan, hc, hnil, if_true, if_false]
  · next hc hnil =>
    refine congrArg Host.Outcome.next (ha.receive_answered rfl rfl ?_)
    simp only [ownClosePlan, State.withPlan_of_eq hp, State.admit_get_plan, hc, hnil, if_false]
    rfl

theorem exec_armPlan (ha : s.Accepts tag) (hp : plan.toNat = p) :
    exec (.armPlan tag plan) s = .next (
      if (s.plan p).state ≠ .ready ∨ s.clear.isSome then s.answered tag 0x23#8 [0x11#8, 0x00#8]
      else if (s.ring (s.plan p).attrs.ring).isNone then s.answered tag 0x23#8 [0x15#8, 0x00#8]
      else (s.setPlan p { s.plan p with state := .armed }).answered tag 0x23#8 [0x00#8]) := by
  split
  · next hc =>
    refine congrArg Host.Outcome.next (ha.receive_not .badState 0x00#8 rfl ?_)
    simp only [ownArmPlan, State.withPlan_of_eq hp, State.admit_get_plan, State.admit_clear, hc, if_true]
  split
  · next hc hnone =>
    refine congrArg Host.Outcome.next (ha.receive_not .noRing 0x00#8 rfl ?_)
    simp only [ownArmPlan, State.withPlan_of_eq hp, State.admit_get_plan, State.admit_clear, State.admit_get_ring, hc,
      hnone, if_true, if_false]
  · next hc hnone =>
    refine congrArg Host.Outcome.next (ha.receive_answered rfl rfl ?_)
    simp only [ownArmPlan, State.withPlan_of_eq hp, State.admit_get_plan, State.admit_clear, State.admit_get_ring, hc,
      hnone, if_false]
    rfl

theorem exec_deletePlan (ha : s.Accepts tag) (hp : plan.toNat = p) :
    exec (.deletePlan tag plan) s = .next (
      if ((s.plan p).state = .opened ∨ (s.plan p).state = .ready) ∧ (s.plan p).runStatus = .idle then
        ({ s with poolFree := s.poolFree + (s.plan p).steps.length }.setPlan p { s.plan p with
          state := .empty, attrs := .zero, steps := [], runNumber := 0#16, missCount := 0 }).answered tag 0x25#8
            (0x00#8 :: bytesBE 2 (s.poolFree + (s.plan p).steps.length))
      else s.answered tag 0x25#8 [0x11#8, 0x00#8]) := by
  split
  · next hc =>
    refine congrArg Host.Outcome.next (ha.receive_answered rfl rfl ?_)
    simp only [ownDeletePlan, State.withPlan_of_eq hp, State.admit_get_plan, hc]
    rfl
  · next hc =>
    refine congrArg Host.Outcome.next (ha.receive_not .badState 0x00#8 rfl ?_)
    simp only [ownDeletePlan, State.withPlan_of_eq hp, State.admit_get_plan, hc, if_false]

end

/-- Settles O30: each owner's checks, by the plan's state and run status. -/
theorem plansOpenCloseArmAndDelete : Obligations.PlansOpenCloseArmAndDelete := by
  refine ⟨?_, ?_, fun s tag plan priority ring bindType bindNumber overlap sealOnEnd ha h =>
    exec_openPlan_outOfRange ha (attributes?_of_outOfRange h), ?_⟩
  · intro s tag plan priority ring bindType bindNumber overlap sealOnEnd p attrs ha hp hattrs
    rw [exec_openPlan ha hp hattrs]
    refine ⟨fun hst hidle => by rw [if_pos ⟨hst, hidle⟩], fun h => ?_⟩
    rw [if_neg]
    rintro ⟨hst, hidle⟩
    rcases h with h | h | h
    · simp [h] at hst
    · simp [h] at hst
    · exact h hidle
  · intro s tag plan p ha hp
    refine ⟨fun hst hsteps => ?_, fun hst hsteps => ?_, fun hst => ?_, fun hst hclear hring => ?_,
      fun hst hclear hring => ?_, fun h => ?_, fun hst hidle => ?_, fun h => ?_⟩
    · rw [exec_closePlan ha hp, if_neg (by simp [hst]), if_neg (by simp [hsteps])]
    · rw [exec_closePlan ha hp, if_neg (by simp [hst]), if_pos (by simp [hsteps])]
    · rw [exec_closePlan ha hp, if_pos hst]
    · rw [exec_armPlan ha hp, if_neg (by simp [hst, hclear]), if_neg (by simpa using Option.isSome_iff_ne_none.mp hring)]
    · rw [exec_armPlan ha hp, if_neg (by simp [hst, hclear]), if_pos (by simp [hring])]
    · rw [exec_armPlan ha hp, if_pos h]
    · rw [exec_deletePlan ha hp, if_pos ⟨hst, hidle⟩]
    · rw [exec_deletePlan ha hp, if_neg]
      rintro ⟨hst, hidle⟩
      rcases h with h | h | h
      · simp [h] at hst
      · simp [h] at hst
      · exact h hidle
  · intro priority ring bindType bindNumber overlap sealOnEnd attrs
    rw [attributes?_eq_some_iff, number?_eq_some_iff, number?_eq_some_iff, binding?_eq_some_iff, overlap?_eq_some_iff,
      flag?_eq_some_iff] <;> rfl

/-! ## APPEND-STEPS -/

theorem busyPolicy?_eq (flags : Byte) : busyPolicy? flags =
    if flags.extractLsb' 4 2 = 3#2 then none
    else some (if flags.extractLsb' 4 2 = 0#2 then .stop else if flags.extractLsb' 4 2 = 1#2 then .retry else .accept) := by
  have hall : ∀ b : BitVec 2, (match b.toNat with
      | 0 => some BusyPolicy.stop | 1 => some .retry | 2 => some .accept | _ => none) =
        if b = 3#2 then none else some (if b = 0#2 then .stop else if b = 1#2 then .retry else .accept) := by decide
  exact hall _

/-- A port step's encoded fields in range (R29, Table 10-14). -/
theorem encodedPortStep?_of_inRange {x : EncodedStep} {fn : PortFn} {p : Fin 8} (hp : x.port.toNat = p)
    (hpolicy : x.flags.extractLsb' 4 2 ≠ 3#2) (hcount : x.count ≠ 0#16) :
    encodedPortStep? x fn = some (.port
      { fn := fn, port := p, sub := (x.flags.extractLsb' 0 4).toFin, count := x.count.toNat
        busy := if x.flags.extractLsb' 4 2 = 0#2 then .stop else if x.flags.extractLsb' 4 2 = 1#2 then .retry else .accept
        tolerate := x.flags.getLsbD 6 }) := by
  have hrange : range? 1 65535 x.count.toNat = some x.count.toNat :=
    range?_of_mem ⟨half_toNat_pos hcount, Nat.le_of_lt_succ x.count.isLt⟩
  simp only [encodedPortStep?, number?_of_eq hp, busyPolicy?_eq, if_neg hpolicy, hrange, Option.bind_eq_bind,
    Option.bind_some, Option.pure_def]

theorem encodedPortStep?_of_outOfRange {x : EncodedStep} {fn : PortFn}
    (h : 8 ≤ x.port.toNat ∨ x.flags.extractLsb' 4 2 = 3#2 ∨ x.count = 0#16) : encodedPortStep? x fn = none := by
  unfold encodedPortStep?
  rcases h with h | h | h
  · simp [number?_of_le h]
  · simp [busyPolicy?_eq, h]
  · simp [h, range?]

/-- The meaning of an encoded step by its kind. -/
theorem encodedStep?_eq (x : EncodedStep) : encodedStep? x =
    if x.kind.toNat ≤ 2 then
      encodedPortStep? x (if x.kind = 0x00#8 then .read else if x.kind = 0x01#8 then .write x.value else .control)
    else if x.kind = 0x03#8 then some .stamp
    else if x.kind = 0x04#8 then (range? 0 255 x.value.toNat).map fun c => .notify (byte c)
    else if x.kind = 0x05#8 then (range? 1 1000000 x.value.toNat).map .wait
    else none := by
  simp only [byte_eq_iff]
  unfold encodedStep?
  split <;> simp_all
  omega

theorem byte_toNat_eq_extractLsb' (v : Value) : byte v.toNat = v.extractLsb' 0 8 := by
  refine BitVec.eq_of_toNat_eq ?_
  simp [byte]

/-- The first invalid step of a list is reported by its position (R32). -/
theorem steps?_of_first_invalid {xs : List EncodedStep} {k i : Nat} {x : EncodedStep} (hx : xs[i]? = some x)
    (hbad : encodedStep? x = none) (hfirst : ∀ j < i, ∀ y, xs[j]? = some y → encodedStep? y ≠ none) :
    steps? k xs = .error (k + i) := by
  induction xs generalizing k i with
  | nil => simp at hx
  | cons z xs ih =>
    cases i with
    | zero =>
      obtain rfl : z = x := by simpa using hx
      simp [steps?, hbad]
    | succ i =>
      obtain ⟨st, hst⟩ := Option.ne_none_iff_exists'.mp (hfirst 0 (Nat.succ_pos i) z rfl)
      have hrest := ih (k := k + 1) (i := i) (by simpa using hx) fun j hj y hy =>
        hfirst (j + 1) (by omega) y (by simpa using hy)
      simp only [steps?, hst, hrest]
      rw [show k + 1 + i = k + (i + 1) by omega]
      rfl

theorem steps?_of_valid {xs : List EncodedStep} {k : Nat} {new : List PlanStep}
    (h : xs.map encodedStep? = new.map some) : steps? k xs = .ok new := by
  induction xs generalizing k new with
  | nil =>
    obtain rfl : new = [] := by simpa using h.symm
    rfl
  | cons x xs ih =>
    cases new with
    | nil => simp at h
    | cons st new =>
      obtain ⟨hst, hrest⟩ : encodedStep? x = some st ∧ xs.map encodedStep? = new.map some := by simpa using h
      simp only [steps?, hst, ih hrest]
      rfl

section
variable {s : State} {tag plan : Byte} {p : Fin 32} {steps : List EncodedStep}

theorem exec_appendSteps_notOpen (ha : s.Accepts tag) (hp : plan.toNat = p) (h1 : 1 ≤ steps.length)
    (h16 : steps.length ≤ 16) (hst : (s.plan p).state ≠ .opened) :
    exec (.appendSteps tag plan steps) s = .next (s.answered tag 0x21#8 [0x11#8, 0x00#8]) := by
  refine congrArg Host.Outcome.next (ha.receive_not .badState 0x00#8 (bodyAllowed_appendSteps h1 h16) ?_)
  simp only [ownAppendSteps, State.withPlan_of_eq hp, State.admit_get_plan, hst, ne_eq, not_false_eq_true, if_true]

theorem exec_appendSteps_invalid {i : Nat} (ha : s.Accepts tag) (hp : plan.toNat = p) (h1 : 1 ≤ steps.length)
    (h16 : steps.length ≤ 16) (hst : (s.plan p).state = .opened) (h : steps? 0 steps = .error i) :
    exec (.appendSteps tag plan steps) s = .next (s.answered tag 0x21#8 [0x10#8, byte i]) := by
  refine congrArg Host.Outcome.next (ha.receive_not .badValue (byte i) (bodyAllowed_appendSteps h1 h16) ?_)
  simp only [ownAppendSteps, State.withPlan_of_eq hp, State.admit_get_plan, hst, ne_eq, not_true_eq_false, if_false, h]

theorem exec_appendSteps_valid {new : List PlanStep} (ha : s.Accepts tag) (hp : plan.toNat = p) (h1 : 1 ≤ steps.length)
    (h16 : steps.length ≤ 16) (hst : (s.plan p).state = .opened) (h : steps? 0 steps = .ok new) :
    exec (.appendSteps tag plan steps) s = .next (
      if 128 < (s.plan p).steps.length + new.length then s.answered tag 0x21#8 [0x14#8, 0x01#8]
      else if s.poolFree < new.length then s.answered tag 0x21#8 [0x14#8, 0x02#8]
      else ({ s with poolFree := s.poolFree - new.length }.setPlan p
        { s.plan p with steps := (s.plan p).steps ++ new }).answered tag 0x21#8
          (0x00#8 :: byte ((s.plan p).steps.length + new.length) :: bytesBE 2 (s.poolFree - new.length))) := by
  have hb := bodyAllowed_appendSteps h1 h16
  split
  · next hfull =>
    refine congrArg Host.Outcome.next (ha.receive_not .noSpace 0x01#8 hb ?_)
    simp only [ownAppendSteps, State.withPlan_of_eq hp, State.admit_get_plan, hst, ne_eq, not_true_eq_false, if_false, h,
      Config.planSteps, hfull, if_true]
  split
  · next hfull hpool =>
    refine congrArg Host.Outcome.next (ha.receive_not .noSpace 0x02#8 hb ?_)
    simp only [ownAppendSteps, State.withPlan_of_eq hp, State.admit_get_plan, State.admit_poolFree, hst, ne_eq,
      not_true_eq_false, if_false, h, Config.planSteps, hfull, hpool, if_true]
  · next hfull hpool =>
    refine congrArg Host.Outcome.next (ha.receive_answered hb rfl ?_)
    simp only [ownAppendSteps, State.withPlan_of_eq hp, State.admit_get_plan, State.admit_poolFree, hst, ne_eq,
      not_true_eq_false, if_false, h, Config.planSteps, hfull, hpool]
    rfl

end

/-- Settles O31: the steps are read in order, so the list is taken whole or its first invalid step reported; then room
in the plan, then room in the pool. -/
theorem appendStepsTakesAllOrNone : Obligations.AppendStepsTakesAllOrNone := by
  refine ⟨?_, fun s tag plan steps p ha hp h1 h16 hst => exec_appendSteps_notOpen ha hp h1 h16 hst, fun x => ?_⟩
  · intro s tag plan steps p ha hp h1 h16 hst
    refine ⟨fun i x hx hbad hfirst => exec_appendSteps_invalid ha hp h1 h16 hst ?_, fun new hnew => ?_⟩
    · rw [steps?_of_first_invalid hx hbad hfirst, Nat.zero_add]
    · have hlen : new.length = steps.length := by simpa using (congrArg List.length hnew).symm
      rw [exec_appendSteps_valid ha hp h1 h16 hst (steps?_of_valid hnew), hlen]
      refine ⟨fun hfull => by rw [if_pos hfull], fun hfull hpool => ?_, fun hfull hpool => ?_⟩
      · rw [if_neg (by omega), if_pos hpool]
      · rw [if_neg (by omega), if_neg (by omega)]
  · refine ⟨fun hkind => ⟨fun h => ?_, fun p hp hpolicy hcount => ?_⟩, fun hkind => ?_, fun hkind => ?_, fun hkind => ?_,
      fun hkind => ?_⟩
    · rw [encodedStep?_eq, if_pos hkind, encodedPortStep?_of_outOfRange h]
    · rw [encodedStep?_eq, if_pos hkind, encodedPortStep?_of_inRange hp hpolicy hcount]
    · rw [encodedStep?_eq, hkind]
      rfl
    · rw [encodedStep?_eq, hkind]
      simp only [BitVec.reduceToNat, BitVec.reduceEq, Nat.reduceLeDiff, if_false, if_true, range?, Nat.zero_le, true_and]
      split
      · simp [byte_toNat_eq_extractLsb']
      · rfl
    · rw [encodedStep?_eq, hkind]
      simp only [BitVec.reduceToNat, BitVec.reduceEq, Nat.reduceLeDiff, if_false, if_true, range?]
      split <;> rfl
    · have hne : ∀ c : Byte, c.toNat ≤ 5 → x.kind ≠ c := fun c hc h => by
        rw [h] at hkind
        omega
      rw [encodedStep?_eq, if_neg (by omega), if_neg (hne _ (by decide)), if_neg (hne _ (by decide)),
        if_neg (hne _ (by decide))]

end Sys2Proof.Machine
end

section
/-! PROOFS. The orders of the Run Queue and of a wait list (R59, R128), the Trigger Unit's settings and timers (R52 to
R56), QUERY-PLAN and QUERY-PORT (R44, R115), and the words of the probe line (R121, R124, R208). -/

namespace Sys2Proof.Machine

-- One proof after the other, as in the tests: many at once would each hold a thread.
set_option Elab.async false

/-! ## Ordered lists -/

/-- What stands before a request that joins, and what behind it (R59). -/
def RunRequest.before (x q : RunRequest) : Prop :=
  q.priority < x.priority ∨ (x.priority = q.priority ∧ x.queueTime ≤ q.queueTime)

theorem RunRequest.ahead_iff {x q : RunRequest} : x.ahead q = true ↔ x.before q := by
  simp [RunRequest.ahead, RunRequest.before]

theorem RunRequest.ahead_eq (x q : RunRequest) : x.ahead q =
    decide (q.priority < x.priority ∨ (x.priority = q.priority ∧ x.queueTime ≤ q.queueTime)) := by
  rw [Bool.eq_iff_iff, RunRequest.ahead_iff, decide_eq_true_iff, RunRequest.before]

theorem RunRequest.before_trans {x y z : RunRequest} (h : x.before y) (k : y.before z) : x.before z := by
  unfold RunRequest.before at *
  rcases h with h | ⟨h, ht⟩ <;> rcases k with k | ⟨k, kt⟩
  · exact .inl (lt_trans k h)
  · exact .inl (k ▸ h)
  · exact .inl (h ▸ k)
  · exact .inr ⟨h.trans k, BitVec.le_trans ht kt⟩

/-- A request that does not stand behind the head stands before everything. -/
theorem insertRequest_eq {q : RunRequest} {qs : List RunRequest} (h : qs.Pairwise fun a b => a.before b) :
    insertRequest q qs = qs.filter (fun x => x.ahead q) ++ q :: qs.filter fun x => !x.ahead q := by
  induction qs with
  | nil => rfl
  | cons x xs ih =>
    obtain ⟨hx, hxs⟩ := List.pairwise_cons.mp h
    by_cases hq : x.ahead q = true
    · rw [insertRequest, if_pos hq, ih hxs]
      simp [hq]
    · have hrest : ∀ y ∈ xs, ¬ y.ahead q = true := fun y hy hyq =>
        hq (RunRequest.ahead_iff.mpr (RunRequest.before_trans (hx y hy) (RunRequest.ahead_iff.mp hyq)))
      rw [insertRequest, if_neg hq, List.filter_cons_of_neg (by simpa using hq),
        List.filter_cons_of_pos (by simpa using hq), List.filter_eq_nil_iff.mpr hrest,
        List.filter_eq_self.mpr (by simpa using hrest)]
      rfl

theorem joinWaiters_eq {w : Waiter} {ws : List Waiter} (h : ws.Pairwise fun a b => b.rank ≤ a.rank) :
    joinWaiters w ws = ws.filter (fun x => decide (w.rank ≤ x.rank)) ++ w :: ws.filter fun x => decide (x.rank < w.rank) := by
  induction ws with
  | nil => rfl
  | cons x xs ih =>
    obtain ⟨hx, hxs⟩ := List.pairwise_cons.mp h
    by_cases hw : w.rank ≤ x.rank
    · rw [joinWaiters, if_pos hw, ih hxs]
      simp [hw]
    · have hrest : ∀ y ∈ xs, y.rank < w.rank := fun y hy => lt_of_le_of_lt (hx y hy) (not_le.mp hw)
      rw [joinWaiters, if_neg hw, List.filter_cons_of_neg (by simpa using hw),
        List.filter_cons_of_pos (by simpa using hw), List.filter_eq_nil_iff.mpr (by simpa using hrest),
        List.filter_eq_self.mpr (by simpa using hrest)]
      rfl

/-- Settles O34: one who joins goes on as long as those met stand before him, and nobody behind the first who does not
stands before him either. -/
theorem queuesAreJoinedInOrder : Obligations.QueuesAreJoinedInOrder :=
  ⟨fun q qs h => (insertRequest_eq h).trans (by simp only [RunRequest.ahead_eq, decide_not]), fun _ _ h => joinWaiters_eq h⟩

/-! ## Trigger inputs and cadence generators -/

section
variable {s : State} {tag : Byte}

theorem edge?_of_le {b : Byte} (h : b.toNat ≤ 1) : edge? b = some (if b = 0x00#8 then .rising else .falling) := by
  obtain rfl | rfl := eq_zero_or_one_of_toNat_le_one h <;> rfl

theorem edge?_of_gt {b : Byte} (h : 1 < b.toNat) : edge? b = none := by
  simp [edge?, flag?_of_gt h]

theorem exec_setTriggerInput {input enabled edge : Byte} {holdoff : Half} {n : Fin 4} {x : TrigInput} (ha : s.Accepts tag)
    (h : triggerInput? input enabled edge holdoff = some (n, x)) :
    exec (.setTriggerInput tag input enabled edge holdoff) s =
      .next ((s.setInput n x).answered tag 0x32#8 [0x00#8]) := by
  refine congrArg Host.Outcome.next (ha.receive_answered rfl rfl ?_)
  simp only [ownSetTriggerInput, h]
  rfl

theorem exec_setTriggerInput_outOfRange {input enabled edge : Byte} {holdoff : Half} (ha : s.Accepts tag)
    (h : triggerInput? input enabled edge holdoff = none) :
    exec (.setTriggerInput tag input enabled edge holdoff) s = .next (s.answered tag 0x32#8 [0x10#8, 0x00#8]) := by
  refine congrArg Host.Outcome.next (ha.receive_not .badValue 0x00#8 rfl ?_)
  simp only [ownSetTriggerInput, h]

/-- An event of the part itself, while RESET is released. -/
theorem awake_eq {f : State → State} (h : s.inReset = false) : awake f s = f s := by
  simp [awake, h]

/-- A firing of a source that no plan is bound to arrives nowhere (R58). -/
theorem State.Unbound.arrivals {source : Source} (h : s.Unbound source) (time : Time) : s.arrivals source time = [] := by
  have hnone : ((List.finRange 32).filter fun p => (s.plan p).attrs.binding.source == some source) = [] :=
    List.filter_eq_nil_iff.mpr fun p _ => by simpa using h p
  rw [State.arrivals, hnone]
  rfl

/-- R53: the edge's polarity, the input's enable and its holdoff timer. -/
theorem TrigInput.accepts_iff {x : TrigInput} {rising : Bool} : x.accepts rising = true ↔
    x.enabled = true ∧ x.timer = none ∧ x.edge = if rising then .rising else .falling := by
  simp [TrigInput.accepts, and_assoc]

theorem exec_trgEdge_rejected {n : Fin 4} {rising : Bool} (hr : s.inReset = false)
    (h : (s.input n).accepts rising = false) : exec (.trgEdge n rising) s = .next s := by
  refine congrArg Host.Outcome.next ((awake_eq hr).trans ?_)
  simp only [trgEdge, h]
  rfl

theorem exec_trgEdge_unbound {n : Fin 4} {rising : Bool} (hr : s.inReset = false)
    (h : (s.input n).accepts rising = true) (hbound : s.Unbound (.ext n)) :
    exec (.trgEdge n rising) s = .next (s.setInput n { s.input n with
      timer := if (s.input n).holdoff = 0 then none else some (s.input n).holdoff }) := by
  have hnone : ∀ x time, (s.setInput n x).arrivals (.ext n) time = [] := fun x time =>
    State.Unbound.arrivals (s := s.setInput n x) hbound time
  refine congrArg Host.Outcome.next ((awake_eq hr).trans ?_)
  simp only [trgEdge, h, if_true, State.fireSource, hnone, event_nil]

/-- Settles O37. -/
theorem triggerInputsBySettingAndEdge : Obligations.TriggerInputsBySettingAndEdge := by
  refine ⟨fun s tag input enabled edge holdoff n => ⟨fun ha hn he hd => ?_, fun ha h => ?_, fun hr => ?_⟩,
    fun s n rising hr => ⟨fun hen htimer hedge hbound => ?_, fun h => ?_⟩⟩
  · refine exec_setTriggerInput ha ?_
    simp only [triggerInput?, number?_of_eq hn, flag?_of_le he, edge?_of_le hd, Option.bind_eq_bind, Option.bind_some,
      Option.pure_def]
  · refine exec_setTriggerInput_outOfRange ha ?_
    unfold triggerInput?
    rcases h with h | h | h
    · simp [number?_of_le h]
    · simp [flag?_of_gt h]
    · simp [edge?_of_gt h]
  · exact congrArg Host.Outcome.next (awake_eq hr)
  · exact exec_trgEdge_unbound hr (TrigInput.accepts_iff.mpr ⟨hen, htimer, hedge⟩) hbound
  · refine exec_trgEdge_rejected hr (Bool.eq_false_iff.mpr fun haccept => ?_)
    obtain ⟨hen, htimer, hedge⟩ := TrigInput.accepts_iff.mp haccept
    rcases h with h | h | h
    · simp [h] at hen
    · simp [htimer] at h
    · exact h hedge

theorem exec_setCadence_off {generator : Byte} {period : Value} {n : Fin 4} (ha : s.Accepts tag)
    (hn : generator.toNat = n) :
    exec (.setCadence tag generator 0x00#8 period) s =
      .next ((s.setCadence n { s.cadence n with enabled := false, countdown := none }).answered tag 0x33#8 [0x00#8]) := by
  refine congrArg Host.Outcome.next (ha.receive_answered rfl rfl ?_)
  simp only [ownSetCadence, number?_of_eq hn, show flag? 0x00#8 = some false from rfl, State.admit_get_cadence]
  rfl

theorem exec_setCadence_on {generator : Byte} {period : Value} {n : Fin 4} (ha : s.Accepts tag)
    (hn : generator.toNat = n) :
    exec (.setCadence tag generator 0x01#8 period) s = .next (
      if 10 ≤ period.toNat then
        (s.setCadence n ⟨true, period.toNat, some period.toNat⟩).answered tag 0x33#8 [0x00#8]
      else s.answered tag 0x33#8 [0x10#8, 0x00#8]) := by
  have hmax : period.toNat ≤ 16777215 := Nat.le_of_lt_succ period.isLt
  refine congrArg Host.Outcome.next ?_
  split
  · next hp =>
    refine ha.receive_answered rfl rfl ?_
    simp only [ownSetCadence, number?_of_eq hn, show flag? 0x01#8 = some true from rfl, range?_of_mem ⟨hp, hmax⟩]
    rfl
  · next hp =>
    refine ha.receive_not .badValue 0x00#8 rfl ?_
    simp only [ownSetCadence, number?_of_eq hn, show flag? 0x01#8 = some true from rfl,
      range?_of_notMem (fun h : 10 ≤ period.toNat ∧ _ => hp h.1)]

theorem exec_setCadence_outOfRange {generator enable : Byte} {period : Value} (ha : s.Accepts tag)
    (h : 4 ≤ generator.toNat ∨ 1 < enable.toNat) :
    exec (.setCadence tag generator enable period) s = .next (s.answered tag 0x33#8 [0x10#8, 0x00#8]) := by
  refine congrArg Host.Outcome.next (ha.receive_not .badValue 0x00#8 rfl ?_)
  rcases h with h | h
  · simp only [ownSetCadence, number?_of_le h]
  · simp only [ownSetCadence, flag?_of_gt h]
    cases number? 4 generator <;> rfl

theorem exec_cadenceExpiry_unbound {n : Fin 4} (hr : s.inReset = false) (hon : (s.cadence n).countdown.isSome = true)
    (hbound : s.Unbound (.cadence n)) :
    exec (.cadenceExpiry n) s =
      .next (s.setCadence n { s.cadence n with countdown := some (s.cadence n).period }) := by
  have hnone : ∀ x time, (s.setCadence n x).arrivals (.cadence n) time = [] := fun x time =>
    State.Unbound.arrivals (s := s.setCadence n x) hbound time
  refine congrArg Host.Outcome.next ((awake_eq hr).trans ?_)
  simp only [cadenceExpiry, State.cadenceEnd, hon, if_true, State.fireSource, hnone, event_nil]

/-- Settles O38. -/
theorem cadenceStartsStopsAndReloads : Obligations.CadenceStartsStopsAndReloads := by
  intro s tag generator enable period n
  refine ⟨fun ha hn => exec_setCadence_off ha hn, fun ha hn hp => ?_, fun ha hn hp => ?_,
    fun ha h => exec_setCadence_outOfRange ha h, fun hr hon hbound => exec_cadenceExpiry_unbound hr hon hbound⟩
  · rw [exec_setCadence_on ha hn, if_pos hp]
  · rw [exec_setCadence_on ha hn, if_neg (by omega)]

/-! ## QUERY-PLAN and QUERY-PORT -/

theorem exec_queryPlan {plan : Byte} {p : Fin 32} (ha : s.Accepts tag) (hp : plan.toNat = p) :
    exec (.queryPlan tag plan) s = .next (s.answered tag 0x26#8 (0x00#8 :: ([(s.plan p).state.code] ++ (s.plan p).attrs.bytes
      ++ [(s.plan p).runStatus.code, flagByte (s.plan p).held] ++ bytesBE 2 (s.plan p).runNumber.toNat
      ++ bytesBE 2 (s.plan p).missCount ++ [byte (s.plan p).steps.length] ++ bytesBE 2 s.poolFree
      ++ s.runningFields p))) := by
  refine congrArg Host.Outcome.next (ha.receive_answered rfl rfl ?_)
  simp only [ownQueryPlan, State.withPlan_of_eq hp]
  rfl

theorem runningFields_of_ne {p : Fin 32} (h : (s.plan p).runStatus ≠ .running) :
    s.runningFields p = [0x00#8, 0x00#8, 0x00#8] := by
  unfold State.runningFields
  split
  · next hrun _ => exact absurd hrun h
  · rfl

theorem runningFields_of_running {p : Fin 32} {e : Fin 4} {r : Run} (h : (s.plan p).runStatus = .running)
    (he : s.engineOf p = some e) (hr : (s.engine e).run = some r) :
    s.runningFields p = [0x01#8, byte e, byte r.stepIndex] := by
  simp only [State.runningFields, h, he, hr, Option.map_some, Option.getD_some]

theorem exec_queryPort {port : Byte} {p : Fin 8} (ha : s.Accepts tag) (hp : port.toNat = p) :
    exec (.queryPort tag port) s = .next (s.answered tag 0x41#8 (0x00#8 ::
      ([(s.port p).state.code, faultCode (s.port p).faultCause] ++ identityBytes (s.port p).identity
        ++ [byte (s.port p).effectiveWidth.bits, byte (s.port p).tally, flagByte (s.port p).commitPending,
            holderCode (s.port p).holder, byte (s.port p).waiters.length]))) := by
  refine congrArg Host.Outcome.next (ha.receive_answered rfl rfl ?_)
  simp only [ownQueryPort, State.withPort_of_eq hp]
  rfl

/-- R116: the effective width is 24 only for a 24-bit profile on a probe with WIDE. -/
theorem effectiveWidth_eq (q : Port) : q.effectiveWidth =
    if q.active.width = .w24 ∧ (q.identity.map fun d => d.wide) = some true then .w24 else .w16 := by
  unfold Port.effectiveWidth
  cases q.identity <;> simp

theorem identityBytes_eq (o : Option Identity) : identityBytes o = match o with
    | none => [0x00#8, 0x00#8, 0x00#8, 0x00#8, 0x00#8, 0x00#8]
    | some d => 0x01#8 :: bytesBE 2 d.model.toNat ++ [byte d.subCount, flagByte d.wide, flagByte d.atn] := by
  cases o <;> rfl

theorem holderCode_eq (o : Option Requester) : holderCode o = match o with
    | some (.engine e) => byte e | some .host => 0x04#8 | none => 0xFF#8 := by
  cases o with
  | none => rfl
  | some w => cases w <;> rfl

/-- Settles O48. -/
theorem queriesReportPlanAndPort : Obligations.QueriesReportPlanAndPort := by
  refine ⟨fun s tag plan p ha hp => ⟨fun hst => ?_, fun e r hst he hr => ?_⟩, fun s tag port p ha hp => ?_,
    rfl, rfl, rfl, rfl, rfl, rfl, fun b => ?_⟩
  · rw [exec_queryPlan ha hp, runningFields_of_ne hst]
    simp [Attributes.bytes]
  · rw [exec_queryPlan ha hp, runningFields_of_running hst he hr]
    simp [Attributes.bytes]
  · rw [exec_queryPort ha hp, effectiveWidth_eq, identityBytes_eq, holderCode_eq]
    simp only [apply_ite Width.bits, apply_ite byte]
    rfl
  · cases b <;> rfl

end

/-! ## Words of the probe line -/

/-- A running exclusive or is the parity of the count. -/
theorem foldl_xor_eq {α : Type} (f : α → Bool) (l : List α) (b : Bool) :
    l.foldl (fun odd i => odd ^^ f i) b = (b ^^ decide (l.countP f % 2 = 1)) := by
  induction l generalizing b with
  | nil => simp
  | cons x l ih =>
    rw [List.foldl_cons, ih, List.countP_cons]
    cases hx : f x with
    | false => simp
    | true =>
      rcases Nat.mod_two_eq_zero_or_one (l.countP f) with h | h
      · simp [h, Nat.add_mod]
      · simp [h, Nat.add_mod]

theorem oddOnes_iff {w : Word} : oddOnes w = true ↔ ((List.range 32).countP fun i => w.getLsbD i) % 2 = 1 := by
  simp [oddOnes, foldl_xor_eq]

/-- The covered bits of a response word are its low 31. -/
theorem oddOnes_masked {w : Word} : oddOnes (w &&& 0x7FFFFFFF#32) = true ↔
    ((List.range 31).countP fun i => w.getLsbD i) % 2 = 1 := by
  have hmask : ∀ i < 31, (0x7FFFFFFF#32).getLsbD i = true := by decide
  have hlow : (List.range 31).countP (fun i => (w &&& 0x7FFFFFFF#32).getLsbD i)
      = (List.range 31).countP fun i => w.getLsbD i :=
    List.countP_congr fun i hi => by
      simp only [BitVec.getLsbD_and, hmask i (List.mem_range.mp hi), Bool.and_true]
  rw [oddOnes_iff, List.range_succ, List.countP_append, hlow]
  simp

theorem judge_of_odd {w : Word} (h : ((List.range 31).countP fun i => w.getLsbD i) % 2 = 1) : judge w = .silent := by
  rw [judge, if_pos (oddOnes_masked.mpr h)]

/-- The status bits of a response word, most significant first (R124). -/
theorem judge_of_even {w : Word} (h : ((List.range 31).countP fun i => w.getLsbD i) % 2 = 0) :
    judge w = match w.getLsbD 30, w.getLsbD 29 with
      | false, false => .data
      | false, true => .busy
      | true, false => .reject
      | true, true => .silent := by
  have hodd : ¬ oddOnes (w &&& 0x7FFFFFFF#32) = true := by
    rw [oddOnes_masked]
    omega
  have hbits : w.extractLsb' 29 2 = BitVec.ofBool (w.getLsbD 30) ++ BitVec.ofBool (w.getLsbD 29) := by
    refine BitVec.eq_of_getLsbD_eq fun i hi => ?_
    rw [BitVec.getLsbD_append, BitVec.getLsbD_extractLsb', decide_eq_true hi, Bool.true_and]
    obtain rfl | rfl : i = 0 ∨ i = 1 := by omega
    · rw [if_pos Nat.zero_lt_one, BitVec.getLsbD_ofBool]
      rfl
    · rw [if_neg (Nat.lt_irrefl 1), BitVec.getLsbD_ofBool]
      rfl
  rw [judge, if_neg hodd, hbits]
  cases w.getLsbD 30 <;> cases w.getLsbD 29 <;> rfl

section
variable (fn : TxFn) (sub : Fin 16) (data : Value)

/-- The 30 bits of a request word that its parity covers with itself (R121). -/
def requestBits : BitVec 30 := fn.code ++ BitVec.ofNat 4 sub ++ data

/-- The bits of a request word below its start bit: the parity bit, then the covered bits. -/
theorem requestWord_getLsbD_succ {i : Nat} (hi : i < 30) :
    (requestWord fn sub data).getLsbD (i + 1) = (requestBits fn sub data).getLsbD i := by
  unfold requestWord requestBits
  simp only [BitVec.getLsbD_append]
  simp [hi, show ¬ i + 1 < 1 by omega]

theorem requestWord_getLsbD_zero :
    (requestWord fn sub data).getLsbD 0 = oddOnes ((requestBits fn sub data).zeroExtend 32) := by
  unfold requestWord
  simp only [BitVec.getLsbD_append]
  change (if oddOnes ((requestBits fn sub data).zeroExtend 32) then 1#1 else 0#1).getLsbD 0 = _
  split <;> simp_all

theorem requestWord_parity : ((List.range 31).countP fun i => (requestWord fn sub data).getLsbD i) % 2 = 0 := by
  have hbits : (List.range 32).countP (fun i => ((requestBits fn sub data).zeroExtend 32).getLsbD i)
      = (List.range 30).countP fun i => (requestBits fn sub data).getLsbD i := by
    rw [show List.range 32 = List.range 30 ++ [30, 31] from rfl, List.countP_append]
    have hlow : (List.range 30).countP (fun i => ((requestBits fn sub data).zeroExtend 32).getLsbD i)
        = (List.range 30).countP fun i => (requestBits fn sub data).getLsbD i :=
      List.countP_congr fun i hi => by
        have := List.mem_range.mp hi
        simp [show i < 32 by omega]
    rw [hlow]
    simp [BitVec.getLsbD_setWidth]
  have hodd := oddOnes_iff (w := (requestBits fn sub data).zeroExtend 32)
  rw [hbits] at hodd
  rw [List.range_succ_eq_map, List.countP_cons, List.countP_map,
    List.countP_congr (q := fun i => (requestBits fn sub data).getLsbD i) fun i hi => by
      simp [requestWord_getLsbD_succ fn sub data (List.mem_range.mp hi)], requestWord_getLsbD_zero]
  split
  · next h =>
    have := hodd.mp h
    omega
  · next h =>
    have hne := mt hodd.mpr h
    omega

theorem requestWord_data : (requestWord fn sub data).extractLsb' 1 24 = data := by
  ext i hi
  simp only [BitVec.getElem_extractLsb']
  rw [Nat.add_comm, requestWord_getLsbD_succ fn sub data (by omega), requestBits]
  rw [BitVec.getLsbD_append, if_pos hi, BitVec.getLsbD_eq_getElem]

theorem requestWord_sub : ((requestWord fn sub data).extractLsb' 25 4).toNat = sub := by
  have hbits : (requestWord fn sub data).extractLsb' 25 4 = BitVec.ofNat 4 sub := by
    ext i hi
    simp only [BitVec.getElem_extractLsb']
    rw [show 25 + i = 24 + i + 1 by omega, requestWord_getLsbD_succ fn sub data (by omega), requestBits]
    rw [BitVec.getLsbD_append, if_neg (by omega), BitVec.getLsbD_append, Nat.add_sub_cancel_left, if_pos hi,
      BitVec.getLsbD_eq_getElem]
  rw [hbits]
  simp only [BitVec.toNat_ofNat]
  omega

theorem requestWord_fn : (requestWord fn sub data).extractLsb' 29 2 = fn.code := by
  ext i hi
  simp only [BitVec.getElem_extractLsb']
  rw [show 29 + i = 28 + i + 1 by omega, requestWord_getLsbD_succ fn sub data (by omega), requestBits]
  rw [BitVec.getLsbD_append, if_neg (by omega), BitVec.getLsbD_append, if_neg (by omega),
    show 28 + i - 24 - 4 = i by omega, BitVec.getLsbD_eq_getElem]

theorem requestWord_msb : (requestWord fn sub data).msb = true := by
  unfold requestWord
  rw [BitVec.msb_eq_getLsbD_last, BitVec.getLsbD_append, if_neg (by decide), BitVec.getLsbD_append, if_neg (by decide)]
  rfl

end

/-- A response word that finds no transaction in flight changes nothing (R125). -/
theorem exec_probeResponse_of_none {s : State} {p : Fin 8} {word : Word} {early : Bool} (h : (s.port p).txn = none) :
    exec (.probeResponse p word early) s = .next s := by
  refine congrArg Host.Outcome.next ?_
  unfold awake probeResponse
  simp [State.txnEnd, h]

/-- Settles O49. -/
theorem responsesAreJudgedOrDiscarded : Obligations.ResponsesAreJudgedOrDiscarded := by
  refine ⟨fun w => ⟨judge_of_odd, judge_of_even⟩, fun s p word early h => exec_probeResponse_of_none h,
    fun fn sub data => ⟨requestWord_msb .., ?_, requestWord_sub .., requestWord_data .., requestWord_parity ..⟩,
    fun s p => ⟨fun h => ?_, fun t h => ?_⟩⟩
  · rw [requestWord_fn]
    cases fn <;> rfl
  · simp [State.probeWord, h]
  · simp [State.probeWord, h]

end Sys2Proof.Machine
end

section
/-! PROOFS. The host line: numbers as bytes (R207), a request as its frame (R189, R190, R192, Tables 10-10 and 10-12),
the receiver's rejects (R191), admission's checks in order (R192, R193), and which commands move the time base (R47). -/

namespace Sys2Proof.Machine

-- One proof after the other, as in the tests: many at once would each hold a thread.
set_option Elab.async false

/-! ## Numbers as bytes -/

theorem natBE_append (bs : List Byte) (b : Byte) : natBE (bs ++ [b]) = 256 * natBE bs + b.toNat := by
  simp [natBE]

theorem natBE_cons (b : Byte) (bs : List Byte) : natBE (b :: bs) = b.toNat * 256 ^ bs.length + natBE bs := by
  induction bs using List.reverseRecOn with
  | nil => simp [natBE]
  | append_singleton bs c ih =>
    rw [← List.cons_append, natBE_append, natBE_append, ih, List.length_append, List.length_singleton, pow_succ]
    ring

theorem natBE_lt (bs : List Byte) : natBE bs < 256 ^ bs.length := by
  induction bs with
  | nil => decide
  | cons b bs ih =>
    have hb : b.toNat + 1 ≤ 256 := b.isLt
    rw [natBE_cons, List.length_cons, pow_succ]
    calc b.toNat * 256 ^ bs.length + natBE bs < b.toNat * 256 ^ bs.length + 256 ^ bs.length := by omega
      _ = (b.toNat + 1) * 256 ^ bs.length := by ring
      _ ≤ 256 * 256 ^ bs.length := Nat.mul_le_mul_right _ hb
      _ = 256 ^ bs.length * 256 := Nat.mul_comm _ _

theorem bytesBE_mod (k n : Nat) : bytesBE k (n % 256 ^ k) = bytesBE k n := by
  induction k generalizing n with
  | zero => rfl
  | succ k ih =>
    have hhead : BitVec.ofNat 8 (n % 256 ^ (k + 1) / 256 ^ k) = BitVec.ofNat 8 (n / 256 ^ k) := by
      apply BitVec.eq_of_toNat_eq
      rw [BitVec.toNat_ofNat, BitVec.toNat_ofNat, pow_succ, Nat.mod_mul_right_div_self]
      exact Nat.mod_mod _ _
    rw [bytesBE, bytesBE, hhead, ← ih (n % 256 ^ (k + 1)), Nat.mod_mod_of_dvd _ (pow_dvd_pow 256 k.le_succ), ih]

/-- Bytes are the bytes of the number they stand for. -/
theorem bytesBE_natBE (bs : List Byte) : bytesBE bs.length (natBE bs) = bs := by
  induction bs with
  | nil => rfl
  | cons b bs ih =>
    have hlt := natBE_lt bs
    have hdiv : (b.toNat * 256 ^ bs.length + natBE bs) / 256 ^ bs.length = b.toNat := by
      rw [Nat.mul_comm, Nat.mul_add_div (by positivity), Nat.div_eq_of_lt hlt, Nat.add_zero]
    have hmod : (b.toNat * 256 ^ bs.length + natBE bs) % 256 ^ bs.length = natBE bs := by
      rw [Nat.mul_add_mod_self_right, Nat.mod_eq_of_lt hlt]
    rw [natBE_cons, List.length_cons, bytesBE, hdiv, ← bytesBE_mod, hmod, ih, BitVec.ofNat_toNat, BitVec.setWidth_eq]

/-- Only so many bytes of a number are sent. -/
theorem natBE_bytesBE (k n : Nat) : natBE (bytesBE k n) = n % 256 ^ k := by
  induction k with
  | zero => simp [bytesBE, natBE, Nat.mod_one]
  | succ k ih =>
    have hsplit : n % (256 ^ k * 256) = n % 256 ^ k + 256 ^ k * (n / 256 ^ k % 256) := Nat.mod_mul
    rw [bytesBE, natBE_cons, bytesBE_length, ih, BitVec.toNat_ofNat, pow_succ 256 k, hsplit, Nat.mul_comm (256 ^ k), Nat.add_comm]

/-- A byte of a number, by its place. -/
theorem extractLsb'_eq_ofNat {w : Nat} (x : BitVec w) (k : Nat) :
    x.extractLsb' (8 * k) 8 = BitVec.ofNat 8 (x.toNat / 256 ^ k) := by
  apply BitVec.eq_of_toNat_eq
  rw [BitVec.extractLsb'_toNat, BitVec.toNat_ofNat, Nat.shiftRight_eq_div_pow, pow_mul]
  rfl

theorem request_bytes2_eq (x : Half) : Request.bytes2 x = bytesBE 2 x.toNat :=
  congrArg₂ (fun a b => [a, b]) (extractLsb'_eq_ofNat x 1) (extractLsb'_eq_ofNat x 0)

theorem request_bytes3_eq (x : Value) : Request.bytes3 x = bytesBE 3 x.toNat := by
  simp only [Request.bytes3, bytesBE, ← extractLsb'_eq_ofNat]

theorem request_bytes4_eq (x : Word) : Request.bytes4 x = bytesBE 4 x.toNat := by
  simp only [Request.bytes4, bytesBE, ← extractLsb'_eq_ofNat]

theorem request_bytes6_eq (x : Time) : Request.bytes6 x = bytesBE 6 x.toNat := by
  simp only [Request.bytes6, bytesBE, ← extractLsb'_eq_ofNat]

/-- A field read back from its bytes. -/
theorem ofNat_natBE_bytesBE {w k : Nat} (x : BitVec w) (h : 2 ^ w = 256 ^ k) :
    BitVec.ofNat w (natBE (bytesBE k x.toNat)) = x := by
  rw [natBE_bytesBE, ← h, Nat.mod_eq_of_lt x.isLt, BitVec.ofNat_toNat, BitVec.setWidth_eq]

theorem ofNat_natBE_bytes2 (x : Half) : BitVec.ofNat 16 (natBE (Request.bytes2 x)) = x := by
  rw [request_bytes2_eq]
  exact ofNat_natBE_bytesBE x (by norm_num)

theorem ofNat_natBE_bytes3 (x : Value) : BitVec.ofNat 24 (natBE (Request.bytes3 x)) = x := by
  rw [request_bytes3_eq]
  exact ofNat_natBE_bytesBE x (by norm_num)

theorem ofNat_natBE_bytes4 (x : Word) : BitVec.ofNat 32 (natBE (Request.bytes4 x)) = x := by
  rw [request_bytes4_eq]
  exact ofNat_natBE_bytesBE x (by norm_num)

theorem ofNat_natBE_bytes6 (x : Time) : BitVec.ofNat 48 (natBE (Request.bytes6 x)) = x := by
  rw [request_bytes6_eq]
  exact ofNat_natBE_bytesBE x (by norm_num)

theorem byte_natBE_singleton (b : Byte) : byte (natBE [b]) = b := by
  simp [natBE, byte]

theorem byte_toNat {n : Nat} (h : n < 256) : (byte n).toNat = n := by
  rw [byte, BitVec.toNat_ofNat]
  exact Nat.mod_eq_of_lt h

/-! ## Encoded steps -/

@[simp] theorem EncodedStep.bytes_length (x : EncodedStep) : x.bytes.length = 8 := rfl

theorem flatMap_bytes_length (xs : List EncodedStep) : (xs.flatMap EncodedStep.bytes).length = 8 * xs.length := by
  simp [List.length_flatMap, Nat.mul_comm]

/-- An encoded step is what its eight bytes say (Table 10-14). -/
theorem encodedSteps_flatMap_bytes (xs : List EncodedStep) :
    encodedSteps xs.length (xs.flatMap EncodedStep.bytes) = xs := by
  induction xs with
  | nil => rfl
  | cons x xs ih =>
    have hhead : (⟨byte (natBE [x.kind]), byte (natBE [x.port]), byte (natBE [x.flags]),
        BitVec.ofNat 16 (natBE (Request.bytes2 x.count)), BitVec.ofNat 24 (natBE (Request.bytes3 x.value))⟩ : EncodedStep)
        = x := by
      rw [byte_natBE_singleton, byte_natBE_singleton, byte_natBE_singleton, ofNat_natBE_bytes2, ofNat_natBE_bytes3]
    exact congrArg₂ List.cons hhead ih

/-! ## A request is its frame's kind and body -/

/-- What a request's kind and body are read as is the request (Table 10-12). -/
theorem exec_request {c : Instr} {q : Request} (h : c.request = some q) (s : State) :
    exec c s = .next (receive q.tag q.kind q.body.length (ownerOf q.tag q.kind q.body) s) := by
  cases c with
  | defineRing tag ring count size policy limit autoRelease =>
    cases h
    exact congrArg (fun x => Host.Outcome.next (receive tag 0x10#8 7 (ownDefineRing tag ring count size policy x autoRelease) s))
      (ofNat_natBE_bytes2 limit).symm
  | releaseSegment tag ring seqNo =>
    cases h
    exact congrArg (fun x => Host.Outcome.next (receive tag 0x13#8 5 (ownReleaseSegment tag ring x) s))
      (ofNat_natBE_bytes4 seqNo).symm
  | appendSteps tag plan steps =>
    cases h
    have hlen : (plan :: steps.flatMap EncodedStep.bytes).length = 1 + 8 * steps.length := by
      rw [List.length_cons, flatMap_bytes_length, Nat.add_comm]
    have hcount : ((plan :: steps.flatMap EncodedStep.bytes).length - 1) / 8 = steps.length := by omega
    have howner : ownerOf tag 0x21#8 (plan :: steps.flatMap EncodedStep.bytes) = ownAppendSteps tag plan steps := by
      change ownAppendSteps tag plan
        (encodedSteps (((plan :: steps.flatMap EncodedStep.bytes).length - 1) / 8) (steps.flatMap EncodedStep.bytes)) = _
      rw [hcount, encodedSteps_flatMap_bytes]
    dsimp only
    rw [howner, hlen]
    rfl
  | setTime tag time =>
    cases h
    exact congrArg (fun x => Host.Outcome.next (receive tag 0x30#8 6 (ownSetTime tag x) s)) (ofNat_natBE_bytes6 time).symm
  | setTriggerInput tag input enabled edge holdoff =>
    cases h
    exact congrArg (fun x => Host.Outcome.next (receive tag 0x32#8 5 (ownSetTriggerInput tag input enabled edge x) s))
      (ofNat_natBE_bytes2 holdoff).symm
  | setCadence tag generator enable period =>
    cases h
    exact congrArg (fun x => Host.Outcome.next (receive tag 0x33#8 5 (ownSetCadence tag generator enable x) s))
      (ofNat_natBE_bytes3 period).symm
  | probeAccess tag port function subAddress value =>
    cases h
    exact congrArg (fun x => Host.Outcome.next (receive tag 0x42#8 6 (ownProbeAccess tag port function subAddress x) s))
      (ofNat_natBE_bytes3 value).symm
  | readSegment tag ring selector seqNo =>
    cases h
    exact congrArg (fun x => Host.Outcome.next (receive tag 0x50#8 6 (ownReadSegment tag ring selector x) s))
      (ofNat_natBE_bytes4 seqNo).symm
  | ackNotices tag number =>
    cases h
    exact congrArg (fun x => Host.Outcome.next (receive tag 0x5B#8 2 (ownAckNotices tag x) s)) (ofNat_natBE_bytes2 number).symm
  | _ => cases h <;> rfl

/-- Table 10-12 allows the body of every request but an APPEND-STEPS of no step or of more than 16. -/
theorem bodyAllowed_request {c : Instr} {q : Request} (h : c.request = some q) :
    bodyAllowed q.kind q.body.length = some (WellFormed c) := by
  cases c with
  | appendSteps tag plan steps =>
    cases h
    simp only [List.length_cons, flatMap_bytes_length, WellFormed, bodyAllowed]
    simp
    rw [decide_eq_decide.mpr (show 8 * steps.length < 129 ↔ steps.length ≤ 16 by omega)]
  | _ => cases h <;> rfl

/-! ## Table 10-12 -/

/-- Whether a kind is a request kind does not depend on the body. -/
theorem bodyAllowed_isSome (kind : Byte) (m n : Nat) : (bodyAllowed kind m).isSome = (bodyAllowed kind n).isSome := by
  unfold bodyAllowed
  split <;> rfl

/-- A kind that Table 10-12 does not have is no request kind. -/
theorem bodyAllowed_eq_none {kind : Byte} (h : ∀ x ∈ bodyLengths, x.1 ≠ kind) (len : Nat) :
    bodyAllowed kind len = none := by
  have habsent : kind ∉ bodyLengths.map fun x => x.1 := fun hmem => by
    obtain ⟨x, hx, hk⟩ := List.mem_map.mp hmem
    exact h x hx hk
  unfold bodyAllowed
  split
  case h_38 => rfl
  all_goals
    rename_i hcode
    have hkind : byte kind.toNat = kind := BitVec.eq_of_toNat_eq (byte_toNat kind.isLt)
    rw [hcode] at hkind
    subst hkind
    exact absurd (by decide) habsent

/-- The lengths of Table 10-12, for the bodies that a frame has room for (R189). -/
theorem bodyAllowed_of_mem : ∀ x ∈ bodyLengths, ∀ len < 249, bodyAllowed x.1 len = some (decide (len ∈ x.2)) := by
  intro x hx len _
  have hsteps : bodyAllowed 0x21#8 len = some (decide (len ∈ (List.range 16).map fun n => 9 + 8 * n)) := by
    refine congrArg some (Bool.eq_iff_iff.mpr ?_)
    simp only [Bool.and_eq_true, decide_eq_true_eq, beq_iff_eq, List.mem_map, List.mem_range]
    exact ⟨fun h => ⟨(len - 9) / 8, by omega, by omega⟩, by rintro ⟨n, hn, rfl⟩; omega⟩
  have hone : ∀ n : Nat, some (len == n) = some (decide (len ∈ [n])) := fun n =>
    congrArg some (decide_eq_decide.mpr List.mem_singleton.symm)
  simp only [bodyLengths, List.map_cons, List.map_nil, List.cons_append, List.nil_append, List.mem_cons, List.not_mem_nil,
    or_false] at hx
  rcases hx with rfl | rfl | rfl | rfl | rfl | rfl | rfl | rfl | rfl | rfl | rfl | rfl | rfl | rfl | rfl | rfl | rfl | rfl
    | rfl | rfl | rfl | rfl | rfl | rfl | rfl | rfl | rfl | rfl | rfl | rfl | rfl | rfl | rfl | rfl | rfl | rfl | rfl
  case inr => exact hsteps
  all_goals exact hone _

theorem bodyAllowed_of_sessionFree {kind : Byte} (h : sessionFree kind = true) : bodyAllowed kind 0 = some true := by
  simp only [sessionFree, Bool.or_eq_true, beq_iff_eq] at h
  obtain (rfl | rfl) | rfl := h <;> rfl

/-! ## Admission (R192, R193) -/

theorem placeRefusal_of_full {s : State} (h : ¬ s.refusals.length < 4) (tag kind : Byte) (st : Status) :
    s.placeRefusal tag kind st = s := if_pos (Nat.not_lt.mp h)

theorem placeRefusal_of_room {s : State} (h : s.refusals.length < 4) (tag kind : Byte) (st : Status) :
    s.placeRefusal tag kind st =
      s.refused tag (if (bodyAllowed kind 0).isSome then kind + 0x80#8 else 0xFF#8) st := if_neg (Nat.not_le.mpr h)

/-- The refusal of a request kind, dropped where 4 wait (R193, R195). -/
theorem placeRefusal_eq {kind : Byte} {len : Nat} (h : (bodyAllowed kind len).isSome = true) (tag : Byte) (st : Status)
    (s : State) : s.placeRefusal tag kind st =
      if s.refusals.length < 4 then s.refused tag (kind + 0x80#8) st else s := by
  rw [bodyAllowed_isSome kind len 0] at h
  split
  · next hroom => rw [placeRefusal_of_room hroom, if_pos h]
  · next hfull => exact placeRefusal_of_full hfull tag kind st

/-- The checks of R192 in their order. -/
theorem admission_eq_ite {tag kind : Byte} {len : Nat} {ok : Bool} (h : bodyAllowed kind len = some ok) (s : State) :
    s.admission tag kind len =
      if tag = 0x00#8 then some .badTag
      else if s.link.sessionOpen = false ∧ kind ≠ 0x01#8 ∧ kind ≠ 0x03#8 ∧ kind ≠ 0x05#8 then some .noSession
      else if ∃ o ∈ s.link.outstanding, o.tag = tag then some .tagInUse
      else if 4 ≤ s.link.outstanding.length then some .windowFull
      else if ok = false then some .badLength
      else none := by
  rw [State.admission, h]
  simp only [sessionFree, Config.window, Bool.and_eq_true, Bool.not_eq_true', Bool.or_eq_false_iff, beq_eq_false_iff_ne,
    List.any_eq_true, beq_iff_eq, and_assoc]
  cases ok <;> rfl

/-- Settles O15: a request's kind is one that Table 10-12 has, and its body is allowed where the command is well
formed, so the checks come out as listed. -/
theorem admissionChecksInOrder : Obligations.AdmissionChecksInOrder := by
  refine ⟨fun c q s st hq hr hp hst hok => ?_, fun c q s hq h => ?_⟩
  · have hbody := bodyAllowed_request hq
    have hadm : s.admission q.tag q.kind q.body.length = some st := by
      rw [admission_eq_ite hbody, hst]
      rw [hst] at hok
      simp only [apply_ite some]
      split_ifs at hok ⊢
      · rfl
      · rfl
      · rfl
      · rfl
      · rfl
      · exact absurd rfl hok
    rw [exec_request hq, receive_refused hr hp hadm, placeRefusal_eq (by rw [hbody]; rfl)]
  · rw [exec_request hq, receive_deaf h]

/-! ## A frame's bytes -/

/-- LEN, TAG, KIND and the body: what the CRC covers (R190, Table 10-10). -/
def coveredBytes (tag kind : Byte) (body : List Byte) : List Byte := byte (body.length + 2) :: tag :: kind :: body

theorem frameBytes_eq (tag kind : Byte) (body : List Byte) : frameBytes tag kind body =
    0xA5#8 :: (coveredBytes tag kind body ++ bytesBE 2 (crc (coveredBytes tag kind body)).toNat) := rfl

@[simp] theorem coveredBytes_length (tag kind : Byte) (body : List Byte) :
    (coveredBytes tag kind body).length = body.length + 3 := rfl

section
variable {s : State} {tag kind : Byte} {body : List Byte}

/-- LEN's place in a frame. -/
theorem getD_zero_of_append {bytes rest : List Byte} {x : Byte} {xs : List Byte} (h : bytes ++ rest = x :: xs)
    (hne : bytes ≠ []) : bytes.getD 0 0x00#8 = x := by
  cases bytes with
  | nil => exact absurd rfl hne
  | cons b bs => exact (List.cons.inj h).1

/-- A frame that is not complete goes on (R189). -/
theorem frameByte_partial {bytes rest crcBytes : List Byte} (hbody : body.length ≤ 248) (hcrc : crcBytes.length = 2)
    (h : bytes ++ rest = coveredBytes tag kind body ++ crcBytes) (hne : bytes ≠ []) (hmore : rest ≠ []) :
    s.frameByte bytes = s.setReceiver (.frame bytes 2000) := by
  have hlen : (bytes.getD 0 0x00#8).toNat = body.length + 2 := by
    rw [getD_zero_of_append h hne, byte_toNat (by omega)]
  have htotal : bytes.length + rest.length = body.length + 5 := by
    have := congrArg List.length h
    simpa [hcrc] using this
  have hrest : 0 < rest.length := List.length_pos_iff.mpr hmore
  unfold State.frameByte
  dsimp only
  rw [hlen, if_neg (by omega), if_pos (by omega)]
  rfl

/-- The last byte of a frame: the CRC decides (R189 to R191). -/
theorem frameByte_complete {crcBytes : List Byte} (hbody : body.length ≤ 248) (hcrc : crcBytes.length = 2) :
    s.frameByte (coveredBytes tag kind body ++ crcBytes) =
      if natBE crcBytes = (crc (coveredBytes tag kind body)).toNat then
        receive tag kind body.length (ownerOf tag kind body) (s.setReceiver .hunt)
      else s.rejectFrame .crc tag := by
  have hlen : ((coveredBytes tag kind body ++ crcBytes).getD 0 0x00#8).toNat = body.length + 2 := byte_toNat (by omega)
  have hcovered : (coveredBytes tag kind body ++ crcBytes).take (body.length + 2 + 1) = coveredBytes tag kind body :=
    List.take_left' rfl
  have hfield : field (coveredBytes tag kind body ++ crcBytes) (body.length + 2 + 1) 2 = natBE crcBytes := by
    rw [field, List.drop_left' (coveredBytes_length tag kind body), List.take_of_length_le hcrc.le]
  unfold State.frameByte State.frameComplete
  dsimp only
  rw [hlen, if_neg (by omega), if_neg (by rw [List.length_append, hcrc, coveredBytes_length]; omega), hcovered, hfield]
  rfl

theorem natBE_crcBytes (x : Half) : natBE (bytesBE 2 x.toNat) = x.toNat := by
  rw [natBE_bytesBE]
  exact Nat.mod_eq_of_lt x.isLt

/-- The last byte of a valid frame hands it to admission (R192). -/
theorem frameByte_valid (hbody : body.length ≤ 248) :
    s.frameByte (coveredBytes tag kind body ++ bytesBE 2 (crc (coveredBytes tag kind body)).toNat) =
      receive tag kind body.length (ownerOf tag kind body) (s.setReceiver .hunt) := by
  rw [frameByte_complete hbody (bytesBE_length ..), if_pos (natBE_crcBytes _)]

theorem rxdByte_hunt {b : Byte} (hr : s.inReset = false) (hp : s.link.resetPending = false)
    (h : s.link.receiver = .hunt) : rxdByte b true s = if b = 0xA5#8 then s.setReceiver (.frame [] 2000) else s := by
  simp only [rxdByte, hr, hp, h]
  rfl

theorem rxdByte_frame {b : Byte} {bytes : List Byte} {gap : Nat} (hr : s.inReset = false)
    (hp : s.link.resetPending = false) (h : s.link.receiver = .frame bytes gap) :
    rxdByte b true s = s.frameByte (bytes ++ [b]) := by
  simp only [rxdByte, hr, hp, h]
  rfl

/-- The byte that completes a valid frame. -/
theorem rxdByte_valid {b : Byte} {bytes : List Byte} {gap : Nat} (hr : s.inReset = false)
    (hp : s.link.resetPending = false) (h : s.link.receiver = .frame bytes gap) (hbody : body.length ≤ 248)
    (hframe : 0xA5#8 :: (bytes ++ [b]) = frameBytes tag kind body) :
    rxdByte b true s = receive tag kind body.length (ownerOf tag kind body) (s.setReceiver .hunt) := by
  rw [rxdByte_frame hr hp h, (List.cons.inj (hframe.trans (frameBytes_eq tag kind body))).2, frameByte_valid hbody]

end

/-! ## A request's frame, byte by byte (R189, R190, R192) -/

/-- The bytes of a frame from `rest` on waiting at a receiver that has taken `bytes` of it. -/
def State.midFrame (s : State) (bytes rest : List Byte) : State :=
  { s.setReceiver (.frame bytes 2000) with pending := rest.map fun b => .rxdByte b true }

theorem run_succ_of_step {k : Nat} {u v : State} (h : step u = .next v) :
    Host.Core.run Sys2Proof.core (k + 1) u = Host.Core.run Sys2Proof.core k v := by
  have hstep : Sys2Proof.core.step u = .next v := h
  simp only [Host.Core.run, hstep]

/-- The rest of a valid frame hands the frame to admission. -/
theorem run_midFrame {s : State} {tag kind : Byte} {body : List Byte} (hr : s.inReset = false)
    (hp : s.link.resetPending = false) (hbody : body.length ≤ 248) (rest : List Byte) (b : Byte) (bytes : List Byte)
    (h : bytes ++ b :: rest = coveredBytes tag kind body ++ bytesBE 2 (crc (coveredBytes tag kind body)).toNat) :
    Host.Core.run Sys2Proof.core (rest.length + 1) (s.midFrame bytes (b :: rest)) =
      .next (receive tag kind body.length (ownerOf tag kind body) { s.setReceiver .hunt with pending := [] }) := by
  have hstep : step (s.midFrame bytes (b :: rest)) = .next ((s.midFrame bytes rest).frameByte (bytes ++ [b])) :=
    congrArg Host.Outcome.next (rxdByte_frame (s := s.midFrame bytes rest) hr hp rfl)
  induction rest generalizing b bytes with
  | nil =>
    rw [h, frameByte_valid hbody] at hstep
    rw [run_succ_of_step hstep]
    rfl
  | cons c rest ih =>
    have hbytes : (bytes ++ [b]) ++ c :: rest = bytes ++ b :: c :: rest := by simp
    rw [frameByte_partial hbody (bytesBE_length ..) (hbytes.trans h) (by simp) (by simp)] at hstep
    rw [List.length_cons, run_succ_of_step hstep]
    exact ih c (bytes ++ [b]) (hbytes.trans h)
      (congrArg Host.Outcome.next (rxdByte_frame (s := s.midFrame (bytes ++ [b]) rest) hr hp rfl))

/-- Table 10-12 has no request whose body does not fit a frame. -/
theorem request_body_length {c : Instr} {q : Request} (h : c.request = some q) (hwf : WellFormed c = true) :
    q.body.length ≤ 248 := by
  cases c with
  | appendSteps tag plan steps =>
    cases h
    simp only [WellFormed, Bool.and_eq_true, decide_eq_true_eq] at hwf
    simp only [List.length_cons, flatMap_bytes_length]
    omega
  | _ =>
    cases h <;> exact Nat.le_of_ble_eq_true rfl

/-- Settles O14: SOF opens a frame, every byte but the last leaves the receiver in it, and the last hands to admission
what the request command hands to it. -/
theorem frameBytesAreTheirRequest : Obligations.FrameBytesAreTheirRequest := by
  intro c q s hq hwf hr hp hreceiver
  rw [exec_request hq, frameBytes_eq]
  obtain ⟨b, rest, hrest⟩ : ∃ b rest, coveredBytes q.tag q.kind q.body
      ++ bytesBE 2 (crc (coveredBytes q.tag q.kind q.body)).toNat = b :: rest := ⟨_, _, rfl⟩
  have hrun := run_midFrame hr hp (request_body_length hq hwf) rest b [] hrest.symm
  have hhunt : s.setReceiver .hunt = s := by
    rw [← hreceiver]
    rfl
  rw [hhunt] at hrun
  have hopen : step { s with pending := (0xA5#8 :: b :: rest).map fun b => .rxdByte b true } =
      .next (s.midFrame [] (b :: rest)) :=
    congrArg Host.Outcome.next ((rxdByte_hunt (b := 0xA5#8) (s := { s with
      pending := (b :: rest).map fun b => .rxdByte b true }) hr hp hreceiver).trans (if_pos rfl))
  rw [hrest, List.length_cons, List.length_cons]
  exact (run_succ_of_step hopen).trans hrun

/-! ## The receiver's rejects and refusals -/

/-- A reject's place in the list of 4 (R191). -/
theorem rejectFrame_eq (s : State) (reason : RejectReason) (tag : Byte) : s.rejectFrame reason tag = { s with link := { s.link with
    receiver := .hunt
    rejects := if s.link.rejects.length < 4 then s.link.rejects ++ [⟨reason, tag⟩] else s.link.rejects } } := by
  have hroom : (if Config.linkQueue ≤ s.link.rejects.length then s.link.rejects
      else s.link.rejects ++ [⟨reason, tag⟩])
      = if s.link.rejects.length < 4 then s.link.rejects ++ [⟨reason, tag⟩] else s.link.rejects := by
    simp only [Config.linkQueue, ← Nat.not_lt, ite_not]
  rw [State.rejectFrame, hroom]

theorem frameByte_badLength {s : State} {len : Byte} (h : len.toNat < 2 ∨ 250 < len.toNat) :
    s.frameByte [len] = s.rejectFrame .length 0x00#8 := if_pos h

/-- Two bytes are the CRC's where they are equal to it as a number (R190). -/
theorem natBE_pair_eq_iff {hi lo : Byte} {x : Half} : natBE [hi, lo] = x.toNat ↔ x = hi ++ lo := by
  have hpair : natBE [hi, lo] = (hi ++ lo).toNat := by
    rw [BitVec.toNat_append, ← Nat.shiftLeft_add_eq_or_of_lt lo.isLt, Nat.shiftLeft_eq]
    simp only [natBE, List.foldl_cons, List.foldl_nil]
    omega
  rw [hpair, BitVec.toNat_inj, eq_comm]

theorem exec_gapTimerExpiry {s : State} {bytes : List Byte} {gap : Nat} (hr : s.inReset = false)
    (hp : s.link.resetPending = false) (h : s.link.receiver = .frame bytes gap) :
    exec .gapTimerExpiry s = .next (s.rejectFrame .truncated (bytes.getD 1 0x00#8)) := by
  refine congrArg Host.Outcome.next ((awake_eq hr).trans ?_)
  simp only [gapTimerExpiry, h, hp]
  rfl

/-- Checks 1, 3 and 4 passed, the session and the table of kinds decide (R192). -/
theorem State.Hears.admission_eq {s : State} {tag : Byte} (h : s.Hears tag) (kind : Byte) (len : Nat) :
    s.admission tag kind len =
      if s.link.sessionOpen = false ∧ sessionFree kind = false then some .noSession
      else (bodyAllowed kind len).elim (some .unknownKind) fun ok => if ok then none else some .badLength := by
  obtain ⟨-, -, htag, hfresh, hroom⟩ := h
  have hany : (s.link.outstanding.any fun o => o.tag == tag) = false := by simpa using hfresh
  have hwindow : ¬ Config.window ≤ s.link.outstanding.length := Nat.not_le.mpr hroom
  rw [State.admission, if_neg htag, hany, if_neg hwindow]
  simp only [Bool.and_eq_true, Bool.not_eq_true']
  congr 1
  rcases bodyAllowed kind len with _ | _ | _ <;> rfl

/-- A valid frame of a kind that Table 10-12 does not have (R192, R193). -/
theorem State.Hears.receive_unknown {s : State} {tag kind : Byte} {len : Nat} {owner : State → State} (h : s.Hears tag)
    (hroom : s.refusals.length < 4) (hkind : ∀ x ∈ bodyLengths, x.1 ≠ kind) :
    receive tag kind len owner s =
      s.refused tag 0xFF#8 (if s.link.sessionOpen then .unknownKind else .noSession) := by
  have ⟨hr, hp, _⟩ := h
  have hfree : sessionFree kind = false := Bool.eq_false_iff.mpr fun h => by
    simpa [bodyAllowed_eq_none hkind] using bodyAllowed_of_sessionFree h
  have hst : s.admission tag kind len = some (if s.link.sessionOpen then .unknownKind else .noSession) := by
    rw [h.admission_eq, bodyAllowed_eq_none hkind, hfree]
    cases s.link.sessionOpen <;> rfl
  rw [receive_refused hr hp hst, placeRefusal_of_room hroom, bodyAllowed_eq_none hkind]
  rfl

/-- A valid frame whose body its kind does not have (R192, R193). -/
theorem State.Hears.receive_badLength {s : State} {tag kind : Byte} {len : Nat} {owner : State → State} (h : s.Hears tag)
    (hroom : s.refusals.length < 4) (hopen : s.link.sessionOpen = true) (hallowed : bodyAllowed kind len = some false) :
    receive tag kind len owner s = s.refused tag (kind + 0x80#8) .badLength := by
  have ⟨hr, hp, _⟩ := h
  have hst : s.admission tag kind len = some .badLength := by
    rw [h.admission_eq, hallowed, hopen]
    rfl
  rw [receive_refused hr hp hst, placeRefusal_eq (by rw [hallowed]; rfl), if_pos hroom]

theorem frameBytes_crc (tag kind : Byte) (body : List Byte) : frameBytes tag kind body =
    0xA5#8 :: (coveredBytes tag kind body ++ [(crc (coveredBytes tag kind body)).extractLsb' 8 8,
      (crc (coveredBytes tag kind body)).extractLsb' 0 8]) := by
  rw [frameBytes_eq, ← request_bytes2_eq]
  rfl

theorem crcByte_eq (x : Half) (b : Byte) : crcByte x b =
    (List.range 8).foldl (fun (x : Half) _ => if x.msb then (x <<< 1) ^^^ 0x1021#16 else x <<< 1)
      (x ^^^ (b ++ 0x00#8)) := rfl

/-- Settles O16: the receiver by its state, and a complete frame by its CRC and the table of kinds. -/
theorem receiverTakesAndRejectsFrames : Obligations.ReceiverTakesAndRejectsFrames := by
  refine ⟨fun s b hr hp => ⟨fun h hb => ?_, fun h => ?_, ?_⟩, fun s len gap hr hp h hlen => ?_,
    fun s bytes gap hr hp h => ?_, fun s tag kind hi lo body gap hr hp hbody h hcrc => ?_,
    fun s tag kind b body bytes gap hears hroom hbody h hframe => ?_, rfl, fun bytes b => ?_, fun tag kind body => ?_⟩
  · exact congrArg Host.Outcome.next ((rxdByte_hunt hr hp h).trans (if_neg hb))
  · exact congrArg Host.Outcome.next ((rxdByte_hunt hr hp h).trans (if_pos rfl))
  · refine congrArg Host.Outcome.next ?_
    simp [rxdByte]
  · refine congrArg Host.Outcome.next ((rxdByte_frame hr hp h).trans ?_)
    rw [List.nil_append, frameByte_badLength hlen, rejectFrame_eq]
  · have htag : bytes.getD 1 0x00#8 = if bytes.length < 2 then 0x00#8 else bytes.getD 1 0x00#8 := by
      split
      · next hshort => exact List.getD_eq_default _ _ (by omega)
      · rfl
    rw [exec_gapTimerExpiry hr hp h, rejectFrame_eq, ← htag]
  · refine congrArg Host.Outcome.next ((rxdByte_frame hr hp h).trans ?_)
    have hbytes : byte (body.length + 2) :: tag :: kind :: body ++ [hi] ++ [lo] = coveredBytes tag kind body ++ [hi, lo] :=
      List.append_assoc ..
    have hne : natBE [hi, lo] ≠ (crc (coveredBytes tag kind body)).toNat := fun h => hcrc (natBE_pair_eq_iff.mp h)
    rw [hbytes, frameByte_complete hbody rfl, if_neg hne, rejectFrame_eq]
  · have ⟨hr, hp, _⟩ := hears
    have hvalid := rxdByte_valid (s := s) hr hp h hbody hframe
    refine ⟨fun hkind => congrArg Host.Outcome.next (hvalid.trans ?_),
      fun lengths hmem hbad hopen => congrArg Host.Outcome.next (hvalid.trans ?_)⟩
    · exact State.Hears.receive_unknown (s := s.setReceiver .hunt) hears hroom hkind
    · have hallowed := bodyAllowed_of_mem _ hmem body.length (by omega)
      rw [decide_eq_false hbad] at hallowed
      exact State.Hears.receive_badLength (s := s.setReceiver .hunt) hears hroom hopen hallowed
  · rw [crc, List.foldl_append]
    exact crcByte_eq _ _
  · exact frameBytes_crc tag kind body

/-! ## The time base -/

/-- As many bytes as LEN announces are a frame's LEN, TAG, KIND, body and CRC (R189). -/
theorem exists_frame_of_length {bytes : List Byte} (h2 : 2 ≤ (bytes.getD 0 0x00#8).toNat)
    (h : bytes.length = (bytes.getD 0 0x00#8).toNat + 3) :
    ∃ tag kind body crcBytes, bytes = coveredBytes tag kind body ++ crcBytes ∧ crcBytes.length = 2
      ∧ body.length + 2 = (bytes.getD 0 0x00#8).toNat := by
  match bytes with
  | [] | [_] | [_, _] => simp at h
  | len :: tag :: kind :: rest =>
    have hrest : rest.length = len.toNat := by simpa using h
    have hlen : 2 ≤ len.toNat := h2
    have hbody : (rest.take (len.toNat - 2)).length + 2 = len.toNat := by
      rw [List.length_take, hrest]
      omega
    refine ⟨tag, kind, rest.take (len.toNat - 2), rest.drop (len.toNat - 2), ?_, ?_, hbody⟩
    · rw [coveredBytes, hbody]
      simp [byte]
    · rw [List.length_drop, hrest]
      omega

/-- What the byte that completes a frame leaves of the time base: only a valid SET-TIME moves it. -/
theorem frameComplete_timeBase {s : State} {tag kind : Byte} {body crcBytes : List Byte} (hbody : body.length ≤ 248)
    (hcrc : crcBytes.length = 2) :
    (s.frameByte (coveredBytes tag kind body ++ crcBytes)).timeBase = s.timeBase
      ∨ ∃ time : Time, 0xA5#8 :: (coveredBytes tag kind body ++ crcBytes)
          = frameBytes tag 0x30#8 (bytesBE 6 time.toNat) := by
  rw [frameByte_complete hbody hcrc]
  split
  · next hvalid =>
    by_cases hsetTime : kind = 0x30#8 ∧ body.length = 6
    · obtain ⟨rfl, hlen⟩ := hsetTime
      have hbytes : bytesBE 6 (BitVec.ofNat 48 (natBE body)).toNat = body := by
        have hlt := natBE_lt body
        rw [hlen] at hlt
        rw [BitVec.toNat_ofNat, Nat.mod_eq_of_lt (by simpa using hlt), ← hlen, bytesBE_natBE]
      refine .inr ⟨BitVec.ofNat 48 (natBE body), ?_⟩
      rw [hbytes, frameBytes_eq, ← hvalid, ← hcrc, bytesBE_natBE]
    · refine .inl ?_
      unfold receive
      split
      · rfl
      split
      · exact (Keeps.placeRefusal ..).time
      · next hadm =>
        obtain ⟨-, -, -, hallowed⟩ := admission_eq_none hadm
        refine ownerOf_timeBase (fun hkind => hsetTime ⟨hkind, ?_⟩) _
        subst hkind
        simpa [bodyAllowed] using hallowed
  · exact .inl rfl

/-- What a byte leaves of the time base. -/
theorem frameByte_timeBase {s : State} {bytes : List Byte} {gap : Nat} {b : Byte}
    (hsound : (Receiver.frame bytes gap).sound = true) :
    (s.frameByte (bytes ++ [b])).timeBase = s.timeBase
      ∨ ∃ tag, ∃ time : Time, 0xA5#8 :: (bytes ++ [b]) = frameBytes tag 0x30#8 (bytesBE 6 time.toNat) := by
  by_cases hlen : ((bytes ++ [b]).getD 0 0x00#8).toNat < 2 ∨ 250 < ((bytes ++ [b]).getD 0 0x00#8).toNat
  · have hreject : s.frameByte (bytes ++ [b]) = s.rejectFrame .length 0x00#8 := if_pos hlen
    exact .inl ((congrArg State.timeBase hreject).trans rfl)
  by_cases hmore : (bytes ++ [b]).length < ((bytes ++ [b]).getD 0 0x00#8).toNat + 3
  · have hgoesOn : s.frameByte (bytes ++ [b]) = s.setReceiver (.frame (bytes ++ [b]) Config.gapLimit) :=
      (if_neg hlen).trans (if_pos hmore)
    exact .inl ((congrArg State.timeBase hgoesOn).trans rfl)
  have htotal : (bytes ++ [b]).length = ((bytes ++ [b]).getD 0 0x00#8).toNat + 3 := by
    cases bytes with
    | nil => simp at hmore
    | cons x xs =>
      simp only [Receiver.sound, List.isEmpty_cons, Bool.false_or, Bool.and_eq_true, decide_eq_true_eq,
        List.getD_cons_zero, List.length_cons] at hsound
      simp only [List.cons_append, List.getD_cons_zero, List.length_cons, List.length_append, List.length_nil] at hmore ⊢
      omega
  obtain ⟨tag, kind, body, crcBytes, hframe, hcrc, hbody⟩ := exists_frame_of_length (by omega) htotal
  rw [hframe]
  exact (frameComplete_timeBase (by omega) hcrc).imp_right fun h => ⟨tag, h⟩

/-- Settles O3: every other command keeps the time base, and of the bytes on RXD only the last of a valid SET-TIME can
move it. -/
theorem onlySetTimeAndResetsMoveTheTimeBase : Obligations.OnlySetTimeAndResetsMoveTheTimeBase := by
  intro c s hsound
  cases hc : Instr.special c with
  | false =>
    obtain ⟨t, ht, hkeeps⟩ := exec_keeps hc s
    exact ⟨t, ht, .inl hkeeps.time⟩
  | true =>
    cases c with
    | setTime tag time => exact ⟨_, rfl, .inr (.inl ⟨tag, time, rfl⟩)⟩
    | resetAsserted straps => exact ⟨_, rfl, .inr (.inr (.inr (.inl ⟨straps, rfl⟩)))⟩
    | defineRing => exact ⟨_, rfl, .inl (receive_timeBase (ownDefineRing_timeBase ..))⟩
    | resetReleased =>
      refine ⟨_, rfl, ?_⟩
      by_cases hr : s.inReset = true
      · exact .inr (.inr (.inr (.inr (.inl ⟨rfl, hr⟩))))
      · exact .inl (congrArg State.timeBase (if_neg hr))
    | deviceResetRequest =>
      refine ⟨_, rfl, ?_⟩
      cases he : s.endsInReset with
      | true => exact .inr (.inr (.inr (.inr (.inr ⟨.inl rfl, rfl⟩))))
      | false => exact .inl (by simp [awake, deviceResetRequest, he])
    | txdFrameEnd =>
      refine ⟨_, rfl, ?_⟩
      cases he : s.endsInReset with
      | true => exact .inr (.inr (.inr (.inr (.inr ⟨.inr rfl, rfl⟩))))
      | false => exact .inl (Keeps.awake (Keeps.txdFrameEnd he)).time
    | rxdByte b stopBit =>
      refine ⟨_, rfl, ?_⟩
      unfold rxdByte
      split
      · exact .inl rfl
      next hstop =>
      split
      · split <;> exact .inl rfl
      · next bytes gap hreceiver =>
        rw [hreceiver] at hsound
        refine (frameByte_timeBase hsound).imp_right fun ⟨tag, time, hframe⟩ =>
          .inr (.inl ⟨b, bytes, gap, tag, time, ?_, hreceiver, hframe⟩)
        have hbit : stopBit = true := by
          simp only [Bool.or_eq_true, not_or] at hstop
          simpa using hstop.2
        rw [hbit]
    | _ => exact nomatch hc

end Sys2Proof.Machine
end

section
/-! PROOFS. What an event brings about, action by action (R60, R68, R78): a list of actions that takes a state to
another, the rules of the single actions, and the close of an event in which an engine becomes IDLE. -/

namespace Sys2Proof.Machine

-- One proof after the other, as in the tests: many at once would each hold a thread.
set_option Elab.async false

/-! ## What a list of actions does -/

/-- The actions, with all that follows from them, take `s` to `t`, leave `last` to the close of the event, and begin
`begins` runs; `cost` is the fuel they use. -/
def Does (acts : List Act) (s t : State) (last : List Act) (cost begins : Nat) : Prop :=
  ∀ (fuel : Nat) (rest l : List Act) (b : Nat),
    carryOut (fuel + cost) (acts ++ rest) ⟨s, l, b + begins⟩ = carryOut fuel rest ⟨t, l ++ last, b⟩

section
variable {s t u v : State} {a : Act} {acts now more last last' last'' : List Act} {c c' b b' : Nat}

theorem Does.nil (s : State) : Does [] s s [] 0 0 := fun fuel rest l b => by
  rw [List.nil_append, List.append_nil]
  rfl

theorem Does.append (h : Does acts s t last c b) (k : Does more t u last' c' b') :
    Does (acts ++ more) s u (last ++ last') (c' + c) (b' + b) := fun fuel rest l n => by
  rw [List.append_assoc, ← Nat.add_assoc, ← Nat.add_assoc, h, k, List.append_assoc]

/-- An action that begins no run, with what follows from it at once. -/
theorem Does.one (ha : a.begins = false) (hact : act a s = ⟨t, now, [], last⟩) (h : Does now t u last' c b) :
    Does [a] s u (last ++ last') (c + 1) b := fun fuel rest l n => by
  rw [List.singleton_append, ← Nat.add_assoc, carryOut_cons _ _ _ _ ha, hact]
  simp only [List.append_nil]
  rw [h, List.append_assoc]

/-- The begin of a run, with what follows from it at once. -/
theorem Does.begin {e : Fin 4} (hact : act (.commitBegin e) s = ⟨t, now, [], last⟩) (h : Does now t u last' c b) :
    Does [.commitBegin e] s u (last ++ last') (c + 1) (b + 1) := fun fuel rest l n => by
  rw [List.singleton_append, ← Nat.add_assoc, ← Nat.add_assoc, carryOut]
  simp only [Act.begins, Nat.add_one_sub_one, hact, List.append_nil, if_true]
  exact (h fuel rest (l ++ last) n).trans (by rw [List.append_assoc])

/-- An action with nothing after it. -/
theorem Does.just (ha : a.begins = false) (hact : act a s = .just t) : Does [a] s t [] 1 0 := .one ha hact (.nil t)

/-- An action whose only sequel is one other list. -/
theorem Does.andThen (ha : a.begins = false) (hact : act a s = .andThen (t, now)) (h : Does now t u last c b) :
    Does [a] s u last (c + 1) b := .one ha hact h

theorem Does.cons (h : Does [a] s t last c b) (k : Does more t u last' c' b') :
    Does (a :: more) s u (last ++ last') (c' + c) (b' + b) := h.append k

/-! ## Whole events -/

/-- An event's own part, up to the actions that close it. -/
theorem event_of_does (h : Does acts s t last c b) (hc : c ≤ 1048576) (hb : b ≤ 64) :
    event (s, acts) = settle Config.settleFuel ⟨t, last, 64 - b⟩ := by
  have hcarry : carryOut Config.eventFuel acts (Moment.start s) = ⟨t, last, 64 - b⟩ := by
    have hfuel : Config.eventFuel = (1048576 - c) + c := (Nat.sub_add_cancel hc).symm
    have hbegins : Moment.start s = ⟨s, [], (64 - b) + b⟩ := by rw [Nat.sub_add_cancel hb]; rfl
    have hrun := h (1048576 - c) [] [] (64 - b)
    rw [List.append_nil, carryOut_nil] at hrun
    rw [hfuel, hbegins, hrun]
    rfl
  exact congrArg (settle Config.settleFuel) hcarry

/-- An event that leaves nothing to its close. -/
theorem event_eq (h : Does acts s t [] c b) (hc : c ≤ 1048576 := by decide) (hb : b ≤ 64 := by decide) :
    event (s, acts) = t :=
  (event_of_does h hc hb).trans (settle_nil _ _ _)

/-- One action of the close. -/
theorem settle_of_does {fuel n : Nat} {rest : List Act} (hact : act a s = ⟨t, now, more, last⟩)
    (h : Does (now ++ more) t u last' c b) (hc : c ≤ 1048576 := by decide) :
    settle (fuel + 1) ⟨s, a :: rest, n + b⟩ = settle fuel ⟨u, rest ++ last ++ last', n⟩ := by
  have hcarry : carryOut Config.eventFuel (now ++ more) ⟨t, rest ++ last, n + b⟩ = ⟨u, rest ++ last ++ last', n⟩ := by
    have hfuel : Config.eventFuel = (1048576 - c) + c := (Nat.sub_add_cancel hc).symm
    have hrun := h (1048576 - c) [] (rest ++ last) n
    rw [List.append_nil, carryOut_nil] at hrun
    rw [hfuel, hrun]
  rw [settle_cons, hact]
  exact congrArg (settle fuel) hcarry

/-- An action of the close after which nothing follows but what it adds to the close. -/
theorem settle_one {fuel n : Nat} {rest : List Act} (hact : act a s = ⟨t, [], [], last⟩) :
    settle (fuel + 1) ⟨s, a :: rest, n⟩ = settle fuel ⟨t, rest ++ last, n⟩ := by
  rw [settle_cons, hact, List.append_nil, carryOut_nil]

end

/-! ## The actions of an engine with a run -/

section
variable {s : State} {e : Fin 4} {r : Run}

theorem State.withRun_of_some {f : Run → State × List Act} (h : (s.engine e).run = some r) :
    s.withRun e f = .andThen (f r) := by
  rw [State.withRun, h]

theorem act_resume (x : Resume) (h : (s.engine e).run = some r) :
    act (.resume e x) s = .andThen (s.resume e r x) := State.withRun_of_some h

theorem act_step (h : (s.engine e).run = some r) : act (.step e) s = .andThen (s.beginStep e r) :=
  State.withRun_of_some h

theorem act_next (h : (s.engine e).run = some r) : act (.next e) s = .andThen (s.nextStep e r) :=
  State.withRun_of_some h

theorem act_faultStep (reason : Reason) (h : (s.engine e).run = some r) :
    act (.faultStep e reason) s = .andThen (s.postStepFault r reason, [.commitFault e reason]) :=
  State.withRun_of_some h

theorem act_commitFault (reason : Reason) (h : (s.engine e).run = some r) :
    act (.commitFault e reason) s = .andThen (s.commitSamples e r fun n => .stepFault n reason) :=
  State.withRun_of_some h

theorem act_finish (h : (s.engine e).run = some r) :
    act (.finish e) s = .andThen (s.commitRunEnd e { r with remaining := 0 } none) := State.withRun_of_some h

theorem act_fail (reason : Reason) (h : (s.engine e).run = some r) :
    act (.fail e reason) s = .andThen (s.commitRunEnd e r (some reason)) := State.withRun_of_some h

theorem act_stop (h : (s.engine e).run = some r) :
    act (.stop e) s = .andThen ((s.setRun e { r with builder := [], portLost := false }).setEngineState e .ending,
      [.release e, .stopped e]) := State.withRun_of_some h

theorem act_stopped {cause : AbortCause} (h : (s.engine e).run = some r) (hcause : r.abortCause = some cause) :
    act (.stopped e) s = .andThen (s.post .runAborted (byte r.plan) (BitVec.ofNat 32 r.remaining)
      (pair cause.code (byte r.stepIndex)), [.endReport e (.aborted cause)]) := by
  rw [act, State.withRun_of_some h, hcause]
  rfl

theorem act_stallFailed (h : (s.engine e).run = some r) :
    act (.stallFailed e) s = .andThen (s.post .runFailed (byte r.plan) (BitVec.ofNat 32 r.remaining)
      (pair Reason.ringStall.code (byte r.stepIndex)), [.endReport e (.failed .ringStall)]) :=
  State.withRun_of_some h

theorem act_granted {st : PortStep} (h : s.Executes e r (.port st)) :
    act (.granted e) s = .andThen (s.checkSubAddress e st) := by
  obtain ⟨hrun, hstep⟩ := h
  rw [act, State.withRun_of_some hrun]
  simp only [State.currentStep, hstep]

theorem act_commitBegin {time : Time} (h : (s.engine e).run = some r) (hstate : (s.engine e).state = .starting time) :
    act (.commitBegin e) s = .andThen
      (s.commitRecord e r time (.runBegin r.runNumber r.source r.trigTime) false .runBegin) := by
  rw [act, State.withRun_of_some h]
  simp only [hstate]

/-- A grant that is held is released, a grant that is not has nothing to release (R129). -/
theorem act_release_of_some {p : Fin 8} (h : s.heldPort e = some p) : act (.release e) s = .andThen (s.releaseGrant p) := by
  rw [act, h]

theorem act_release_of_none (h : s.heldPort e = none) : act (.release e) s = .just s := by
  rw [act, h]

/-! ## Steps -/

/-- The run at its next step, before that begins (R68). -/
def Run.atNext (r : Run) : Run := { r with stepIndex := r.stepIndex + 1, remaining := 0, retry := 0 }

theorem State.nextStep_of_some {st : PlanStep} (h : (s.plan r.plan).steps[r.stepIndex + 1]? = some st) :
    s.nextStep e r = (s.setRun e r.atNext, [.step e]) := by
  obtain ⟨hlt, -⟩ := List.getElem?_eq_some_iff.mp h
  exact if_pos hlt

theorem State.nextStep_of_last (h : (s.plan r.plan).steps.length = r.stepIndex + 1) :
    s.nextStep e r = (s.setRun e { r with remaining := 0, retry := 0 }, [.finish e]) :=
  if_neg (by omega)

theorem State.beginStep_wait {d : Nat} (h : (s.plan r.plan).steps[r.stepIndex]? = some (.wait d)) :
    s.beginStep e r = (s.setEngineState e (.waiting d), []) := by
  simp only [State.beginStep, State.currentStep, h]

/-- A WAIT step begins (R84). -/
theorem does_step_wait {d : Nat} (h : s.Executes e r (.wait d)) :
    Does [.step e] s (s.setEngineState e (.waiting d)) [] 1 0 := by
  obtain ⟨hrun, hstep⟩ := h
  exact .just rfl ((act_step hrun).trans (congrArg Eff.andThen (State.beginStep_wait hstep)))

/-- An engine that goes on to a WAIT step rests there (R68, R84). -/
def State.inWait (s : State) (e : Fin 4) (r : Run) (d : Nat) : State :=
  s.setEngine e { s.engine e with state := .waiting d, run := some r.atNext }

theorem does_next_wait {d : Nat} (h : (s.engine e).run = some r)
    (hwait : (s.plan r.plan).steps[r.stepIndex + 1]? = some (.wait d)) :
    Does [.next e] s (s.inWait e r d) [] 2 0 := by
  have hstep : Does [.step e] (s.setRun e r.atNext) (s.inWait e r d) [] 1 0 := by
    have hat : (s.setRun e r.atNext).Executes e r.atNext (.wait d) := ⟨by simp [State.setRun], hwait⟩
    have := does_step_wait hat
    simpa [State.setEngineState, State.setRun, State.inWait] using this
  exact .andThen rfl ((act_next h).trans (congrArg Eff.andThen (State.nextStep_of_some hwait))) hstep

end

/-! ## The engine becomes IDLE (R60, R88, R91) -/

/-- What becomes of an engine at the end of its run: IDLE, with the waiting ABORT-RUN replies placed in order. -/
def State.nowIdle (s : State) (e : Fin 4) : State :=
  (s.engine e).abortTags.foldl (fun st t => st.replyOk t 0x38#8 []) (s.setEngine e ⟨.idle, none, []⟩)

theorem act_idle (s : State) (e : Fin 4) : act (.idle e) s = ⟨s.nowIdle e, [], [], [.take, .clearCheck]⟩ := rfl

theorem foldl_replies {s : State} {f : State → Byte → State}
    (hf : ∀ s t, (f s t).runQueue = s.runQueue ∧ (f s t).clear = s.clear) (tags : List Byte) :
    (tags.foldl f s).runQueue = s.runQueue ∧ (tags.foldl f s).clear = s.clear := by
  induction tags generalizing s with
  | nil => exact ⟨rfl, rfl⟩
  | cons t tags ih =>
    obtain ⟨hqueue, hclear⟩ := ih (s := f s t)
    exact ⟨hqueue.trans (hf s t).1, hclear.trans (hf s t).2⟩

@[simp] theorem State.nowIdle_runQueue (s : State) (e : Fin 4) : (s.nowIdle e).runQueue = s.runQueue :=
  (foldl_replies (f := fun st t => st.replyOk t 0x38#8 []) (fun _ _ => ⟨rfl, rfl⟩) _).1

@[simp] theorem State.nowIdle_clear (s : State) (e : Fin 4) : (s.nowIdle e).clear = s.clear :=
  (foldl_replies (f := fun st t => st.replyOk t 0x38#8 []) (fun _ _ => ⟨rfl, rfl⟩) _).2

theorem State.nowIdle_of_noTags {s : State} {e : Fin 4} (h : (s.engine e).abortTags = []) :
    s.nowIdle e = s.setEngine e ⟨.idle, none, []⟩ := by
  rw [State.nowIdle, h]
  rfl

theorem act_take (s : State) : act .take s = .thenLater s.handOut := rfl

theorem act_take_empty {s : State} (h : s.runQueue = []) : act .take s = .just s := by
  rw [act_take, State.handOut_empty h]
  rfl

theorem act_clearCheck_none {s : State} (h : s.clear = none) : act .clearCheck s = .just s := by
  rw [act, State.clearRings, h]

/-- The close of an event in which an engine becomes IDLE and nothing else waits for it. -/
theorem settle_idle {s : State} {e : Fin 4} {n : Nat} (hqueue : s.runQueue = []) (hclear : s.clear = none) :
    settle Config.settleFuel ⟨s, [.idle e], n⟩ = s.nowIdle e := by
  have hqueue' : (s.nowIdle e).runQueue = [] := by rw [State.nowIdle_runQueue, hqueue]
  have hclear' : (s.nowIdle e).clear = none := by rw [State.nowIdle_clear, hclear]
  have hfuel : Config.settleFuel = (Config.settleFuel - 3) + 1 + 1 + 1 := rfl
  rw [hfuel, settle_one (act_idle s e), List.nil_append, settle_one (act_take_empty hqueue'), List.append_nil,
    settle_one (act_clearCheck_none hclear')]
  exact settle_nil _ _ _

end Sys2Proof.Machine
end

section
/-! PROOFS. The probe ports: the timed phases (R99 to R106), the identify attempts (R101 to R103), host accesses (R134 to
R136) and the profile commit (R143, R144, R147). -/

namespace Sys2Proof.Machine

-- One proof after the other, as in the tests: many at once would each hold a thread.
set_option Elab.async false

/-! ## Identify attempts and timed phases -/

theorem Port.attempt_of_quiet_none {q : Port} (h : q.quiet = none) : q.attempt = { q with
    phase := none, attempts := q.attempts + 1
    txn := some ⟨none, .identify, 0, 0#24, q.active.timeout * 10, q.active.rate.wordTime, q.active.timeout * 10⟩ } :=
  if_neg (by rw [h]; decide)

section
variable {s : State} {p : Fin 8}

theorem exec_powerSettleExpiry (hr : s.inReset = false) (hst : (s.port p).state = .powering)
    (hphase : (s.port p).phase.isSome = true) :
    exec (.powerSettleExpiry p) s = .next (s.setPort p { s.port p with state := .clocking, phase := some 1000 }) :=
  congrArg Host.Outcome.next ((awake_eq hr).trans (if_pos ⟨hst, hphase⟩))

theorem exec_clockSettleExpiry (hr : s.inReset = false) (hst : (s.port p).state = .clocking)
    (hphase : (s.port p).phase.isSome = true) :
    exec (.clockSettleExpiry p) s =
      .next (s.setPort p { s.port p with state := .identifying, attempts := 0 }.attempt) :=
  congrArg Host.Outcome.next ((awake_eq hr).trans (if_pos ⟨hst, hphase⟩))

theorem exec_retrainSettleExpiry (hr : s.inReset = false) (hst : (s.port p).state = .retraining)
    (hfirst : (s.port p).attempts = 0) (hphase : (s.port p).phase.isSome = true) :
    exec (.retrainSettleExpiry p) s = .next (s.setPort p (s.port p).attempt) :=
  congrArg Host.Outcome.next ((awake_eq hr).trans (if_pos ⟨hst, hfirst, hphase⟩))

theorem exec_identifySpacingExpiry (hr : s.inReset = false)
    (hst : (s.port p).state = .identifying ∨ (s.port p).state = .retraining) (hlater : 0 < (s.port p).attempts)
    (hphase : (s.port p).phase.isSome = true) :
    exec (.identifySpacingExpiry p) s = .next (s.setPort p (s.port p).attempt) :=
  congrArg Host.Outcome.next ((awake_eq hr).trans (if_pos ⟨hst, hlater, hphase⟩))

theorem exec_stopClockExpiry (hr : s.inReset = false) (hst : (s.port p).state = .stopping)
    (hsupply : (s.port p).supply = true) :
    exec (.stopClockExpiry p) s = .next (s.setPort p { s.port p with supply := false, phase := some 20000 }) :=
  congrArg Host.Outcome.next ((awake_eq hr).trans (if_pos ⟨hst, hsupply⟩))

/-- PORT_STATE names the state and the cause that the port has (R114). -/
theorem State.postPortState_setPort (q : Port) : (s.setPort p q).postPortState p =
    (s.setPort p q).post .portState (byte p) 0#32 (pair q.state.code (faultCode q.faultCause)) := by
  unfold State.postPortState
  rw [State.setPort_self]

theorem exec_dischargeExpiry (hr : s.inReset = false) (hst : (s.port p).state = .stopping)
    (hsupply : (s.port p).supply = false) :
    exec (.dischargeExpiry p) s = .next ((s.setPort p { s.port p with
      state := .off, phase := none, attempts := 0, faultCause := none, identity := none }).post
        .portState (byte p) 0#32 0x0000#16) := by
  refine congrArg Host.Outcome.next ((awake_eq hr).trans ?_)
  have hoff : (s.port p).enterOff = { s.port p with
      state := .off, phase := none, attempts := 0, faultCause := none, identity := none } := by
    rw [Port.enterOff, ← hsupply]
  rw [dischargeExpiry, if_pos ⟨hst, by rw [hsupply]; rfl⟩, hoff, State.postPortState_setPort]
  have hcodes : pair PortState.off.code (faultCode none) = 0x0000#16 := by decide
  exact congrArg (State.post _ _ _ _) hcodes

theorem exec_quietPeriodEnd {n : Nat} (hr : s.inReset = false) (hq : (s.port p).quiet = some n) :
    exec (.quietPeriodEnd p) s = .next (s.setPort p
      (if { s.port p with quiet := none }.attemptDue then { s.port p with quiet := none }.attempt
        else { s.port p with quiet := none })) := by
  refine congrArg Host.Outcome.next ((awake_eq hr).trans ?_)
  exact if_neg (by rw [hq]; exact Bool.false_ne_true)

/-- An attempt that fell due in a quiet period (R125). -/
theorem Port.attemptDue_of {q : Port} (hst : q.state = .identifying ∨ q.state = .retraining) (hphase : q.phase = none)
    (htxn : q.txn = none) : q.attemptDue = true := by
  unfold Port.attemptDue
  rcases hst with h | h <;> simp [h, hphase, htxn]

theorem Port.attemptDue_of_phase {q : Port} (h : q.phase.isSome = true) : q.attemptDue = false := by
  obtain ⟨n, hn⟩ := Option.isSome_iff_exists.mp h
  unfold Port.attemptDue
  simp [hn]

/-- PnCLK runs in five states (Table 5-2). -/
theorem PortState.clocked_iff (st : PortState) : st.clocked = true ↔
    st = .clocking ∨ st = .identifying ∨ st = .up ∨ st = .retraining ∨ st = .draining := by
  cases st <;> simp [PortState.clocked]

theorem State.clockRate_eq (s : State) (p : Fin 8) : s.clockRate p =
    if s.inReset = false ∧ ((s.port p).state = .clocking ∨ (s.port p).state = .identifying ∨ (s.port p).state = .up
        ∨ (s.port p).state = .retraining ∨ (s.port p).state = .draining) then some (s.port p).active.rate else none := by
  unfold State.clockRate
  simp only [Bool.and_eq_true, Bool.not_eq_true', PortState.clocked_iff]

end

/-- Settles O45. -/
theorem portPhasesFollowEachOther : Obligations.PortPhasesFollowEachOther := by
  refine ⟨fun s p n hr hphase hquiet => ?_, fun s p hr hst => ⟨exec_stopClockExpiry hr hst, exec_dischargeExpiry hr hst⟩,
    fun s p n hr hquiet => ⟨fun hst hphase htxn => ?_, fun hphase => ?_⟩, State.clockRate_eq⟩
  · have hrunning : (s.port p).phase.isSome = true := by rw [hphase]; rfl
    refine ⟨fun hst => exec_powerSettleExpiry hr hst hrunning, fun hst => ?_, fun hst hfirst => ?_, fun hst hlater => ?_⟩
    · exact (exec_clockSettleExpiry hr hst hrunning).trans
        (congrArg (fun q => Host.Outcome.next (s.setPort p q)) (Port.attempt_of_quiet_none hquiet))
    · rw [exec_retrainSettleExpiry hr hst hfirst hrunning, Port.attempt_of_quiet_none hquiet, hfirst]
    · rw [exec_identifySpacingExpiry hr hst hlater hrunning, Port.attempt_of_quiet_none hquiet]
  · rw [exec_quietPeriodEnd hr hquiet, if_pos (Port.attemptDue_of (q := { s.port p with quiet := none }) hst hphase htxn),
      Port.attempt_of_quiet_none rfl, ← hphase]
  · rw [exec_quietPeriodEnd hr hquiet, Port.attemptDue_of_phase (q := { s.port p with quiet := none }) hphase]
    rfl

/-! ## A port with nobody at it -/

section
variable {s : State} {p : Fin 8}

theorem Port.downActs_of_nobody {q : Port} (hh : q.holder = none) (hw : q.waiters = []) : q.downActs = [] := by
  unfold Port.downActs
  simp [hh, hw]

theorem Port.copyIfPending_of_not {q : Port} (h : q.commitPending = false) : q.copyIfPending = q := by
  unfold Port.copyIfPending
  simp [h]

theorem State.grantHead_nil (hw : (s.port p).waiters = []) : s.grantHead p = (s, []) := by
  unfold State.grantHead
  dsimp only
  rw [hw]

/-- The release of a grant that nobody waits for (R129). -/
theorem State.releaseGrant_quiet (hw : (s.port p).waiters = [])
    (hc : (s.port p).commitPending = false) :
    s.releaseGrant p = (s.setPort p { s.port p with holder := none }, []) := by
  have hcopy := Port.copyIfPending_of_not (q := { s.port p with holder := none }) hc
  have hnobody : (s.setPort p { s.port p with holder := none }).grantHead p = (s.setPort p { s.port p with holder := none }, []) :=
    State.grantHead_nil (by rw [State.setPort_self]; exact hw)
  unfold State.releaseGrant
  dsimp only at hcopy hnobody ⊢
  split
  · rw [hcopy]
    dsimp only
    split
    · exact hnobody
    · rfl
  · rfl

/-- A fault with nobody at the port (R108). -/
theorem State.portFault_of_nobody (cause : FaultCause) (hh : (s.port p).holder = none) (hw : (s.port p).waiters = [])
    (hc : (s.port p).commitPending = false) :
    s.portFault p cause = (s.setPort p ((s.port p).enterFault cause).vacate, [.portNotice p]) := by
  unfold State.portFault
  dsimp only
  rw [Port.downActs_of_nobody hh hw,
    Port.copyIfPending_of_not (q := ((s.port p).enterFault cause).vacate) hc]
  rfl

theorem act_portNotice (s : State) (p : Fin 8) : act (.portNotice p) s = .just (s.postPortState p) := rfl

/-- A fault with nobody at the port, and its notice (R108, R114). -/
theorem event_portFault (cause : FaultCause) (hh : (s.port p).holder = none) (hw : (s.port p).waiters = [])
    (hc : (s.port p).commitPending = false) :
    event (s.portFault p cause) = (s.setPort p { s.port p with
      state := .fault, supply := false, phase := none, attempts := 0, faultCause := some cause
      txn := none, quiet := none, access := none }).post .portState (byte p) 0#32
        (0x08#8 ++ faultCode (some cause)) := by
  have hport : ((s.port p).enterFault cause).vacate = { s.port p with
      state := .fault, supply := false, phase := none, attempts := 0, faultCause := some cause
      txn := none, quiet := none, access := none } := by
    rw [Port.vacate, Port.enterFault, ← hh, ← hw]
  rw [State.portFault_of_nobody cause hh hw hc, event_eq (.just rfl (act_portNotice ..)), hport,
    State.postPortState_setPort]
  rfl

end

/-! ## A transaction ends -/

theorem exec_probeResponse {s : State} {p : Fin 8} {word : Word} (hr : s.inReset = false) (hmsb : word.msb = true) :
    exec (.probeResponse p word false) s = .next (event (s.txnEnd p (judge word) (responseData word))) := by
  refine congrArg Host.Outcome.next ((awake_eq hr).trans ?_)
  simp [probeResponse, hmsb]

theorem exec_responseTimeout {s : State} {p : Fin 8} (hr : s.inReset = false) :
    exec (.responseTimeout p) s = .next (event (s.txnEnd p .silent 0#24)) :=
  congrArg Host.Outcome.next (awake_eq hr)

/-- The port when its ordinary transaction has ended, the outcome counted in its tally (R111). -/
def Port.spent (q : Port) (o : TxnOutcome) : Port := Port.tallied { q with txn := none } o

theorem Port.spent_of_heard {q : Port} {o : TxnOutcome} (h : o ≠ .silent) :
    q.spent o = { q with txn := none, tally := 0 } := by
  simp [Port.spent, Port.tallied, h]

theorem Port.spent_silent {q : Port} (h : q.tally < 255) :
    q.spent .silent = { q with txn := none, tally := q.tally + 1 } := by
  have hmin : min (q.tally + 1) Config.maxTally = q.tally + 1 := Nat.min_eq_left h
  simp only [Port.spent, Port.tallied, if_true, hmin]

section
variable {s : State} {p : Fin 8} {t : Transaction} {o : TxnOutcome} {v : Value}

/-- The outcome of the port's own IDENTIFY transaction (R101, R103). -/
theorem State.txnEnd_identify (ht : (s.port p).txn = some t) (hreq : t.requester = none) :
    s.txnEnd p o v = (s.setPort p { s.port p with txn := none }).identifyEnd p o v := by
  unfold State.txnEnd
  simp only [ht, hreq]

/-- The outcome of an engine's transaction, by the state of the port (R105, R111, R112, R123). -/
theorem State.txnEnd_of_engine {e : Fin 4} (ht : (s.port p).txn = some t) (hreq : t.requester = some (.engine e)) :
    s.txnEnd p o v =
      if ((s.port p).spent o).state = .draining then (s.setPort p ((s.port p).spent o)).drained p
      else if ((s.port p).spent o).state = .up ∧ o = .silent ∧ ((s.port p).spent o).silenceReached then
        (s.setPort p ((s.port p).spent o)).silenceFault p (.engine e)
      else (s.setPort p ((s.port p).spent o)).engineOutcome e o v := by
  unfold State.txnEnd
  simp only [ht, hreq]
  rfl

/-- The outcome of a host access's transaction (R105, R111, R112, R123, R136). -/
theorem State.txnEnd_of_host (ht : (s.port p).txn = some t) (hreq : t.requester = some .host) :
    s.txnEnd p o v =
      if ((s.port p).spent o).state = .draining then (s.setPort p ((s.port p).spent o)).drained p
      else if ((s.port p).spent o).state = .up ∧ o = .silent ∧ ((s.port p).spent o).silenceReached then
        (s.setPort p ((s.port p).spent o)).silenceFault p .host
      else ((s.setPort p ((s.port p).spent o)).hostOutcome p o v, [.releasePort p]) := by
  unfold State.txnEnd
  simp only [ht, hreq]
  rfl

theorem Port.spent_state (q : Port) (o : TxnOutcome) : (q.spent o).state = q.state := rfl

/-- An outcome that the silence limit does not stop. -/
theorem not_silenceFault {q : Port} (h : o ≠ .silent ∨ (q.spent o).silenceReached = false) :
    ¬ ((q.spent o).state = .up ∧ o = .silent ∧ (q.spent o).silenceReached = true) := by
  rintro ⟨-, hsilent, hreached⟩
  rcases h with h | h
  · exact h hsilent
  · exact Bool.false_ne_true (h.symm.trans hreached)

theorem State.txnEnd_engine {e : Fin 4} (ht : (s.port p).txn = some t) (hreq : t.requester = some (.engine e))
    (hst : (s.port p).state = .up) (hlimit : o ≠ .silent ∨ ((s.port p).spent o).silenceReached = false) :
    s.txnEnd p o v = (s.setPort p ((s.port p).spent o)).engineOutcome e o v := by
  rw [State.txnEnd_of_engine ht hreq, if_neg (by rw [Port.spent_state, hst]; decide), if_neg (not_silenceFault hlimit)]

theorem State.txnEnd_host (ht : (s.port p).txn = some t) (hreq : t.requester = some .host)
    (hst : (s.port p).state = .up) (hlimit : o ≠ .silent ∨ ((s.port p).spent o).silenceReached = false) :
    s.txnEnd p o v = ((s.setPort p ((s.port p).spent o)).hostOutcome p o v, [.releasePort p]) := by
  rw [State.txnEnd_of_host ht hreq, if_neg (by rw [Port.spent_state, hst]; decide), if_neg (not_silenceFault hlimit)]

/-- A SILENT outcome of a host access that reaches the silence limit (R112). -/
theorem State.txnEnd_silenced (ht : (s.port p).txn = some t) (hreq : t.requester = some .host)
    (hst : (s.port p).state = .up) (hlimit : ((s.port p).spent .silent).silenceReached = true) :
    s.txnEnd p .silent v = (s.setPort p ((s.port p).spent .silent)).silenceFault p .host := by
  rw [State.txnEnd_of_host ht hreq, if_neg (by rw [Port.spent_state, hst]; decide), if_pos ⟨hst, rfl, hlimit⟩]

/-- An outcome that ends a drain (R105). -/
theorem State.txnEnd_draining (ht : (s.port p).txn = some t) (hreq : t.requester.isSome = true)
    (hst : (s.port p).state = .draining) : s.txnEnd p o v = (s.setPort p ((s.port p).spent o)).drained p := by
  obtain ⟨who, hwho⟩ := Option.isSome_iff_exists.mp hreq
  cases who with
  | engine e => exact (State.txnEnd_of_engine ht hwho).trans (if_pos hst)
  | host => exact (State.txnEnd_of_host ht hwho).trans (if_pos hst)

end

/-! ## Identification -/

/-- The identity in a response word (R208, R209). -/
theorem identityOf_responseData (w : Word) : identityOf (responseData w) =
    ⟨w.extractLsb' 17 12, (w.extractLsb' 13 4).toNat + 1, w.getLsbD 12, w.getLsbD 11⟩ := by
  have hmodel : (responseData w).extractLsb' 12 12 = w.extractLsb' 17 12 := by
    refine BitVec.eq_of_getLsbD_eq fun i hi => ?_
    simp only [responseData, BitVec.getLsbD_extractLsb', hi, show 12 + i < 24 by omega, decide_true, Bool.true_and]
    congr 1
    omega
  have hsub : (responseData w).extractLsb' 8 4 = w.extractLsb' 13 4 := by
    refine BitVec.eq_of_getLsbD_eq fun i hi => ?_
    simp only [responseData, BitVec.getLsbD_extractLsb', hi, show 8 + i < 24 by omega, decide_true, Bool.true_and]
    congr 1
    omega
  rw [identityOf, hmodel, hsub]
  simp [responseData]

section
variable {s : State} {p : Fin 8} {t : Transaction} {v : Value}

/-- UP with an identity, and its notice (R101, R103, R114). -/
theorem postPortState_enterUp {q : Port} (d : Identity) (hfault : q.faultCause = none) :
    (s.setPort p (q.enterUp d)).postPortState p =
      (s.setPort p { q with state := .up, identity := some d, attempts := 0, phase := none }).post
        .portState (byte p) 0#32 0x0400#16 := by
  have hcodes : pair PortState.up.code (faultCode q.faultCause) = 0x0400#16 := by
    rw [hfault]
    decide
  rw [State.postPortState_setPort]
  exact congrArg (State.post _ _ _ _) hcodes

theorem State.identifyEnd_data (hst : (s.port p).state = .identifying) : s.identifyEnd p .data v =
    ((s.setPort p ((s.port p).enterUp (identityOf v))).postPortState p, []) := by
  unfold State.identifyEnd
  simp only [hst]

/-- R103: the same model code. -/
theorem State.identifyEnd_same {old : Identity} (hst : (s.port p).state = .retraining)
    (hold : (s.port p).identity = some old) (hmodel : old.model = (identityOf v).model) :
    s.identifyEnd p .data v = ((s.setPort p ((s.port p).enterUp (identityOf v))).postPortState p).grantHead p := by
  have hsame : ((s.port p).identity.any fun d => d.model == (identityOf v).model) = true := by simp [hold, hmodel]
  unfold State.identifyEnd
  simp only [hst, hsame, if_true]

/-- R103: another model code. -/
theorem State.identifyEnd_other {old : Identity} (hst : (s.port p).state = .retraining)
    (hold : (s.port p).identity = some old) (hmodel : old.model ≠ (identityOf v).model) :
    s.identifyEnd p .data v = s.portFault p .identityChanged := by
  have hother : ((s.port p).identity.any fun d => d.model == (identityOf v).model) = false := by simp [hold, hmodel]
  unfold State.identifyEnd
  simp only [hst, hother]
  rfl

theorem State.identifyEnd_silent (hst : (s.port p).state = .identifying ∨ (s.port p).state = .retraining) :
    s.identifyEnd p .silent v = s.identifyFailed p := by
  unfold State.identifyEnd
  rcases hst with h | h <;> simp only [h]

theorem State.identifyFailed_retry (h : (s.port p).attempts < 3) :
    s.identifyFailed p = (s.setPort p { s.port p with phase := some ((s.port p).active.spacing * 10) }, []) := if_pos h

theorem State.identifyFailed_last (h : 3 ≤ (s.port p).attempts) : s.identifyFailed p = s.portFault p .noIdentity :=
  if_neg (Nat.not_lt.mpr h)

end

/-- Settles O46: the outcome finds the port without its transaction, and by its state and attempts brings it UP,
spaces it or faults it. -/
theorem identifyOutcomesBringUpOrFault : Obligations.IdentifyOutcomesBringUpOrFault := by
  refine ⟨fun s p word t hr hfault hholder hwaiters hpending ht hreq hmsb hjudge => ?_,
    fun s p t hr hholder hwaiters hpending ht hreq hst => ?_⟩
  · rw [exec_probeResponse hr hmsb, hjudge, State.txnEnd_identify ht hreq, ← identityOf_responseData]
    have hport : (s.setPort p { s.port p with txn := none }).port p = { s.port p with txn := none } := s.setPort_self ..
    refine ⟨fun hst => ?_, fun old hst hold hmodel => ?_, fun old hst hold hmodel => ?_⟩
    · rw [State.identifyEnd_data (by rw [hport]; exact hst), event_nil, hport, State.setPort_twice]
      exact congrArg Host.Outcome.next (postPortState_enterUp (q := { s.port p with txn := none }) _ hfault)
    · rw [State.identifyEnd_same (by rw [hport]; exact hst) (by rw [hport]; exact hold) hmodel, hport,
        State.setPort_twice, State.grantHead_nil, event_nil]
      · exact congrArg Host.Outcome.next (postPortState_enterUp (q := { s.port p with txn := none }) _ hfault)
      · unfold State.postPortState
        rw [State.post_get_port, State.setPort_self]
        exact hwaiters
    · rw [State.identifyEnd_other (by rw [hport]; exact hst) (by rw [hport]; exact hold) hmodel,
        event_portFault _ (by rw [hport]; exact hholder) (by rw [hport]; exact hwaiters) (by rw [hport]; exact hpending),
        hport, State.setPort_twice]
      rfl
  · rw [exec_responseTimeout hr, State.txnEnd_identify ht hreq]
    have hport : (s.setPort p { s.port p with txn := none }).port p = { s.port p with txn := none } := s.setPort_self ..
    rw [State.identifyEnd_silent (by rw [hport]; exact hst)]
    refine ⟨fun hfew => ?_, fun hlast => ?_⟩
    · rw [State.identifyFailed_retry (by rw [hport]; exact hfew), event_nil, hport, State.setPort_twice]
    · rw [State.identifyFailed_last (by rw [hport]; exact hlast),
        event_portFault _ (by rw [hport]; exact hholder) (by rw [hport]; exact hwaiters) (by rw [hport]; exact hpending),
        hport, State.setPort_twice]
      rfl

/-! ## Releases -/

section
variable {s : State} {p : Fin 8}

theorem does_releasePort_quiet (hw : (s.port p).waiters = []) (hc : (s.port p).commitPending = false) :
    Does [.releasePort p] s (s.setPort p { s.port p with holder := none }) [] 1 0 :=
  .andThen rfl (congrArg Eff.andThen (State.releaseGrant_quiet hw hc)) (.nil _)

/-- The release of the grant that the engine holds, which nobody waits for (R129). -/
theorem does_release_quiet {e : Fin 4} (hheld : s.heldPort e = some p) (hw : (s.port p).waiters = [])
    (hc : (s.port p).commitPending = false) :
    Does [.release e] s (s.setPort p { s.port p with holder := none }) [] 1 0 :=
  .andThen rfl ((act_release_of_some hheld).trans (congrArg Eff.andThen (State.releaseGrant_quiet hw hc))) (.nil _)

theorem does_release_none {e : Fin 4} (h : s.heldPort e = none) : Does [.release e] s s [] 1 0 :=
  .just rfl (act_release_of_none h)

/-- The port once its grant is released. -/
def Port.freed (q : Port) : Port := { q with holder := none }

/-- A release that completes a pending commit: the port goes on with what the copy made of it (R129, R144). -/
theorem State.releaseGrant_pending (hst : (s.port p).state = .up) (hc : (s.port p).commitPending = true) :
    s.releaseGrant p = if (s.port p).freed.copy.state = .up then (s.setPort p (s.port p).freed.copy).grantHead p
      else (s.setPort p (s.port p).freed.copy, []) := by
  have hcopy : (s.port p).freed.copyIfPending = (s.port p).freed.copy := if_pos hc
  have hrelease : s.releaseGrant p = if (s.port p).freed.copyIfPending.state = .up then
      (s.setPort p (s.port p).freed.copyIfPending).grantHead p else (s.setPort p (s.port p).freed.copyIfPending, []) := by
    unfold State.releaseGrant
    dsimp only
    split
    · change (match (s.port p).freed.copyIfPending.state with | .up => _ | _ => _) = _
      split
      · next hup => exact (if_pos hup).symm
      · next hup => exact (if_neg hup).symm
    · next hup => exact absurd hst hup
  rw [hrelease, hcopy]

end

/-! ## Ordinary transactions -/

/-- The function that a port function has on the probe line (R121). -/
def PortFn.line : PortFn → TxFn
  | .read => .read
  | .write _ => .write
  | .control => .control

/-- The data its request word carries (R121). -/
def PortFn.operand : PortFn → Value
  | .write v => v
  | .read | .control => 0#24

/-- The transaction that a port starts for a grant holder (R71, R121, R136). -/
def Port.ordinary (q : Port) (who : Requester) (fn : PortFn) (sub : Fin 16) : Transaction :=
  ⟨some who, fn.line, sub, fn.operand, q.active.timeout * 10, q.active.rate.wordTime, q.active.timeout * 10⟩

theorem Port.startOrdinary_eq (q : Port) (who : Requester) (fn : PortFn) (sub : Fin 16) :
    q.startOrdinary who fn sub = { q with txn := some (q.ordinary who fn sub) } := by
  cases fn <;> rfl

theorem Port.subCount_of_some {q : Port} {d : Identity} (h : q.identity = some d) : q.subCount = d.subCount := by
  unfold Port.subCount
  simp [h]

/-! ## Host accesses -/

section
variable {s : State} {p : Fin 8} {a : HostAccess} {o : TxnOutcome} {v : Value}

theorem State.hostGranted_of_lt {d : Identity} (ha : (s.port p).access = some a) (hid : (s.port p).identity = some d)
    (hsub : (a.sub : Nat) < d.subCount) :
    s.hostGranted p = (s.setPort p { s.port p with
      access := some { a with waitLeft := none }, txn := some ((s.port p).ordinary .host a.fn a.sub) }, []) := by
  have hserved : ¬ (s.port p).subCount ≤ a.sub := by
    rw [Port.subCount_of_some hid]
    exact Nat.not_le.mpr hsub
  unfold State.hostGranted
  simp only [ha, hserved, if_false, Port.startOrdinary_eq]
  rfl

/-- The reply of a host access whose transaction has ended (R136). -/
theorem State.hostOutcome_eq (h : (s.port p).access = some a) :
    s.hostOutcome p o v = (s.setPort p { s.port p with access := none }).placeReply a.tag 0x42#8
      (0x00#8 :: o.code :: bytesBE 6 s.timeBase.toNat
        ++ bytesBE 3 (if o = .data then ((s.port p).shape v).toNat else 0)) := by
  unfold State.hostOutcome
  dsimp only
  rw [h]
  rfl

/-- The port that a reply stands beside is still the one it was set to. -/
theorem State.setPort_placeReply_setPort (s : State) (p : Fin 8) (x y : Port) (tag kind : Byte) (body : List Byte) :
    ((s.setPort p x).placeReply tag kind body).setPort p y = (s.setPort p y).placeReply tag kind body :=
  congrArg (fun u : State => u.placeReply tag kind body) (s.setPort_twice p x y)

/-- The reply and the release of the grant, which nobody waits for (R129, R136). -/
theorem event_hostOutcome (ha : (s.port p).access = some a) (hw : (s.port p).waiters = [])
    (hc : (s.port p).commitPending = false) :
    event (s.hostOutcome p o v, [.releasePort p]) =
      (s.setPort p { s.port p with access := none, holder := none }).placeReply a.tag 0x42#8
        (0x00#8 :: o.code :: bytesBE 6 s.timeBase.toNat
          ++ bytesBE 3 (if o = .data then ((s.port p).shape v).toNat else 0)) := by
  have hport : (s.hostOutcome p o v).port p = { s.port p with access := none } := by
    rw [State.hostOutcome_eq ha]
    exact s.setPort_self ..
  have hrelease : Does [.releasePort p] (s.hostOutcome p o v) _ [] 1 0 :=
    does_releasePort_quiet (by rw [hport]; exact hw) (by rw [hport]; exact hc)
  rw [event_eq hrelease, hport, State.hostOutcome_eq ha, State.setPort_placeReply_setPort]

/-- A waiting host access leaves its wait list with its reply (R132). -/
theorem State.endWaiting_of_some (st : Status) (h : (s.port p).access = some a) (hw : a.waitLeft.isSome = true) :
    s.endWaiting p st = (s.setPort p { s.port p with
      access := none, waiters := (s.port p).waiters.filter fun w => w.who != .host }).placeReply a.tag 0x42#8
        [st.code, 0x00#8] := by
  have hwaiting : (s.port p).waitingAccess = some a := by simp [Port.waitingAccess, h, hw]
  unfold State.endWaiting
  rw [hwaiting]
  rfl

theorem State.endWaiting_of_none (st : Status) (h : ∀ a, (s.port p).access = some a → a.waitLeft = none) :
    s.endWaiting p st = s := by
  have hwaiting : (s.port p).waitingAccess = none := by
    rw [Port.waitingAccess, Option.filter_eq_none_iff]
    intro a ha
    simp [h a ha]
  unfold State.endWaiting
  rw [hwaiting]

end

/-! ## PROBE-ACCESS -/

section
variable {s : State} {p : Fin 8} {tag port function subAddress : Byte} {value : Value} {fn : PortFn} {sub : Fin 16}

theorem portFn?_of_gt (h : 2 < function.toNat) : portFn? function value = none := by
  unfold portFn?
  split
  · omega
  · omega
  · omega
  · rfl

theorem exec_probeAccess_refused {st : Status} (ha : s.Accepts tag) (hp : port.toNat = p)
    (hf : portFn? function value = some fn) (hs : subAddress.toNat = sub) (hcheck : s.checkAccess p sub = some st) :
    exec (.probeAccess tag port function subAddress value) s = .next (s.answered tag 0x42#8 [st.code, 0x00#8]) := by
  have hcheck' : (s.admitted tag 0x42#8).checkAccess p sub = some st := hcheck
  refine congrArg Host.Outcome.next (ha.receive_not st 0x00#8 rfl ?_)
  simp only [ownProbeAccess, number?_of_eq hp, hf, number?_of_eq hs, hcheck']

theorem exec_probeAccess_passed (ha : s.Accepts tag) (hp : port.toNat = p)
    (hf : portFn? function value = some fn) (hs : subAddress.toNat = sub) (hcheck : s.checkAccess p sub = none) :
    exec (.probeAccess tag port function subAddress value) s =
      .next ((s.kept tag 0x42#8).requestHostGrant p ⟨tag, fn, sub, none⟩) := by
  have hcheck' : (s.admitted tag 0x42#8).checkAccess p sub = none := hcheck
  refine congrArg Host.Outcome.next ((ha.receive_eq rfl).trans ?_)
  simp only [ownProbeAccess, number?_of_eq hp, hf, number?_of_eq hs, hcheck']
  rfl

theorem exec_probeAccess_outOfRange (ha : s.Accepts tag)
    (h : 8 ≤ port.toNat ∨ 2 < function.toNat ∨ 16 ≤ subAddress.toNat) :
    exec (.probeAccess tag port function subAddress value) s = .next (s.answered tag 0x42#8 [0x10#8, 0x00#8]) := by
  refine congrArg Host.Outcome.next (ha.receive_not .badValue 0x00#8 rfl ?_)
  unfold ownProbeAccess
  split
  · next p fn sub hport hfn hsub =>
    rcases h with h | h | h
    · exact nomatch (number?_of_le h).symm.trans hport
    · exact nomatch (portFn?_of_gt h).symm.trans hfn
    · exact nomatch (number?_of_le h).symm.trans hsub
  · rfl

theorem checkAccess_portDown (h : (s.port p).state ≠ .up ∧ (s.port p).state ≠ .retraining) :
    s.checkAccess p sub = some .portDown := if_pos h

theorem checkAccess_portBusy (h : (s.port p).state = .up ∨ (s.port p).state = .retraining)
    (hb : (s.port p).access.isSome = true) : s.checkAccess p sub = some .portBusy :=
  (if_neg (by tauto)).trans (if_pos hb)

/-- Check 4 of R134, once the port is up and has no access. -/
theorem checkAccess_free {d : Identity} (h : (s.port p).state = .up ∨ (s.port p).state = .retraining)
    (hb : (s.port p).access = none) (hid : (s.port p).identity = some d) :
    s.checkAccess p sub = if d.subCount ≤ sub then some .subaddrAbsent else none := by
  rw [← Port.subCount_of_some hid]
  exact (if_neg (by tauto)).trans (if_neg (by simp [hb]))

theorem Port.answer_free {q : Port} (hst : q.state = .up) (hh : q.holder = none) : q.answer = .granted := by
  unfold Port.answer
  simp [hst, hh]

theorem Port.answer_wait {q : Port} (h : (q.state = .up ∧ q.holder.isSome = true) ∨ q.state = .retraining) :
    q.answer = .wait := by
  obtain ⟨hst, hh⟩ | hst := h
  · obtain ⟨who, hwho⟩ := Option.isSome_iff_exists.mp hh
    unfold Port.answer
    simp [hst, hwho]
  · unfold Port.answer
    simp [hst]

theorem Port.answer_down {q : Port} (hup : q.state ≠ .up) (hre : q.state ≠ .retraining) : q.answer = .portDown := by
  unfold Port.answer
  split
  · contradiction
  · contradiction
  all_goals rfl

/-- A free UP port grants the host access, and its transaction starts (R127, R136). -/
theorem requestHostGrant_free {a : HostAccess} {d : Identity} (hst : (s.port p).state = .up)
    (hh : (s.port p).holder = none) (hid : (s.port p).identity = some d) (hsub : (a.sub : Nat) < d.subCount)
    (hnew : a.waitLeft = none) :
    s.requestHostGrant p a = s.setPort p { s.port p with
      holder := some .host, access := some a, txn := some ((s.port p).ordinary .host a.fn a.sub) } := by
  have hport : (s.setPort p { s.port p with holder := some .host, access := some a }).port p
      = { s.port p with holder := some .host, access := some a } := s.setPort_self ..
  have hgranted : Does [.hostGranted p] (s.setPort p { s.port p with holder := some .host, access := some a }) _ [] 1 0 :=
    .andThen rfl (congrArg Eff.andThen (State.hostGranted_of_lt (a := a) (d := d) (by rw [hport]) (by rw [hport]; exact hid)
      hsub)) (.nil _)
  unfold State.requestHostGrant
  dsimp only
  rw [Port.answer_free hst hh]
  refine (event_eq hgranted).trans ?_
  rw [hport, State.setPort_twice]
  have ha : { a with waitLeft := none } = a := by rw [← hnew]
  exact congrArg (fun x => s.setPort p { s.port p with
    holder := some .host, access := some x, txn := some ((s.port p).ordinary .host a.fn a.sub) }) ha

/-- Behind a holder or through a retrain the access waits at most 100 ms (R127, R135). -/
theorem requestHostGrant_waits {a : HostAccess}
    (h : ((s.port p).state = .up ∧ (s.port p).holder.isSome = true) ∨ (s.port p).state = .retraining) :
    s.requestHostGrant p a = s.setPort p { s.port p with
      access := some { a with waitLeft := some 100000 }, waiters := joinWaiters ⟨.host, 4⟩ (s.port p).waiters } := by
  unfold State.requestHostGrant
  dsimp only
  rw [Port.answer_wait h]
  rfl

end

/-- Settles O50. -/
theorem probeAccessByItsChecks : Obligations.ProbeAccessByItsChecks := by
  refine ⟨fun s tag port function subAddress value p sub fn ha hp hs hfn => ?_,
    fun s tag port function subAddress value ha h => exec_probeAccess_outOfRange ha h⟩
  have hf : portFn? function value = some fn := by
    rcases hfn with ⟨rfl, rfl⟩ | ⟨rfl, rfl⟩ | ⟨rfl, rfl⟩ <;> rfl
  refine ⟨fun hst => exec_probeAccess_refused ha hp hf hs (checkAccess_portDown hst),
    fun hst hbusy => exec_probeAccess_refused ha hp hf hs (checkAccess_portBusy hst hbusy),
    fun d hst hfree hid => ⟨fun hsub => ?_, fun hsub hup hh => ?_, fun hsub hwait => ?_⟩⟩
  · exact exec_probeAccess_refused ha hp hf hs ((checkAccess_free hst hfree hid).trans (if_pos hsub))
  · rw [exec_probeAccess_passed ha hp hf hs ((checkAccess_free hst hfree hid).trans (if_neg (by omega))),
      requestHostGrant_free (s := s.kept tag 0x42#8) hup hh hid hsub rfl]
    cases fn <;> rfl
  · have hheld : ((s.port p).state = .up ∧ (s.port p).holder.isSome = true) ∨ (s.port p).state = .retraining := by tauto
    rw [exec_probeAccess_passed ha hp hf hs ((checkAccess_free hst hfree hid).trans (if_neg (by omega))),
      requestHostGrant_waits (s := s.kept tag 0x42#8) hheld]
    rfl

/-! ## The end of a host access -/

section
variable {s : State} {p : Fin 8} {a : HostAccess} {t : Transaction} {o : TxnOutcome} {v : Value}

/-- A host access whose transaction ends at an UP port, below the silence limit: its reply, and the grant released
(R111, R123, R129, R136). -/
theorem event_txnEnd_host (hst : (s.port p).state = .up) (hw : (s.port p).waiters = [])
    (hc : (s.port p).commitPending = false) (ha : (s.port p).access = some a) (ht : (s.port p).txn = some t)
    (hreq : t.requester = some .host) (hlimit : o ≠ .silent ∨ ((s.port p).spent o).silenceReached = false) :
    event (s.txnEnd p o v) = (s.setPort p { (s.port p).spent o with access := none, holder := none }).placeReply a.tag
      0x42#8 (0x00#8 :: o.code :: bytesBE 6 s.timeBase.toNat
        ++ bytesBE 3 (if o = .data then ((s.port p).shape v).toNat else 0)) := by
  have hport : (s.setPort p ((s.port p).spent o)).port p = (s.port p).spent o := s.setPort_self ..
  rw [State.txnEnd_host ht hreq hst hlimit,
    event_hostOutcome (a := a) (by rw [hport]; exact ha) (by rw [hport]; exact hw) (by rw [hport]; exact hc), hport,
    State.setPort_twice]
  rfl

theorem Port.spent_silenceReached {q : Port} (h : q.tally < 255) : (q.spent .silent).silenceReached = true ↔
    0 < q.active.silenceLimit ∧ q.active.silenceLimit ≤ q.tally + 1 := by
  rw [Port.spent_silent h]
  unfold Port.silenceReached
  simp []

/-- A response timeout of a host access that reaches the silence limit: its reply, then the fault (R112). -/
theorem event_txnEnd_silenced (hst : (s.port p).state = .up) (hw : (s.port p).waiters = [])
    (hc : (s.port p).commitPending = false) (ha : (s.port p).access = some a) (ht : (s.port p).txn = some t)
    (hreq : t.requester = some .host) (hlimit : ((s.port p).spent .silent).silenceReached = true) :
    event (s.txnEnd p .silent v) = ((s.setPort p { (s.port p).spent .silent with
      access := none, holder := none, state := .fault, supply := false, phase := none, attempts := 0, txn := none
      quiet := none, faultCause := some .silent }).placeReply a.tag 0x42#8 (0x00#8 :: 0x03#8 ::
        bytesBE 6 s.timeBase.toNat ++ [0x00#8, 0x00#8, 0x00#8])).post .portState (byte p) 0#32 0x0803#16 := by
  have hport : (s.setPort p ((s.port p).spent .silent)).port p = (s.port p).spent .silent := s.setPort_self ..
  have hanswered := State.hostOutcome_eq (s := s.setPort p ((s.port p).spent .silent)) (p := p) (a := a) (o := .silent)
    (v := 0#24) (by rw [hport]; exact ha)
  rw [hport, State.setPort_twice] at hanswered
  rw [State.txnEnd_silenced ht hreq hst hlimit]
  unfold State.silenceFault
  dsimp only
  rw [hanswered]
  have hfreed : ((s.setPort p { (s.port p).spent .silent with access := none }).placeReply a.tag 0x42#8
      (0x00#8 :: TxnOutcome.silent.code :: bytesBE 6 (s.setPort p ((s.port p).spent .silent)).timeBase.toNat
        ++ bytesBE 3 (if TxnOutcome.silent = .data then (((s.port p).spent .silent).shape 0#24).toNat else 0))).port p
      = { (s.port p).spent .silent with access := none } := s.setPort_self ..
  rw [hfreed, State.setPort_placeReply_setPort]
  have hlast : ∀ x body, ((s.setPort p x).placeReply a.tag 0x42#8 body).port p = x := fun x _ => s.setPort_self p x
  have hcodes : 0x08#8 ++ faultCode (some FaultCause.silent) = 0x0803#16 := by decide
  have hvalue : ¬ TxnOutcome.silent = TxnOutcome.data := nofun
  rw [event_portFault _ (by rw [hlast]) (by rw [hlast]; exact hw) (by rw [hlast]; exact hc), hlast,
    State.setPort_placeReply_setPort, hcodes, if_neg hvalue]
  rfl

end

/-- Settles O51. -/
theorem hostAccessesAreAnswered : Obligations.HostAccessesAreAnswered := by
  refine ⟨fun s p word t a o hr hst hholder hw hc ha ht hreq hmsb hjudge hheard => ?_,
    fun s p t a hr hst hholder hw hc ha ht hreq htally => ⟨fun hbelow => ?_, fun hpos hreached => ?_⟩,
    fun s p a hr ha hwait => ?_⟩
  · rw [exec_probeResponse hr hmsb, hjudge, event_txnEnd_host hst hw hc ha ht hreq (.inl hheard),
      Port.spent_of_heard hheard]
    cases o <;> rfl
  · have hlimit : ((s.port p).spent .silent).silenceReached = false := by
      rw [← Bool.not_eq_true, Port.spent_silenceReached htally]
      omega
    rw [exec_responseTimeout hr, event_txnEnd_host hst hw hc ha ht hreq (.inr hlimit), Port.spent_silent htally,
      if_neg (show ¬ TxnOutcome.silent = TxnOutcome.data from nofun)]
    rfl
  · have hlimit := (Port.spent_silenceReached htally).mpr ⟨hpos, hreached⟩
    rw [exec_responseTimeout hr, event_txnEnd_silenced hst hw hc ha ht hreq hlimit, Port.spent_silent htally]
  · exact congrArg Host.Outcome.next ((awake_eq hr).trans (State.endWaiting_of_some .portBusy ha hwait))

/-! ## COMMIT-PROFILE and the profile copy -/

section
variable {s : State} {p : Fin 8} {tag port : Byte}

theorem exec_commitProfile_pending (ha : s.Accepts tag) (hp : port.toNat = p) (hh : (s.port p).holder.isSome = true) :
    exec (.commitProfile tag port) s = .next ((s.setPort p { s.port p with commitPending := true }).answered
      tag 0x49#8 [0x00#8, 0x01#8, (s.port p).state.code]) := by
  refine congrArg Host.Outcome.next (ha.receive_answered rfl rfl ?_)
  have hheld : ¬ (s.port p).holder.isNone = true := by
    rw [Option.isNone_iff_eq_none]
    exact Option.isSome_iff_ne_none.mp hh
  rw [ownCommitProfile, State.withPort_of_eq hp, State.admit_get_port, if_neg hheld]
  rfl

theorem exec_commitProfile_applied (ha : s.Accepts tag) (hp : port.toNat = p) (hh : (s.port p).holder = none) :
    exec (.commitProfile tag port) s = .next ((s.setPort p (s.port p).copy).answered tag 0x49#8
      [0x00#8, 0x00#8, (s.port p).copy.state.code]) := by
  refine congrArg Host.Outcome.next (ha.receive_answered rfl rfl ?_)
  rw [ownCommitProfile, State.withPort_of_eq hp, State.admit_get_port, if_pos (Option.isNone_iff_eq_none.mpr hh)]
  rfl

theorem Port.copy_of_same {q : Port} (h : q.staged.rate = q.active.rate) :
    q.copy = { q with active := q.staged, commitPending := false } := if_pos h

/-- The port with its staged profile active (R144). -/
def Port.copied (q : Port) : Port := { q with active := q.staged, commitPending := false }

theorem Port.copy_of_changed {q : Port} (h : q.staged.rate ≠ q.active.rate) : q.copy = q.copied.rateChanged := if_neg h

theorem Port.rateChanged_up {q : Port} (h : q.state = .up) : q.rateChanged = q.enterRetraining := by
  unfold Port.rateChanged
  simp only [h]

theorem Port.rateChanged_clocking {q : Port} (h : q.state = .clocking) :
    q.rateChanged = { q with phase := some 1000 } := by
  unfold Port.rateChanged
  simp only [h]
  rfl

theorem Port.rateChanged_identifying {q : Port} (h : q.state = .identifying) : q.rateChanged =
    { q.abandonQuiet with attempts := 0, state := .clocking, phase := some 1000 } := by
  unfold Port.rateChanged
  simp only [h]
  rfl

theorem Port.rateChanged_retraining {q : Port} (h : q.state = .retraining) : q.rateChanged =
    { q.abandonQuiet with attempts := 0, phase := some 1000 } := by
  unfold Port.rateChanged
  simp only [h]
  rfl

/-- A port without an identify sequence is left as it is (Table 7-3). -/
theorem Port.rateChanged_unmoved {q : Port}
    (h : q.state = .off ∨ q.state = .powering ∨ q.state = .stopping ∨ q.state = .fault) : q.rateChanged = q := by
  unfold Port.rateChanged
  rcases h with h | h | h | h <;> simp only [h]

/-- A host access whose transaction ends under a pending commit: its reply, the grant released, the profile copied; after
a change of rate the wait list is kept (R129, R144, R147). -/
theorem event_txnEnd_host_pending {a : HostAccess} {t : Transaction} {o : TxnOutcome} {v : Value}
    (hst : (s.port p).state = .up) (hc : (s.port p).commitPending = true) (ha : (s.port p).access = some a)
    (ht : (s.port p).txn = some t) (hreq : t.requester = some .host)
    (hlimit : o ≠ .silent ∨ ((s.port p).spent o).silenceReached = false) (q : Port)
    (hq : { (s.port p).spent o with access := none, holder := none }.copy = q)
    (hrest : q.state ≠ .up ∨ q.waiters = []) :
    event (s.txnEnd p o v) = (s.setPort p q).placeReply a.tag 0x42#8 (0x00#8 :: o.code :: bytesBE 6 s.timeBase.toNat
      ++ bytesBE 3 (if o = .data then ((s.port p).shape v).toNat else 0)) := by
  have hport : (s.setPort p ((s.port p).spent o)).port p = (s.port p).spent o := s.setPort_self ..
  have hanswered := State.hostOutcome_eq (s := s.setPort p ((s.port p).spent o)) (p := p) (a := a) (o := o) (v := v)
    (by rw [hport]; exact ha)
  rw [hport, State.setPort_twice] at hanswered
  rw [State.txnEnd_host ht hreq hst hlimit, hanswered]
  generalize hbody : (_ :: _ ++ _ : List Byte) = body
  have hafter : ((s.setPort p { (s.port p).spent o with access := none }).placeReply a.tag 0x42#8 body).port p
      = { (s.port p).spent o with access := none } := s.setPort_self ..
  have hcopied : (((s.setPort p { (s.port p).spent o with access := none }).placeReply a.tag 0x42#8 body).port p).freed.copy
      = q := by
    rw [hafter]
    exact hq
  have hrelease := State.releaseGrant_pending
    (s := (s.setPort p { (s.port p).spent o with access := none }).placeReply a.tag 0x42#8 body) (p := p)
    (by rw [hafter]; exact hst) (by rw [hafter]; exact hc)
  have hquiet : State.releaseGrant ((s.setPort p { (s.port p).spent o with access := none }).placeReply a.tag 0x42#8 body) p
      = ((s.setPort p q).placeReply a.tag 0x42#8 body, []) := by
    rw [hrelease, hcopied, State.setPort_placeReply_setPort]
    split
    · next hup =>
      refine State.grantHead_nil ?_
      rw [State.placeReply_get_port, State.setPort_self]
      exact hrest.resolve_left (not_not_intro hup)
    · rfl
  have hdoes : Does [.releasePort p] ((s.setPort p { (s.port p).spent o with access := none }).placeReply a.tag 0x42#8 body)
      _ [] 1 0 := .andThen rfl (congrArg Eff.andThen hquiet) (.nil _)
  rw [event_eq hdoes, ← hbody]
  rfl

end

/-- Settles O54. -/
theorem commitsCopyTheStagedProfile : Obligations.CommitsCopyTheStagedProfile := by
  refine ⟨fun s tag port p ha hp => ⟨fun hh => exec_commitProfile_pending ha hp hh, fun hh hrate => ?_,
      fun hh hrate hst => ?_⟩, fun s p hr hc hh hrate => ?_, fun s tag port p ha hp hh hrate => ?_,
    fun s p word t a hr hst hholder hc ha ht hreq hmsb hjudge => ?_⟩
  · rw [exec_commitProfile_applied ha hp hh, Port.copy_of_same hrate]
  · rw [exec_commitProfile_applied ha hp hh, Port.copy_of_changed hrate,
      Port.rateChanged_up (q := (s.port p).copied) hst]
    rfl
  · refine congrArg Host.Outcome.next ((awake_eq hr).trans ?_)
    rw [profileCopy, if_pos ⟨hc, Option.isNone_iff_eq_none.mpr hh⟩, Port.copy_of_same hrate]
  · have hquiet : (s.port p).copied.abandonQuiet =
        match (s.port p).txn with
        | none => { s.port p with active := (s.port p).staged, commitPending := false }
        | some t => { s.port p with
            active := (s.port p).staged, commitPending := false, txn := none, quiet := some (t.wordLeft + t.left) } := by
      cases ht : (s.port p).txn <;> simp only [Port.abandonQuiet, Port.copied, ht]
    have happlied := exec_commitProfile_applied ha hp hh
    rw [Port.copy_of_changed hrate] at happlied
    refine ⟨fun hst => ?_, fun hst => ?_, fun hst => ?_, fun hst => ?_⟩
    · rw [happlied, Port.rateChanged_unmoved (q := (s.port p).copied) hst]
      rfl
    · rw [happlied, Port.rateChanged_clocking (q := (s.port p).copied) hst]
      rfl
    · rw [happlied, Port.rateChanged_identifying (q := (s.port p).copied) hst, hquiet] <;> rfl
    · rw [happlied, Port.rateChanged_retraining (q := (s.port p).copied) hst, hquiet] <;> rfl
  · have hheard : TxnOutcome.busy ≠ .silent := nofun
    have hreleased := event_txnEnd_host_pending (o := .busy) (v := responseData word) hst hc ha ht hreq (.inl hheard)
    rw [Port.spent_of_heard hheard, if_neg (show ¬ TxnOutcome.busy = TxnOutcome.data from nofun)] at hreleased
    refine ⟨fun hrate hw => ?_, fun hrate => ?_⟩
    · rw [exec_probeResponse hr hmsb, hjudge, hreleased _ (Port.copy_of_same hrate) (.inr hw)]
      rfl
    · rw [exec_probeResponse hr hmsb, hjudge, hreleased _ ((Port.copy_of_changed (q := { s.port p with
          txn := none, tally := 0, access := none, holder := none }) hrate).trans
        (Port.rateChanged_up (q := Port.copied _) hst))
        (.inl fun h => nomatch (h : PortState.retraining = .up))]
      rfl

end Sys2Proof.Machine
end

section
/-! PROOFS. The requests the Host Link owns (R200, R201, R203, R204): what the end of a stream and of a waiting host
access leaves, folded over all of them for CLOSE-SESSION, one by one for ABORT-REQUEST, and the reset after the
RESET-DEVICE reply. -/

namespace Sys2Proof.Machine

-- One proof after the other, as in the tests: many at once would each hold a thread.
set_option Elab.async false

/-! ## RESET-DEVICE -/

/-- Settles O19. -/
theorem resetDeviceResetsAfterItsReply : Obligations.ResetDeviceResetsAfterItsReply := by
  refine ⟨fun s tag ha => ?_, fun s tag bytes hr hp ht ho => ?_⟩
  · obtain ⟨hr, hp, -, hfresh, -⟩ := id ha
    refine congrArg Host.Outcome.next ((receive_admitted hr hp (ha.admission (.inr rfl) rfl)).trans ?_)
    exact congrArg (fun t : State => { t with link := { t.link with resetPending := true } })
      (State.admit_placeReply hfresh)
  · have hends : s.endsInReset = true := by
      unfold State.endsInReset
      rw [hp, ht]
      obtain ⟨o, hmem, htag, hkind⟩ := ho
      exact List.any_eq_true.mpr ⟨o, hmem, by rw [htag, hkind]; simp⟩
    have hsent : txdFrameEnd s = s.resetByRequest := by
      unfold txdFrameEnd
      rw [ht]
      exact if_pos hends
    exact ⟨congrArg Host.Outcome.next ((awake_eq hr).trans hsent),
      congrArg Host.Outcome.next ((awake_eq hr).trans (if_pos hends))⟩

/-! ## What one abort leaves -/

/-- What every step of a fold keeps, the fold keeps. -/
theorem foldl_keeps {α β : Type} {f : State → β} {g : State → α → State} (h : ∀ s a, f (g s a) = f s) (l : List α)
    (s : State) : f (l.foldl g s) = f s := by
  induction l generalizing s with
  | nil => rfl
  | cons a l ih => exact (ih _).trans (h s a)

/-- A ring whose segment is handed back by its stream (R21). -/
def Ring.unclaimed (r : Ring) (i : Nat) : Ring := r.setSeg i { r.seg i with state := (r.seg i).state.beforeRead }

theorem State.unclaim_of_some {s : State} {k : Fin 4} {r : Ring} (h : s.ring k = some r) (i : Nat) :
    s.unclaim k i = s.setRing k (some (r.unclaimed i)) := by
  unfold State.unclaim
  rw [h]
  rfl

theorem State.unclaim_rings (s : State) (k : Fin 4) (i : Nat) :
    s.unclaim k i = { s with rings := (s.unclaim k i).rings } := by
  unfold State.unclaim
  cases s.ring k <;> rfl

/-- The reply of an aborted stream (R160, R195). -/
def Stream.abortReply (st : Stream) : Reply :=
  ⟨st.tag, 0xD0#8, [0x1A#8, 0x00#8] ++ bytesBE 4 st.seqNo.toNat ++ bytesBE 2 st.nextChunk, false⟩

/-- Segment `i` of ring `k` is there, as `g`. -/
def State.HasSegment (s : State) (k : Fin 4) (i : Nat) (g : Segment) : Prop :=
  ∃ r, s.ring k = some r ∧ i < r.segments.length ∧ r.seg i = g

/-- A segment back in the state before the claim. -/
def Segment.unclaimed (g : Segment) : Segment := { g with state := g.state.beforeRead }

theorem Segment.unclaimed_twice (g : Segment) : g.unclaimed.unclaimed = g.unclaimed := by
  have hstate : g.state.beforeRead.beforeRead = g.state.beforeRead := by
    cases g.state with
    | reading wasRead => cases wasRead <;> rfl
    | free => rfl
    | filling => rfl
    | sealed => rfl
    | read => rfl
  exact congrArg (fun x => { g with state := x }) hstate

theorem State.HasSegment.abortStream {s : State} {k : Fin 4} {i : Nat} {g : Segment} (h : s.HasSegment k i g)
    (st : Stream) :
    (s.abortStream st).HasSegment k i (if st.ring = k ∧ st.segment = i then g.unclaimed else g) := by
  obtain ⟨r, hr, hi, hg⟩ := h
  have hring : ∀ j, (s.abortStream st).ring j = (s.unclaim st.ring st.segment).ring j := fun _ => rfl
  by_cases hk : st.ring = k
  · subst hk
    have hu : (s.abortStream st).ring st.ring = some (r.unclaimed st.segment) := by
      rw [hring, State.unclaim_of_some hr, State.setRing_self]
    have hlen : (r.unclaimed st.segment).segments.length = r.segments.length := List.length_set
    refine ⟨_, hu, hlen ▸ hi, ?_⟩
    by_cases hs : st.segment = i
    · rw [if_pos ⟨rfl, hs⟩, hs, ← hg]
      exact (Ring.seg_setSeg _ _ _).trans (if_pos ⟨rfl, hi⟩)
    · rw [if_neg (fun h => hs h.2), ← hg]
      exact (Ring.seg_setSeg _ _ _).trans (if_neg fun h => hs h.1)
  · refine ⟨r, ?_, hi, by rw [if_neg (fun h => hk h.1), hg]⟩
    cases hst : s.ring st.ring with
    | none =>
      rw [hring]
      unfold State.unclaim
      rw [hst]
      exact hr
    | some r' => rw [hring, State.unclaim_of_some hst, State.setRing_other _ _ _ _ (Ne.symm hk), hr]

theorem State.HasSegment.abortAll {k : Fin 4} {i : Nat} {g : Segment} {l : List Stream} {s : State}
    (h : s.HasSegment k i g) (hin : g.unclaimed = g ∨ ∃ st ∈ l, st.ring = k ∧ st.segment = i) :
    (l.foldl State.abortStream s).HasSegment k i g.unclaimed := by
  induction l generalizing s g with
  | nil =>
    rcases hin with hg | ⟨st, hst, -⟩
    · exact hg.symm ▸ h
    · exact absurd hst List.not_mem_nil
  | cons st l ih =>
    have hstep := h.abortStream st
    by_cases hst : st.ring = k ∧ st.segment = i
    · rw [if_pos hst] at hstep
      have hrest := ih hstep (.inl g.unclaimed_twice)
      rwa [g.unclaimed_twice] at hrest
    · rw [if_neg hst] at hstep
      refine ih hstep (hin.imp_right fun ⟨x, hx, hxs⟩ => ⟨x, ?_, hxs⟩)
      exact (List.mem_cons.mp hx).resolve_left fun h => hst (h ▸ hxs)

theorem State.abortAll_replies (l : List Stream) (s : State) :
    (l.foldl State.abortStream s).link.replies = s.link.replies ++ l.map Stream.abortReply := by
  induction l generalizing s with
  | nil => exact (List.append_nil _).symm
  | cons st l ih =>
    have hone : (s.abortStream st).link.replies = s.link.replies ++ [st.abortReply] := by
      unfold State.abortStream
      rw [State.unclaim_rings]
      rfl
    rw [List.foldl_cons, ih, hone, List.append_assoc]
    rfl

theorem State.abortAll_streams (l : List Stream) (s : State) (x : Stream)
    (h : x ∈ (l.foldl State.abortStream s).streams) : x ∈ s.streams ∧ ∀ st ∈ l, x.tag ≠ st.tag := by
  induction l generalizing s with
  | nil => exact ⟨h, fun _ hst => absurd hst List.not_mem_nil⟩
  | cons st l ih =>
    have ⟨hin, hrest⟩ := ih _ h
    have hone : (s.abortStream st).streams = s.streams.filter fun y => y.tag != st.tag := by
      unfold State.abortStream
      rw [State.unclaim_rings]
      rfl
    rw [hone] at hin
    have ⟨hmem, hne⟩ := List.mem_filter.mp hin
    refine ⟨hmem, fun y hy => ?_⟩
    rcases List.mem_cons.mp hy with rfl | hy
    · exact bne_iff_ne.mp hne
    · exact hrest y hy

/-- The port after its waiting host access, if it has one, is gone (R132). -/
def Port.unwaited (p : Port) : Port :=
  if p.waitingAccess.isSome then { p.leave .host with access := none } else p

theorem Port.unwaited_twice (p : Port) : p.unwaited.unwaited = p.unwaited := by
  unfold Port.unwaited
  by_cases h : p.waitingAccess.isSome = true
  · rw [if_pos h]
    exact if_neg nofun
  · rw [if_neg h, if_neg h]

/-- The reply of a waiting host access that ends ABORTED (R138). -/
def HostAccess.abortReply (a : HostAccess) : Reply := ⟨a.tag, 0xC2#8, [0x1A#8, 0x00#8], false⟩

theorem Port.waitingAccess_eq_some {p : Port} {a : HostAccess} :
    p.waitingAccess = some a ↔ p.access = some a ∧ a.waitLeft.isSome = true := Option.filter_eq_some_iff

theorem Port.waitingAccess_eq_none {p : Port} :
    p.waitingAccess = none ↔ ∀ a, p.access = some a → a.waitLeft = none := by
  unfold Port.waitingAccess
  simp only [Option.filter_eq_none_iff, Bool.not_eq_true, Option.isSome_eq_false_iff,
    Option.isNone_iff_eq_none]

theorem State.endWaiting_port (s : State) (p q : Fin 8) (st : Status) :
    (s.endWaiting p st).port q = if q = p then (s.port q).unwaited else s.port q := by
  cases h : (s.port p).waitingAccess with
  | none =>
    have hnot : (s.port p).unwaited = s.port p := if_neg (by rw [h]; nofun)
    rw [State.endWaiting_of_none st (Port.waitingAccess_eq_none.mp h)]
    split
    · next hq => rw [hq, hnot]
    · rfl
  | some a =>
    have hleft : (s.port p).unwaited = { (s.port p).leave .host with access := none } := if_pos (by rw [h]; rfl)
    have ⟨haccess, hwaits⟩ := Port.waitingAccess_eq_some.mp h
    rw [State.endWaiting_of_some st haccess hwaits]
    refine (State.setPort_get s p q _).trans ?_
    split
    · next hq => rw [hq]; exact hleft.symm
    · rfl

theorem State.endWaiting_replies (s : State) (p : Fin 8) :
    (s.endWaiting p .aborted).link.replies
      = s.link.replies ++ ((s.port p).waitingAccess.map HostAccess.abortReply).toList := by
  cases h : (s.port p).waitingAccess with
  | none => rw [State.endWaiting_of_none .aborted (Port.waitingAccess_eq_none.mp h)]; exact (List.append_nil _).symm
  | some a =>
    have ⟨haccess, hwaits⟩ := Port.waitingAccess_eq_some.mp h
    rw [State.endWaiting_of_some .aborted haccess hwaits]
    rfl

theorem State.abortWaiting_port (l : List (Fin 8)) (s : State) (q : Fin 8) :
    (l.foldl (fun st p => st.endWaiting p .aborted) s).port q
      = if q ∈ l then (s.port q).unwaited else s.port q := by
  induction l generalizing s with
  | nil => rfl
  | cons p l ih =>
    rw [List.foldl_cons, ih, State.endWaiting_port]
    by_cases hq : q = p
    · have hmem : q ∈ p :: l := hq ▸ List.mem_cons_self
      rw [if_pos hq, Port.unwaited_twice, ite_self, if_pos hmem]
    · rw [if_neg hq]
      simp only [List.mem_cons, hq, false_or]

theorem State.abortWaiting_replies {l : List (Fin 8)} (hl : l.Nodup) (s : State) :
    (l.foldl (fun st p => st.endWaiting p .aborted) s).link.replies
      = s.link.replies ++ l.filterMap fun p => (s.port p).waitingAccess.map HostAccess.abortReply := by
  induction l generalizing s with
  | nil => exact (List.append_nil _).symm
  | cons p l ih =>
    obtain ⟨hp, hl⟩ := List.nodup_cons.mp hl
    have hothers : (l.filterMap fun q =>
          ((s.endWaiting p .aborted).port q).waitingAccess.map HostAccess.abortReply)
        = l.filterMap fun q => (s.port q).waitingAccess.map HostAccess.abortReply := by
      refine List.filterMap_congr fun q hq => ?_
      rw [State.endWaiting_port, if_neg (fun h : q = p => hp (h ▸ hq))]
    rw [List.foldl_cons, ih hl, hothers, State.endWaiting_replies, List.append_assoc]
    congr 1
    cases h : (s.port p).waitingAccess with
    | none => rw [List.filterMap_cons_none (by rw [h]; rfl)]; rfl
    | some a => rw [List.filterMap_cons_some (by rw [h]; rfl)]; rfl

/-! ## OPEN-SESSION and CLOSE-SESSION -/

theorem exec_openSession {s : State} {tag : Byte} (h : s.Hears tag) :
    exec (.openSession tag) s = .next (ownOpenSession tag (s.admitted tag 0x01#8)) := by
  obtain ⟨hr, hp, -⟩ := id h
  exact congrArg Host.Outcome.next (receive_admitted hr hp (h.admission (.inr rfl) rfl))

/-- What CLOSE-SESSION leaves of the state its request was admitted to, before its reply (R201). -/
def State.sessionEnded (s : State) : State := s.abortStreams.abortAccesses.sessionEffects

section
variable (s : State)

theorem State.abortStream_frame (st : Stream) :
    s.abortStream st = { s with
      rings := (s.abortStream st).rings, streams := (s.abortStream st).streams, link := (s.abortStream st).link } := by
  unfold State.abortStream
  rw [State.unclaim_rings]
  rfl

theorem State.endWaiting_frame (p : Fin 8) (st : Status) :
    s.endWaiting p st = { s with ports := (s.endWaiting p st).ports, link := (s.endWaiting p st).link } := by
  unfold State.endWaiting
  cases (s.port p).waitingAccess <;> rfl

theorem State.abortStreams_keeps {β : Type} {f : State → β}
    (h : ∀ (s : State) rings streams link, f { s with rings, streams, link } = f s) : f s.abortStreams = f s :=
  foldl_keeps (fun s st => (congrArg f (s.abortStream_frame st)).trans (h s _ _ _)) _ _

theorem State.abortAccesses_keeps {β : Type} {f : State → β}
    (h : ∀ (s : State) ports link, f { s with ports, link } = f s) : f s.abortAccesses = f s :=
  foldl_keeps (fun s p => (congrArg f (s.endWaiting_frame p .aborted)).trans (h s _ _)) _ _

theorem State.abortStreams_ports : s.abortStreams.ports = s.ports :=
  State.abortStreams_keeps s (f := State.ports) fun _ _ _ _ => rfl

theorem State.abortStreams_streams : s.abortStreams.streams = [] := by
  refine List.eq_nil_iff_forall_not_mem.mpr fun x hx => ?_
  have ⟨hmem, hne⟩ := State.abortAll_streams _ _ x hx
  exact hne x hmem rfl

theorem State.abortAccesses_port (p : Fin 8) : s.abortAccesses.port p = (s.port p).unwaited := by
  unfold State.abortAccesses
  rw [State.abortWaiting_port, if_pos (List.mem_finRange p)]

theorem State.abortAccesses_replies :
    s.abortAccesses.link.replies
      = s.link.replies ++ (List.finRange 8).filterMap fun p => (s.port p).waitingAccess.map HostAccess.abortReply := by
  unfold State.abortAccesses
  rw [State.abortWaiting_replies (List.nodup_finRange 8)]

/-- What the session effects do to a state: the notice queue alone (R185). -/
theorem State.sessionEffects_port (p : Fin 8) : s.sessionEffects.port p = s.port p := rfl
theorem State.sessionEffects_link : s.sessionEffects.link = s.link := rfl
theorem State.sessionEffects_streams : s.sessionEffects.streams = s.streams := rfl
theorem State.sessionEffects_ring (k : Fin 4) : s.sessionEffects.ring k = s.ring k := rfl
theorem State.sessionEffects_notices : s.sessionEffects.notices = s.notices.session := rfl

theorem State.sessionEnded_port (p : Fin 8) : s.sessionEnded.port p = (s.port p).unwaited := by
  unfold State.sessionEnded
  rw [State.sessionEffects_port, State.abortAccesses_port]
  unfold State.port
  rw [State.abortStreams_ports]

theorem State.sessionEnded_replies :
    s.sessionEnded.link.replies = s.link.replies ++ s.streams.map Stream.abortReply
      ++ (List.finRange 8).filterMap fun p => (s.port p).waitingAccess.map HostAccess.abortReply := by
  unfold State.sessionEnded
  rw [State.sessionEffects_link, State.abortAccesses_replies]
  unfold State.port
  rw [State.abortStreams_ports, State.abortStreams, State.abortAll_replies]

theorem State.sessionEnded_streams : s.sessionEnded.streams = [] := by
  unfold State.sessionEnded
  rw [State.sessionEffects_streams, State.abortAccesses_keeps _ (f := State.streams) fun _ _ _ => rfl,
    State.abortStreams_streams]

theorem State.sessionEnded_notices : s.sessionEnded.notices = s.notices.session := by
  unfold State.sessionEnded
  rw [State.sessionEffects_notices, State.abortAccesses_keeps _ (f := State.notices) fun _ _ _ => rfl,
    State.abortStreams_keeps _ (f := State.notices) fun _ _ _ _ => rfl]

theorem State.sessionEnded_keeps {β : Type} {f : State → β}
    (hstreams : ∀ (s : State) rings streams link, f { s with rings, streams, link } = f s)
    (haccesses : ∀ (s : State) ports link, f { s with ports, link } = f s)
    (heffects : ∀ s : State, f s.sessionEffects = f s) : f s.sessionEnded = f s := by
  unfold State.sessionEnded
  rw [heffects, State.abortAccesses_keeps _ haccesses, State.abortStreams_keeps _ hstreams]

/-- The requests just aborted stay outstanding until their replies are sent (R194, notes/assumptions/15). -/
theorem State.sessionEnded_outstanding :
    s.sessionEnded.link.outstanding.length = s.link.outstanding.length := by
  have hstream : ∀ (s : State) st, (s.abortStream st).link.outstanding.length = s.link.outstanding.length := by
    intro s st
    unfold State.abortStream
    rw [State.unclaim_rings]
    exact List.length_map _
  have haccess : ∀ (s : State) (p : Fin 8),
      (s.endWaiting p .aborted).link.outstanding.length = s.link.outstanding.length := by
    intro s p
    unfold State.endWaiting
    cases (s.port p).waitingAccess with
    | none => rfl
    | some a => exact List.length_map _
  have haccesses := foldl_keeps (f := fun s : State => s.link.outstanding.length) haccess
  have hstreams := foldl_keeps (f := fun s : State => s.link.outstanding.length) hstream
  unfold State.sessionEnded
  rw [State.sessionEffects_link]
  unfold State.abortAccesses State.abortStreams
  rw [haccesses, hstreams]

theorem State.sessionEnded_segment {st : Stream} {r : Ring} {wasRead : Bool} (hst : st ∈ s.streams)
    (hr : s.ring st.ring = some r) (hi : st.segment < r.segments.length)
    (hreading : (r.seg st.segment).state = .reading wasRead) :
    ∃ u, s.sessionEnded.ring st.ring = some u ∧ u.seg st.segment =
      { r.seg st.segment with state := if wasRead then SegState.read else SegState.sealed } := by
  obtain ⟨u, hu, -, hseg⟩ := State.HasSegment.abortAll (l := s.streams) ⟨r, hr, hi, rfl⟩ (.inr ⟨st, hst, rfl, rfl⟩)
  refine ⟨u, ?_, hseg.trans ?_⟩
  · unfold State.sessionEnded
    rw [State.sessionEffects_ring]
    unfold State.ring
    rw [State.abortAccesses_keeps _ (f := State.rings) fun _ _ _ => rfl]
    exact hu
  · unfold Segment.unclaimed
    rw [hreading]
    cases wasRead <;> rfl

end

theorem Port.unwaited_of_none {p : Port} (h : ∀ a, p.access = some a → a.waitLeft = none) : p.unwaited = p :=
  if_neg (by rw [Port.waitingAccess_eq_none.mpr h]; nofun)

theorem Port.unwaited_of_some {p : Port} {a : HostAccess} (h : p.access = some a) (hw : a.waitLeft.isSome = true) :
    p.unwaited = { p with access := none, waiters := p.waiters.filter fun w => w.who != .host } :=
  if_pos (by rw [Port.waitingAccess_eq_some.mpr ⟨h, hw⟩]; rfl)

/-- Only a waiting host access is gone. -/
theorem Port.unwaited_fields (p : Port) :
    p.unwaited.state = p.state ∧ p.unwaited.holder = p.holder
      ∧ p.unwaited.access = p.access.filter fun a => a.waitLeft.isNone := by
  cases ha : p.access with
  | none =>
    have hnone : ∀ a, p.access = some a → a.waitLeft = none := fun a h => nomatch ha.symm.trans h
    rw [Port.unwaited_of_none hnone, ha]
    exact ⟨rfl, rfl, rfl⟩
  | some a =>
    cases hw : a.waitLeft with
    | none =>
      rw [Port.unwaited_of_none (fun b hb => by rw [← Option.some.inj (ha.symm.trans hb)]; exact hw), ha]
      exact ⟨rfl, rfl, (Option.filter_some_pos (by rw [hw]; rfl)).symm⟩
    | some n =>
      rw [Port.unwaited_of_some ha (by rw [hw]; rfl)]
      exact ⟨rfl, rfl, (Option.filter_some_neg (by rw [hw]; rfl)).symm⟩

theorem exec_closeSession {s : State} {tag : Byte} (h : s.Accepts tag) :
    exec (.closeSession tag) s = .next (ownCloseSession tag (s.admitted tag 0x02#8)) :=
  congrArg Host.Outcome.next (h.receive_eq rfl)

/-- The state CLOSE-SESSION leaves (R201). -/
theorem ownCloseSession_eq (tag : Byte) (s : State) :
    ownCloseSession tag s =
      let t := s.sessionEnded.placeReply tag 0x02#8
        [0x00#8, byte s.streams.length, byte s.waitingAccesses, byte (s.sessionEnded.link.outstanding.length - 1)]
      { t with link := { t.link with sessionOpen := false } } := rfl

/-- The session effects keep the numbers of the queue. -/
theorem NoticeQueue.session_headNumber (q : NoticeQueue) : q.session.headNumber = q.headNumber := by
  cases q with
  | mk entries => cases entries <;> rfl

/-- Settles O20. -/
theorem sessionOpensAndCloses : Obligations.SessionOpensAndCloses := by
  refine ⟨fun s tag h => ⟨fun hnone => ?_, fun hsome => ?_⟩, fun s tag h => ⟨_, exec_closeSession h, ?_⟩⟩
  · have honly : ¬ (s.admitted tag 0x01#8).link.outstanding.any (fun o => o.tag != tag) = true := by
      simp [State.admitted, hnone]
    rw [exec_openSession h]
    unfold ownOpenSession
    rw [if_neg honly]
    obtain ⟨-, -, -, hfresh, -⟩ := h
    have hlen : s.notices.session.entries.length = s.notices.entries.length := List.length_map _
    refine congrArg Host.Outcome.next (.trans (congrArg (State.placeReply _ _ _) ?_) (State.admit_placeReply (s := { s with
      notices := s.notices.session, link := { s.link with sessionOpen := true } }) hfresh))
    change 0x00#8 :: (bytesBE 2 s.notices.session.entries.length ++ bytesBE 2 s.notices.session.headNumber.toNat
      ++ [byte s.link.linkRate.toNat]) = _
    rw [hlen, NoticeQueue.session_headNumber]
    rfl
  · have hother : (s.admitted tag 0x01#8).link.outstanding.any (fun o => o.tag != tag) = true := by
      obtain ⟨-, -, -, hfresh, -⟩ := h
      obtain ⟨o, ho⟩ := List.exists_mem_of_ne_nil _ hsome
      exact List.any_eq_true.mpr ⟨o, List.mem_append_left _ ho, bne_iff_ne.mpr (hfresh o ho)⟩
    rw [exec_openSession h]
    unfold ownOpenSession
    rw [if_pos hother]
    obtain ⟨-, -, -, hfresh, -⟩ := h
    exact congrArg Host.Outcome.next (State.admit_placeReply hfresh)
  · rw [ownCloseSession_eq]
    have hport : ∀ p, (s.admitted tag 0x02#8).sessionEnded.port p = (s.port p).unwaited := fun p => by
      rw [State.sessionEnded_port, State.admit_get_port]
    have hstreams := (s.admitted tag 0x02#8).sessionEnded_streams
    have hnotices := (s.admitted tag 0x02#8).sessionEnded_notices
    have hreplies := (s.admitted tag 0x02#8).sessionEnded_replies
    have hkeeps := fun (β : Type) (f : State → β) => (s.admitted tag 0x02#8).sessionEnded_keeps (f := f)
    have hsegment : ∀ st ∈ s.streams, ∀ r wasRead, _ → _ → _ → _ := fun st hst r wasRead =>
      (s.admitted tag 0x02#8).sessionEnded_segment (st := st) (r := r) (wasRead := wasRead) hst
    have hlen : (s.admitted tag 0x02#8).sessionEnded.link.outstanding.length - 1 = s.link.outstanding.length := by
      rw [State.sessionEnded_outstanding]
      exact congrArg (· - 1) List.length_append
    generalize (s.admitted tag 0x02#8).sessionEnded = e at hport hstreams hnotices hreplies hkeeps hsegment hlen ⊢
    refine ⟨rfl, hstreams, fun p => ?_, fun p => ⟨fun hnone => ?_, fun a ha hw => ?_⟩, hnotices,
      hkeeps _ State.engines (fun _ _ _ _ => rfl) (fun _ _ _ => rfl) fun _ => rfl,
      hkeeps _ State.plans (fun _ _ _ _ => rfl) (fun _ _ _ => rfl) fun _ => rfl,
      hkeeps _ State.runQueue (fun _ _ _ _ => rfl) (fun _ _ _ => rfl) fun _ => rfl,
      hkeeps _ State.mem (fun _ _ _ _ => rfl) (fun _ _ _ => rfl) fun _ => rfl, hsegment, ?_⟩
    · exact (hport p).symm ▸ (s.port p).unwaited_fields
    · exact (hport p).trans (Port.unwaited_of_none hnone)
    · exact (hport p).trans (Port.unwaited_of_some ha hw)
    · dsimp only
      rw [hlen]
      exact congrArg (· ++ [_]) hreplies

/-! ## ABORT-REQUEST -/

/-- What ABORT-REQUEST's owner sees: the named request, else its own. -/
theorem State.admitted_find {s : State} {tag target : Byte} :
    (s.admitted tag 0x04#8).link.outstanding.find? (fun o => o.tag == target)
      = (s.link.outstanding.find? fun o => o.tag == target).or
          (if tag = target then some ⟨tag, 0x04#8, .withOwner⟩ else none) := by
  refine List.find?_append.trans (congrArg _ ?_)
  by_cases h : tag = target
  · rw [if_pos h]
    exact List.find?_cons_of_pos (beq_iff_eq.mpr h)
  · rw [if_neg h]
    exact (List.find?_cons_of_neg (by simpa using h)).trans rfl

theorem ownAbortRequest_none {s : State} {tag target : Byte}
    (h : s.link.outstanding.find? (fun o => o.tag == target) = none) :
    ownAbortRequest tag target s = s.replyNot tag 0x04#8 .notFound := by
  unfold ownAbortRequest
  rw [h]

section
variable {s : State} {tag target : Byte} {o : OutEntry}
  (h : s.link.outstanding.find? (fun o => o.tag == target) = some o)
include h

theorem ownAbortRequest_otherKind (h1 : o.kind ≠ 0x50#8) (h2 : o.kind ≠ 0x42#8) :
    ownAbortRequest tag target s = s.replyNot tag 0x04#8 .badState := by
  unfold ownAbortRequest
  rw [h]
  exact if_pos (Bool.and_eq_true_iff.mpr ⟨bne_iff_ne.mpr h1, bne_iff_ne.mpr h2⟩)

theorem ownAbortRequest_kind (hk : o.kind = 0x50#8 ∨ o.kind = 0x42#8) :
    ownAbortRequest tag target s
      = if o.stage != .withOwner then s.replyNot tag 0x04#8 .tooLate else abortNamed tag target s := by
  unfold ownAbortRequest
  rw [h]
  refine if_neg fun hand => ?_
  obtain ⟨h1, h2⟩ := Bool.and_eq_true_iff.mp hand
  exact hk.elim (bne_iff_ne.mp h1) (bne_iff_ne.mp h2)

theorem ownAbortRequest_tooLate (hk : o.kind = 0x50#8 ∨ o.kind = 0x42#8) (hs : o.stage ≠ .withOwner) :
    ownAbortRequest tag target s = s.replyNot tag 0x04#8 .tooLate :=
  (ownAbortRequest_kind h hk).trans (if_pos (bne_iff_ne.mpr hs))

theorem ownAbortRequest_named (hk : o.kind = 0x50#8 ∨ o.kind = 0x42#8) (hs : o.stage = .withOwner) :
    ownAbortRequest tag target s = abortNamed tag target s :=
  (ownAbortRequest_kind h hk).trans (if_neg (by rw [hs]; exact Bool.false_ne_true))

end

/-- A reply placed for another request, and then the answer to this one. -/
theorem State.admit_placeReply_placeReply {s : State} {tag kind other : Byte} {k : Byte} {b body : List Byte}
    (hfresh : ∀ o ∈ s.link.outstanding, o.tag ≠ tag) (hne : other ≠ tag) :
    ((s.admitted tag kind).placeReply other k b).placeReply tag kind body
      = (s.placeReply other k b).answered tag kind body := by
  have hcomm : (s.admitted tag kind).placeReply other k b = (s.placeReply other k b).admitted tag kind := by
    have hmap : (s.link.outstanding ++ [(⟨tag, kind, .withOwner⟩ : OutEntry)]).map
          (fun (o : OutEntry) => if o.tag = other then { o with stage := .placed } else o)
        = s.link.outstanding.map (fun (o : OutEntry) => if o.tag = other then { o with stage := .placed } else o)
          ++ [(⟨tag, kind, .withOwner⟩ : OutEntry)] := by
      rw [List.map_append, List.map_singleton, if_neg (Ne.symm hne)]
    exact congrArg (fun l : List OutEntry => { s with link := { s.link with
      replies := s.link.replies ++ [(⟨other, replyKind k, b, false⟩ : Reply)], outstanding := l } }) hmap
  rw [hcomm]
  refine State.admit_placeReply fun o ho => ?_
  obtain ⟨x, hx, rfl⟩ := List.mem_map.mp ho
  have hx := hfresh x hx
  split
  · exact hx
  · exact hx

theorem State.Accepts.abortRequest {s t : State} {tag target : Byte} (h : s.Accepts tag)
    (ho : ownAbortRequest tag target (s.admitted tag 0x04#8) = t) : exec (.abortRequest tag target) s = .next t :=
  congrArg Host.Outcome.next ((h.receive_eq rfl).trans ho)

/-- The first entry of a list of ports that a test picks. -/
theorem find?_finRange_eq_some {n : Nat} {f : Fin n → Bool} {p : Fin n} (hp : f p = true)
    (hlt : ∀ q < p, f q = false) : (List.finRange n).find? f = some p := by
  refine List.find?_eq_some_iff_getElem.mpr ⟨hp, p, by simp, by simp, fun j hj => ?_⟩
  rw [List.getElem_finRange, hlt _ hj]
  rfl

/-- An open stream that is named ends ABORTED, and the request is answered OK (R160, R203). -/
theorem abortNamed_stream {s : State} {tag target : Byte} {st : Stream}
    (h : s.streams.find? (fun st => st.tag == target) = some st) :
    abortNamed tag target s = (s.abortStream st).replyOk tag 0x04#8 [] := by
  unfold abortNamed
  rw [h]

/-- With no such stream, the host access of the first port that has the tag is named (R137, R203). -/
theorem abortNamed_access {s : State} {tag target : Byte} {p : Fin 8}
    (hs : s.streams.find? (fun st => st.tag == target) = none) (hp : s.accessPort target = some p) :
    abortNamed tag target s = if (s.port p).waitingAccess.isSome then (s.endWaiting p .aborted).replyOk tag 0x04#8 []
      else s.replyNot tag 0x04#8 .tooLate := by
  unfold abortNamed
  rw [hs, hp]

theorem exec_abortRequest_stream {s : State} {tag : Byte} {st : Stream} {r : Ring} {wasRead : Bool} {o : OutEntry}
    {before after : List Stream} (h : s.Accepts tag) (hst : s.streams = before ++ st :: after)
    (hne : ∀ x ∈ before ++ after, x.tag ≠ st.tag)
    (ho : s.link.outstanding.find? (fun x => x.tag == st.tag) = some o) (hk : o.kind = 0x50#8)
    (hstage : o.stage = .withOwner) (hr : s.ring st.ring = some r) (hreading : (r.seg st.segment).state = .reading wasRead) :
    exec (.abortRequest tag st.tag) s = .next (({ s with
      rings := s.rings.set st.ring (some { r with
        segments := r.segments.set st.segment
          { r.seg st.segment with state := if wasRead then SegState.read else SegState.sealed } })
      streams := before ++ after
      link := { s.link with lastServed := if s.link.lastServed = some st.tag then none else s.link.lastServed }
      }.placeReply st.tag 0x50#8 ([0x1A#8, 0x00#8] ++ bytesBE 4 st.seqNo.toNat ++ bytesBE 2 st.nextChunk)).answered
        tag 0x04#8 [0x00#8]) := by
  obtain ⟨⟨-, -, -, hfresh, -⟩, -⟩ := id h
  have hne' : st.tag ≠ tag := by
    have htag := List.find?_some ho
    exact (beq_iff_eq.mp htag) ▸ hfresh o (List.mem_of_find?_eq_some ho)
  have hfind : s.streams.find? (fun x => x.tag == st.tag) = some st := by
    rw [hst]
    refine List.find?_eq_some_iff_append.mpr ⟨beq_self_eq_true _, before, after, rfl, fun x hx => ?_⟩
    simpa using hne x (List.mem_append_left _ hx)
  have hdrop : s.streams.filter (fun x => x.tag != st.tag) = before ++ after := by
    have hkeep : ∀ l : List Stream, (∀ x ∈ l, x.tag ≠ st.tag) → l.filter (fun x => x.tag != st.tag) = l :=
      fun l hl => List.filter_eq_self.mpr fun x hx => bne_iff_ne.mpr (hl x hx)
    rw [hst, List.filter_append, List.filter_cons_of_neg (by simp),
      hkeep before fun x hx => hne x (List.mem_append_left _ hx),
      hkeep after fun x hx => hne x (List.mem_append_right _ hx)]
  have hseg : (r.seg st.segment).state.beforeRead = if wasRead then SegState.read else SegState.sealed := by
    rw [hreading]
    cases wasRead <;> rfl
  refine h.abortRequest ((ownAbortRequest_named (by rw [State.admitted_find, ho]; rfl) (.inl hk) hstage).trans
    ((abortNamed_stream (s := s.admitted tag 0x04#8) hfind).trans ?_))
  have hunclaim := State.unclaim_of_some (s := s.admitted tag 0x04#8) hr st.segment
  unfold State.abortStream
  rw [hunclaim]
  unfold Ring.unclaimed State.dropStream
  rw [hseg]
  refine .trans ?_ (State.admit_placeReply_placeReply hfresh hne')
  rw [← hdrop]
  rfl

/-- Settles O22. -/
theorem abortRequestByItsTarget : Obligations.AbortRequestByItsTarget := by
  refine ⟨fun s tag target h => ⟨fun hnone hne => ?_, fun heq => ?_, fun o ho => ⟨fun h1 h2 => ?_, fun hk hs => ?_⟩⟩,
    fun s tag st r wasRead o h hst hout ho hr hreading hlast => ?_,
    fun s tag target p a o h ho hk hs hstreams ha htag hfirst => ?_,
    fun s tag st r wasRead o before after h hst hne ho hk hs hr hreading =>
      exec_abortRequest_stream h hst hne ho hk hs hr hreading⟩
  · have hfind : s.link.outstanding.find? (fun o => o.tag == target) = none :=
      List.find?_eq_none.mpr fun o ho => by simpa using hnone o ho
    refine congrArg Host.Outcome.next (h.receive_not .notFound 0x00#8 rfl (ownAbortRequest_none ?_))
    rw [State.admitted_find, hfind, if_neg (Ne.symm hne)]
    rfl
  · subst heq
    have ⟨⟨_, _, _, hfresh, _⟩, _⟩ := h
    have hfind : s.link.outstanding.find? (fun o => o.tag == target) = none :=
      List.find?_eq_none.mpr fun o ho => by simpa using hfresh o ho
    refine congrArg Host.Outcome.next
      (h.receive_not .badState 0x00#8 rfl (ownAbortRequest_otherKind (o := ⟨target, 0x04#8, .withOwner⟩) ?_ ?_ ?_))
    · rw [State.admitted_find, hfind, if_pos rfl]
      rfl
    · exact (by decide : (0x04#8 : Byte) ≠ 0x50#8)
    · exact (by decide : (0x04#8 : Byte) ≠ 0x42#8)
  · exact congrArg Host.Outcome.next (h.receive_not .badState 0x00#8 rfl
      (ownAbortRequest_otherKind (by rw [State.admitted_find, ho]; rfl) h1 h2))
  · exact congrArg Host.Outcome.next (h.receive_not .tooLate 0x00#8 rfl
      (ownAbortRequest_tooLate (by rw [State.admitted_find, ho]; rfl) hk hs))
  · subst ho
    have hfind : s.link.outstanding.find? (fun x => x.tag == st.tag) = some ⟨st.tag, 0x50#8, .withOwner⟩ := by
      rw [hout]
      exact List.find?_cons_of_pos (beq_self_eq_true _)
    rw [exec_abortRequest_stream (before := []) (after := []) h hst (fun _ hx => absurd hx List.not_mem_nil) hfind rfl
      rfl hr hreading, if_neg hlast]
    have hmap : s.link.outstanding.map (fun o => if o.tag = st.tag then { o with stage := .placed } else o)
        = [⟨st.tag, 0x50#8, .placed⟩] := by
      rw [hout]
      exact congrArg (fun x => [x]) (if_pos rfl)
    unfold State.placeReply State.answered
    dsimp only
    rw [hmap, List.append_assoc]
    rfl
  · have ⟨⟨_, _, _, hfresh, _⟩, _⟩ := h
    have hne : target ≠ tag := by
      have htag := List.find?_some ho
      exact (beq_iff_eq.mp htag) ▸ hfresh o (List.mem_of_find?_eq_some ho)
    have hnostream : s.streams.find? (fun st => st.tag == target) = none :=
      List.find?_eq_none.mpr fun st hst => by simpa using hstreams st hst
    have hport : s.accessPort target = some p :=
      find?_finRange_eq_some (by rw [ha]; simpa using htag) fun q hq => by
        cases hb : (s.port q).access with
        | none => rfl
        | some b => simpa using hfirst q hq b hb
    have howner := (ownAbortRequest_named (s := s.admitted tag 0x04#8) (tag := tag)
      (by rw [State.admitted_find, ho]; rfl) (.inr hk) hs).trans
        (abortNamed_access (s := s.admitted tag 0x04#8) hnostream hport)
    refine ⟨fun hw => h.abortRequest (howner.trans ?_), fun hw => ?_⟩
    · have hwaiting := State.endWaiting_of_some (s := s.admitted tag 0x04#8) .aborted ha hw
      rw [State.admit_get_port, Port.waitingAccess_eq_some.mpr ⟨ha, hw⟩, hwaiting, htag, if_pos Option.isSome_some]
      exact State.admit_placeReply_placeReply (s := s.setPort p { s.port p with
        access := none, waiters := (s.port p).waiters.filter fun w => w.who != .host }) hfresh hne
    · refine congrArg Host.Outcome.next (h.receive_not .tooLate 0x00#8 rfl (howner.trans (if_neg ?_)))
      have hnone : (s.port p).waitingAccess = none :=
        Port.waitingAccess_eq_none.mpr fun b hb => Option.some.inj (ha.symm.trans hb) ▸ hw
      rw [State.admit_get_port, hnone]
      exact Bool.false_ne_true

end Sys2Proof.Machine
end

section
/-! PROOFS. READ-SEGMENT (R153, R154): the oldest SEALED segment, the segment that carries a number, and the claim. The
requests of the notice queue (R174, R180, R182, R183): the entries they hand out, remove and mark again. -/

namespace Sys2Proof.Machine

-- One proof after the other, as in the tests: many at once would each hold a thread.
set_option Elab.async false

/-! ## The oldest SEALED segment -/

section
variable (r : Ring)

/-- The older of the best segment so far and segment `i`. -/
def Ring.pickOlder (best : Option Nat) (i : Nat) : Option Nat :=
  some (best.elim i fun j => if r.age (r.seg j).seqNo < r.age (r.seg i).seqNo then i else j)

theorem Ring.oldestSealed_eq : r.oldestSealed
    = ((List.range r.count).filter fun i => (r.seg i).state == .sealed).foldl r.pickOlder none := by
  unfold Ring.oldestSealed
  refine congrArg (fun f => List.foldl f none _) (funext fun best => funext fun i => ?_)
  cases best with
  | none => rfl
  | some j => exact (apply_ite some _ _ _).symm

theorem Ring.foldl_pickOlder (l : List Nat) (j : Nat) :
    ∃ i, l.foldl r.pickOlder (some j) = some i ∧ i ∈ j :: l
      ∧ ∀ x ∈ j :: l, r.age (r.seg x).seqNo ≤ r.age (r.seg i).seqNo := by
  induction l generalizing j with
  | nil => exact ⟨j, rfl, List.mem_cons_self, fun x hx => by rw [List.mem_singleton.mp hx]⟩
  | cons a l ih =>
    have ⟨i, hi, hmem, hmax⟩ := ih (if r.age (r.seg j).seqNo < r.age (r.seg a).seqNo then a else j)
    refine ⟨i, hi, ?_, fun x hx => ?_⟩
    · rcases List.mem_cons.mp hmem with hhead | htail
      · split at hhead
        · exact hhead ▸ List.mem_cons_of_mem _ List.mem_cons_self
        · exact hhead ▸ List.mem_cons_self
      · exact List.mem_cons_of_mem _ (List.mem_cons_of_mem _ htail)
    · have hhead := hmax _ List.mem_cons_self
      rcases List.mem_cons.mp hx with rfl | hx
      · split at hhead <;> omega
      · rcases List.mem_cons.mp hx with rfl | hx
        · split at hhead <;> omega
        · exact hmax x (List.mem_cons_of_mem _ hx)

theorem Ring.mem_sealed {j : Nat} :
    j ∈ (List.range r.count).filter (fun i => (r.seg i).state == .sealed)
      ↔ j < r.count ∧ (r.seg j).state = .sealed := by
  simp [List.mem_filter]

theorem Ring.oldestSealed_cases :
    (r.oldestSealed = none ∧ ∀ j < r.count, (r.seg j).state ≠ .sealed)
    ∨ ∃ i, r.oldestSealed = some i ∧ i < r.count ∧ (r.seg i).state = .sealed
        ∧ ∀ j < r.count, (r.seg j).state = .sealed → r.age (r.seg j).seqNo ≤ r.age (r.seg i).seqNo := by
  have hmem := fun j => r.mem_sealed (j := j)
  rw [r.oldestSealed_eq]
  generalize (List.range r.count).filter (fun i => (r.seg i).state == .sealed) = l at hmem
  cases l with
  | nil => exact .inl ⟨rfl, fun j hj hs => List.not_mem_nil ((hmem j).mpr ⟨hj, hs⟩)⟩
  | cons a l =>
    obtain ⟨i, hi, hin, hmax⟩ := r.foldl_pickOlder l a
    obtain ⟨hlt, hs⟩ := (hmem i).mp hin
    exact .inr ⟨i, hi, hlt, hs, fun j hj hsj => hmax j ((hmem j).mpr ⟨hj, hsj⟩)⟩

/-! ## The segment that carries a number -/

theorem SegState.numbered_iff (x : SegState) : x.numbered = true ↔ x = .sealed ∨ x = .read ∨ ∃ b, x = .reading b := by
  cases x <;> simp [SegState.numbered]

theorem Ring.carries_iff {seqNo : Word} {i : Nat} : r.Carries seqNo i ↔
    i < r.count ∧ ((r.seg i).state.numbered && (r.seg i).seqNo == seqNo) = true := by
  rw [Bool.and_eq_true_iff, SegState.numbered_iff, beq_iff_eq]
  exact and_congr_right fun _ => and_comm

theorem Ring.find_eq_some {seqNo : Word} {i : Nat} :
    r.find seqNo = some i ↔ r.Carries seqNo i ∧ ∀ j < i, ¬ r.Carries seqNo j := by
  unfold Ring.find
  rw [List.find?_range_eq_some]
  constructor
  · rintro ⟨hp, hlt, hfirst⟩
    refine ⟨r.carries_iff.mpr ⟨List.mem_range.mp hlt, hp⟩, fun j hj hc => ?_⟩
    have hj := hfirst j hj
    rw [(r.carries_iff.mp hc).2] at hj
    exact Bool.false_ne_true hj
  · rintro ⟨hc, hfirst⟩
    obtain ⟨hlt, hp⟩ := r.carries_iff.mp hc
    refine ⟨hp, List.mem_range.mpr hlt, fun j hj => ?_⟩
    rw [Bool.not_eq_true', ← Bool.not_eq_true]
    exact fun hp => hfirst j hj (r.carries_iff.mpr ⟨hj.trans hlt, hp⟩)

theorem Ring.find_eq_none {seqNo : Word} : r.find seqNo = none ↔ ∀ i, ¬ r.Carries seqNo i := by
  unfold Ring.find
  rw [List.find?_eq_none]
  exact ⟨fun h i hc => h i (List.mem_range.mpr hc.1) (r.carries_iff.mp hc).2,
    fun h i hi hp => h i (r.carries_iff.mpr ⟨List.mem_range.mp hi, hp⟩)⟩

end

/-! ## READ-SEGMENT -/

theorem readFound_none {s : State} {tag : Byte} {k : Fin 4} {r : Ring} :
    readFound tag k r none s = s.replyNot tag 0x50#8 .notFound := rfl

theorem readFound_reading {s : State} {tag : Byte} {k : Fin 4} {r : Ring} {i : Nat}
    (h : ∃ b, (r.seg i).state = .reading b) : readFound tag k r (some i) s = s.replyNot tag 0x50#8 .badState := by
  obtain ⟨b, hb⟩ := h
  unfold readFound
  dsimp only
  rw [hb]

theorem readFound_claim {s : State} {tag : Byte} {k : Fin 4} {r : Ring} {i : Nat}
    (h : ∀ b, (r.seg i).state ≠ .reading b) : readFound tag k r (some i) s = s.claim tag k r i := by
  unfold readFound
  dsimp only
  cases hs : (r.seg i).state with
  | reading b => exact absurd hs (h b)
  | free => rfl
  | filling => rfl
  | sealed => rfl
  | read => rfl

/-- READ-SEGMENT goes on with the segment its selector finds. -/
theorem ownReadSegment_found {s : State} {tag ring selector : Byte} {seqNo : Word} {k : Fin 4} {r : Ring}
    {found : Option Nat} (hk : ring.toNat = k) (hr : s.ring k = some r)
    (hsel : (selector = 0x00#8 ∧ r.oldestSealed = found) ∨ (selector = 0x01#8 ∧ r.find seqNo = found)) :
    ownReadSegment tag ring selector seqNo s = readFound tag k r found s := by
  unfold ownReadSegment
  rcases hsel with ⟨rfl, rfl⟩ | ⟨rfl, rfl⟩
  · exact State.withRing_of_some hk hr
  · exact State.withRing_of_some hk hr

/-- Settles O56. -/
theorem readSegmentClaimsTheSegment : Obligations.ReadSegmentClaimsTheSegment := by
  refine ⟨fun s tag ring selector seqNo k r i h hk hr hsel => ⟨fun hreading => ?_, fun hnot => ?_⟩,
    fun r => ⟨fun i hi => ?_, fun hnone => ?_, fun seqNo => ⟨fun i => r.find_eq_some, r.find_eq_none⟩⟩,
    fun s tag ring selector seqNo h => ⟨fun hbad => ?_, fun k r hk hr hsel => ?_⟩⟩
  · exact congrArg Host.Outcome.next (h.receive_not .badState 0x00#8 rfl
      ((ownReadSegment_found (s := s.admitted tag 0x50#8) hk hr hsel).trans (readFound_reading hreading)))
  · exact congrArg Host.Outcome.next ((h.receive_eq rfl).trans
      ((ownReadSegment_found (s := s.admitted tag 0x50#8) hk hr hsel).trans (readFound_claim hnot)))
  · rcases r.oldestSealed_cases with ⟨hnone, -⟩ | ⟨j, hj, hlt, hs, hmax⟩
    · exact nomatch hnone.symm.trans hi
    · exact Option.some.inj (hj.symm.trans hi) ▸ ⟨hlt, hs, hmax⟩
  · rcases r.oldestSealed_cases with ⟨-, hall⟩ | ⟨j, hj, -⟩
    · exact hall
    · exact nomatch hnone.symm.trans hj
  · refine congrArg Host.Outcome.next (h.receive_not .badValue 0x00#8 rfl ?_)
    unfold ownReadSegment
    rw [flag?_of_gt hbad]
  · exact congrArg Host.Outcome.next (h.receive_not .notFound 0x00#8 rfl
      (ownReadSegment_found (s := s.admitted tag 0x50#8) hk hr hsel))

/-! ## The notice requests -/

/-- Marking passes over the entries already delivered and marks the first `n` of the others (R180). -/
theorem markDelivered_append {old new : List Notice} (ho : ∀ x ∈ old, x.delivered = true)
    (hn : ∀ x ∈ new, x.delivered = false) (n : Nat) :
    markDelivered n (old ++ new)
      = old ++ (new.take n).map (fun (x : Notice) => { x with delivered := true }) ++ new.drop n := by
  induction old with
  | nil =>
    induction new generalizing n with
    | nil => cases n <;> rfl
    | cons x new ih =>
      cases n with
      | zero => rfl
      | succ n =>
        have hx : ¬ x.delivered = true := ne_true_of_eq_false (hn x List.mem_cons_self)
        exact (if_neg hx).trans (congrArg (_ :: ·) (ih (fun y hy => hn y (List.mem_cons_of_mem _ hy)) n))
  | cons x old ih =>
    cases n with
    | zero => rw [List.take_zero, List.map_nil, List.append_nil, List.drop_zero]; rfl
    | succ n =>
      exact (if_pos (ho x List.mem_cons_self)).trans
        (congrArg (x :: ·) (ih fun y hy => ho y (List.mem_cons_of_mem _ hy)))

theorem filter_undelivered_eq {l : List Notice} (h : ∀ x ∈ l, x.delivered = false) :
    l.filter (fun x => !x.delivered) = l :=
  List.filter_eq_self.mpr fun x hx => by rw [h x hx]; rfl

theorem filter_undelivered_nil {l : List Notice} (h : ∀ x ∈ l, x.delivered = true) :
    l.filter (fun x => !x.delivered) = [] :=
  List.filter_eq_nil_iff.mpr fun x hx => by rw [h x hx]; exact Bool.false_ne_true

theorem NoticeQueue.undelivered_append {q : NoticeQueue} {old new : List Notice} (he : q.entries = old ++ new)
    (ho : ∀ x ∈ old, x.delivered = true) (hn : ∀ x ∈ new, x.delivered = false) : q.undelivered = new := by
  unfold NoticeQueue.undelivered
  rw [he, List.filter_append, filter_undelivered_nil ho, filter_undelivered_eq hn]
  rfl

/-- The queue with the first `n` undelivered entries marked. -/
def NoticeQueue.marked (q : NoticeQueue) (n : Nat) (old new : List Notice) : NoticeQueue :=
  { q with entries := old ++ (new.take n).map (fun (x : Notice) => { x with delivered := true }) ++ new.drop n }

theorem NoticeQueue.deliver_append {q : NoticeQueue} {old new : List Notice} (he : q.entries = old ++ new)
    (ho : ∀ x ∈ old, x.delivered = true) (hn : ∀ x ∈ new, x.delivered = false) (n : Nat) :
    q.deliver n = (new.take n, q.marked n old new) := by
  unfold NoticeQueue.deliver
  rw [NoticeQueue.undelivered_append he ho hn, he, markDelivered_append ho hn]
  rfl

theorem NoticeQueue.marked_stateFields {q : NoticeQueue} {old new : List Notice} (he : q.entries = old ++ new)
    (ho : ∀ x ∈ old, x.delivered = true) (hn : ∀ x ∈ new, x.delivered = false) (n : Nat) :
    (q.marked n old new).stateFields = bytesBE 2 q.entries.length ++ bytesBE 2 (new.length - n)
      ++ bytesBE 4 q.heldLost ++ [q.mode.code, byte q.credits] := by
  have hlen : (q.marked n old new).entries.length = q.entries.length := by
    rw [he]
    simp [NoticeQueue.marked]
    omega
  have hmarked : ∀ x ∈ old ++ (new.take n).map (fun (x : Notice) => { x with delivered := true }),
      x.delivered = true := by
    intro x hx
    rcases List.mem_append.mp hx with hx | hx
    · exact ho x hx
    · obtain ⟨y, -, rfl⟩ := List.mem_map.mp hx
      rfl
  have hleft : (q.marked n old new).undelivered = new.drop n :=
    NoticeQueue.undelivered_append rfl hmarked fun x hx => hn x (List.mem_of_mem_drop hx)
  unfold NoticeQueue.stateFields
  rw [hlen, hleft, List.length_drop]
  rfl

theorem ownTakeNotices_badValue {s : State} {tag maximum : Byte} (h : maximum.toNat = 0 ∨ 8 < maximum.toNat) :
    ownTakeNotices tag maximum s = s.replyNot tag 0x5A#8 .badValue := by
  have hrange : range? 1 Config.noticesPerFrame maximum.toNat = none :=
    range?_of_notMem fun hin => by
      simp only [Config.noticesPerFrame] at hin
      omega
  unfold ownTakeNotices
  rw [hrange]

theorem ownTakeNotices_eq {s : State} {tag maximum : Byte} (h1 : 1 ≤ maximum.toNat) (h8 : maximum.toNat ≤ 8) :
    ownTakeNotices tag maximum s = { s with notices := (s.notices.deliver maximum.toNat).2 }.replyOk tag 0x5A#8
      ((s.notices.deliver maximum.toNat).1.flatMap Notice.bytes
        ++ (s.notices.deliver maximum.toNat).2.stateFields) := by
  have hrange : range? 1 Config.noticesPerFrame maximum.toNat = some maximum.toNat := range?_of_mem ⟨h1, h8⟩
  unfold ownTakeNotices
  rw [hrange]

theorem NoticeQueue.afterAck_none {q : NoticeQueue} {number : Half}
    (h : ∀ n ∈ q.entries, n.delivered = true → n.number ≠ number) : q.afterAck number = none := by
  refine if_neg fun hany => ?_
  obtain ⟨n, hn, hp⟩ := List.any_eq_true.mp hany
  obtain ⟨hd, hnum⟩ := Bool.and_eq_true_iff.mp hp
  exact h n hn hd (beq_iff_eq.mp hnum)

theorem NoticeQueue.afterAck_some {q : NoticeQueue} {number : Half} {before rest : List Notice} {n : Notice}
    (he : q.entries = before ++ n :: rest) (hd : n.delivered = true) (hn : n.number = number)
    (hb : ∀ m ∈ before, m.number ≠ number) : q.afterAck number = some rest := by
  have hacked : (n.delivered && n.number == number) = true := by rw [hd, hn]; exact beq_self_eq_true _
  have hpass : ∀ m ∈ before, (!(m.delivered && m.number == number)) = true := fun m hm => by
    rw [beq_false_of_ne (hb m hm), Bool.and_false]
    rfl
  unfold NoticeQueue.afterAck
  rw [he, if_pos (List.any_eq_true.mpr ⟨n, List.mem_append_right _ List.mem_cons_self, hacked⟩),
    List.dropWhile_append_of_pos hpass, List.dropWhile_cons_of_neg (by rw [hacked]; exact Bool.false_ne_true)]
  rfl

theorem ownAckNotices_none {s : State} {tag : Byte} {number : Half} (h : s.notices.afterAck number = none) :
    ownAckNotices tag number s = s.replyNot tag 0x5B#8 .badValue := by
  unfold ownAckNotices
  rw [h]

theorem ownAckNotices_some {s : State} {tag : Byte} {number : Half} {rest : List Notice}
    (h : s.notices.afterAck number = some rest) {q : NoticeQueue}
    (hq : { s.notices with entries := rest }.ackMarker s.timeBase = q) :
    ownAckNotices tag number s = { s with notices := q }.replyOk tag 0x5B#8
      (bytesBE 2 (s.notices.entries.length - rest.length) ++ bytesBE 2 q.entries.length
        ++ bytesBE 2 q.undelivered.length) := by
  unfold ownAckNotices
  rw [h, ← hq]

/-- The marker for the held lost count (R174), where the acknowledgement has left room for it. -/
theorem NoticeQueue.ackMarker_eq {q : NoticeQueue} (now : Time) (h : q.entries.length < 256) :
    q.ackMarker now = if q.heldLost = 0 then q else { q with
      entries := q.entries ++ [⟨q.nextNo, .overflow, 0x00#8, now, 0#32, BitVec.ofNat 16 (min q.heldLost 65535), false⟩]
      nextNo := q.nextNo + 1, heldLost := 0 } := by
  by_cases h0 : q.heldLost = 0
  · rw [if_pos h0]
    exact if_neg fun hand => hand.2 h0
  · rw [if_neg h0]
    exact if_pos ⟨h, h0⟩

/-- Settles O58. -/
theorem noticesAreTakenAckedAndResent : Obligations.NoticesAreTakenAckedAndResent := by
  refine ⟨fun s tag maximum old new h h1 h8 he ho hn => ?_, fun s tag number h => ⟨fun hnone => ?_,
      fun before n rest he hd hnum hb hlen => ?_⟩, fun s tag h => ?_,
    fun s tag maximum h hbad => congrArg Host.Outcome.next (h.receive_not .badValue 0x00#8 rfl (ownTakeNotices_badValue hbad)),
    fun n => rfl, rfl, rfl, rfl⟩
  · refine congrArg Host.Outcome.next (h.receive_answered (t := { s with notices := s.notices.marked maximum.toNat old new })
      rfl rfl ((ownTakeNotices_eq h1 h8).trans ?_))
    have hfields := NoticeQueue.marked_stateFields he ho hn maximum.toNat
    have hdeliver := NoticeQueue.deliver_append he ho hn maximum.toNat
    rw [State.admit_notices, hdeliver]
    dsimp only
    rw [hfields]
    refine congrArg (State.placeReply _ _ _) (congrArg (0x00#8 :: ·) ?_)
    simp only [List.append_eq, List.append_assoc]
  · exact congrArg Host.Outcome.next (h.receive_not .badValue 0x00#8 rfl
      (ownAckNotices_none (NoticeQueue.afterAck_none hnone)))
  · intro left
    have hleft : { s.notices with entries := rest }.ackMarker s.timeBase = left := NoticeQueue.ackMarker_eq _ hlen
    have hcount : s.notices.entries.length - rest.length = before.length + 1 := by
      rw [he, List.length_append, List.length_cons]
      omega
    refine congrArg Host.Outcome.next (h.receive_answered (t := { s with notices := left }) rfl rfl
      ((ownAckNotices_some (s := s.admitted tag 0x5B#8) (NoticeQueue.afterAck_some he hd hnum hb) hleft).trans ?_))
    rw [State.admit_notices, hcount, List.countP_eq_length_filter]
    rfl
  · refine congrArg Host.Outcome.next (h.receive_answered (t := { s with notices := s.notices.clearMarks }) rfl rfl ?_)
    rw [List.countP_eq_length_filter]
    rfl

end Sys2Proof.Machine
end

section
/-! PROOFS. Records in capture memory (R7 to R13, R17, R19): what is read back of a record, its words, and where the
placement of one leaves it. The seal, the release and the wake of a stall list of one record (R14, R18, R20). -/

namespace Sys2Proof.Machine

-- One proof after the other, as in the tests: many at once would each hold a thread.
set_option Elab.async false

/-! ## Words of capture memory -/

section
variable {m : List Host.Cell}

/-- Bytes just written are read back. -/
theorem Memory.readByte_writeBytes (h : Memory.wf m = true) (a : Nat) (vs : List Byte) (j : Nat) (hj : j < vs.length) :
    Memory.readByte (Memory.writeBytes m a vs) (a + j) = vs[j] := by
  induction vs generalizing m a j with
  | nil => exact absurd hj (Nat.not_lt_zero j)
  | cons v vs ih =>
    have hwf := Memory.writeByte_wf a v h
    cases j with
    | zero =>
      refine (Memory.readByte_writeBytes_outside (a + 1) vs a hwf (.inl (Nat.lt_succ_self a))).trans ?_
      rw [Memory.readByte_writeByte a v a h, if_pos rfl]
      rfl
    | succ j =>
      rw [show a + (j + 1) = a + 1 + j by omega]
      exact ih hwf (a + 1) j (Nat.lt_of_succ_lt_succ hj)

/-- The bytes of a word just written are read back as the word. -/
theorem Memory.readWord_writeBytes (h : Memory.wf m = true) (w : Nat) (x : Word) :
    Memory.readWord (Memory.writeBytes m (4 * w) (bytesBE 4 x.toNat)) w = x := by
  have hread := fun j (hj : j < 4) => Memory.readByte_writeBytes h (4 * w) (bytesBE 4 x.toNat) j (by simpa using hj)
  have hhead := hread 0 (by decide)
  rw [Nat.add_zero] at hhead
  unfold Memory.readWord
  rw [hhead, hread 1 (by decide), hread 2 (by decide), hread 3 (by decide)]
  exact ofNat_natBE_bytesBE (k := 4) x rfl

/-- Words just written are read back one by one. -/
theorem Memory.readWords_writeWords (h : Memory.wf m = true) (w : Nat) (xs : List Word) :
    Memory.readWords (Memory.writeWords m w xs) w xs.length = xs := by
  induction xs generalizing m w with
  | nil => rfl
  | cons x xs ih =>
    have hwf := Memory.writeBytes_wf (4 * w) (bytesBE 4 x.toNat) h
    have hkept : ∀ j < 4, Memory.readByte
        (Memory.writeWords (Memory.writeBytes m (4 * w) (bytesBE 4 x.toNat)) (w + 1) xs) (4 * w + j)
          = Memory.readByte (Memory.writeBytes m (4 * w) (bytesBE 4 x.toNat)) (4 * w + j) :=
      fun j hj => Memory.readByte_writeWords_outside _ _ _ hwf (.inl (by omega))
    have hfirst : Memory.readWord
        (Memory.writeWords (Memory.writeBytes m (4 * w) (bytesBE 4 x.toNat)) (w + 1) xs) w = x := by
      have hword := Memory.readWord_writeBytes h w x
      have hhead : Memory.readByte
          (Memory.writeWords (Memory.writeBytes m (4 * w) (bytesBE 4 x.toNat)) (w + 1) xs) (4 * w)
            = Memory.readByte (Memory.writeBytes m (4 * w) (bytesBE 4 x.toNat)) (4 * w) := hkept 0 (by omega)
      unfold Memory.readWord at hword ⊢
      rw [hhead, hkept 1 (by omega), hkept 2 (by omega), hkept 3 (by omega)]
      exact hword
    exact congrArg₂ List.cons hfirst (ih hwf (w + 1))

end

/-! ## The words of a record -/

theorem toNat_append {v w : Nat} (a : BitVec v) (b : BitVec w) : (a ++ b).toNat = a.toNat * 2 ^ w + b.toNat := by
  rw [BitVec.toNat_append, Nat.shiftLeft_eq, Nat.mul_comm, Nat.two_pow_add_eq_or_of_lt b.isLt]

theorem timeWords_eq (t : Time) : timeWords t = [0#16 ++ t.extractLsb' 32 16, t.extractLsb' 0 32] := by
  have hhigh : BitVec.ofNat 32 (t.toNat / 2 ^ 32) = 0#16 ++ t.extractLsb' 32 16 := by
    refine BitVec.eq_of_toNat_eq ?_
    rw [toNat_append, BitVec.toNat_ofNat, BitVec.extractLsb'_toNat, Nat.shiftRight_eq_div_pow]
    have := t.isLt
    simp only [BitVec.toNat_ofNat]
    omega
  have hlow : BitVec.ofNat 32 t.toNat = t.extractLsb' 0 32 := rfl
  unfold timeWords
  rw [hhigh, hlow]

theorem header_eq {kind plan step length : Nat} (hp : plan < 32) (hs : step < 128) (hl : length < 128) :
    BitVec.ofNat 32 (kind * 2 ^ 29 + plan * 2 ^ 24 + step * 2 ^ 17 + length * 2 ^ 10)
      = BitVec.ofNat 3 kind ++ BitVec.ofNat 5 plan ++ BitVec.ofNat 7 step ++ BitVec.ofNat 7 length ++ 0#10 := by
  refine BitVec.eq_of_toNat_eq ?_
  simp only [toNat_append, BitVec.toNat_ofNat]
  omega

/-- The header, the time and the body, as Table 10-15 gives them. -/
theorem Record.words_eq {rec : Record} (hs : rec.step < 128) (hl : rec.length < 128) :
    rec.words = (BitVec.ofNat 3 rec.body.kind ++ BitVec.ofNat 5 rec.plan ++ BitVec.ofNat 7 rec.step
      ++ BitVec.ofNat 7 rec.length ++ 0#10) :: [0#16 ++ rec.time.extractLsb' 32 16, rec.time.extractLsb' 0 32]
        ++ rec.body.words rec.step := by
  unfold Record.words
  rw [header_eq rec.plan.isLt hs hl, timeWords_eq]

/-! ## Placing a record -/

section
variable {s : State} {k : Fin 4} {r : Ring} {i : Nat}

theorem State.setRing_appendRecord (x : Option Ring) (r : Ring) (i : Nat) (rec : Record) :
    (s.setRing k x).appendRecord k r i rec = s.appendRecord k r i rec := by
  unfold State.appendRecord
  rw [State.setRing_twice]
  rfl

theorem State.appendRecord_setRing (x : Option Ring) (r : Ring) (i : Nat) (rec : Record) :
    (s.appendRecord k r i rec).setRing k x = { s.setRing k x with
      mem := Memory.writeWords s.mem (r.segBase i + (r.seg i).wordsUsed) rec.words } := by
  unfold State.appendRecord
  generalize Memory.writeWords s.mem (r.segBase i + (r.seg i).wordsUsed) rec.words = m
  generalize some (r.setSeg i ((r.seg i).appended rec)) = y
  exact congrArg (fun t : State => { t with mem := m }) (State.setRing_twice s k y x)

theorem State.setRing_post (x : Option Ring) (kind : NoticeKind) (subject : Byte) (a : Word) (b : Half) :
    (s.post kind subject a b).setRing k x = (s.setRing k x).post kind subject a b := rfl

theorem Ring.setSeg_twice (i : Nat) (g g' : Segment) : (r.setSeg i g).setSeg i g' = r.setSeg i g' :=
  congrArg (fun l : List Segment => { r with segments := l }) (List.set_set _)

/-- A second write to the segment just opened leaves its own value alone (R9, R10). -/
theorem Ring.setSeg_openAwaited (g : Segment) :
    r.openAwaited.setSeg r.awaited g = { r.setSeg r.awaited g with fillPos := some r.awaited } :=
  congrArg (fun l : List Segment => { r with segments := l, fillPos := some r.awaited }) (List.set_set _)

theorem State.appendFilling_of_some (h : s.ring k = some r) (hf : r.filling = some i) (rec : Record) (b : Bool) :
    s.appendFilling k rec b = (if b then
      (s.appendRecord k r i rec).sealSegment k (r.setSeg i ((r.seg i).appended rec)) i .runEnd
      else s.appendRecord k r i rec, true) := by
  unfold State.appendFilling
  rw [h]
  dsimp only
  rw [hf]

/-- R9 step 1: a record that fits is appended. -/
theorem State.place_fits {rec : Record} (h : s.ring k = some r) (hf : r.filling = some i)
    (hfits : (r.seg i).wordsUsed + rec.length ≤ r.segWords) (b : Bool) :
    s.place k rec b = (if b then
      (s.appendRecord k r i rec).sealSegment k (r.setSeg i ((r.seg i).appended rec)) i .runEnd
      else s.appendRecord k r i rec, true) := by
  have hseal : s.sealIfFull k rec = s := by
    unfold State.sealIfFull
    rw [h]
    dsimp only
    rw [hf]
    exact if_pos hfits
  have hopen : s.openIfNeeded k = s := by
    unfold State.openIfNeeded
    rw [h]
    dsimp only
    rw [hf]
  unfold State.place
  rw [hseal, hopen, State.appendFilling_of_some h hf]

theorem State.sealIfFull_of_none (h : s.ring k = some r) (hf : r.filling = none) (rec : Record) :
    s.sealIfFull k rec = s := by
  unfold State.sealIfFull
  rw [h]
  dsimp only
  rw [hf]

/-- R9 step 3: with nothing FILLING, the FREE awaited segment is opened for the record. -/
theorem State.place_opens (h : s.ring k = some r) (hf : r.filling = none) (hlt : r.awaited < r.segments.length)
    (hfree : (r.seg r.awaited).state = .free) (rec : Record) :
    s.place k rec false = (s.appendRecord k r.openAwaited r.awaited rec, true) := by
  have hopen : s.openIfNeeded k = s.setRing k (some r.openAwaited) := by
    unfold State.openIfNeeded
    rw [h]
    dsimp only
    rw [hf]
    exact if_pos hfree
  have hseg : r.openAwaited.seg r.awaited = { r.seg r.awaited with state := .filling } :=
    (Ring.seg_setSeg _ _ _).trans (if_pos ⟨rfl, hlt⟩)
  have hfilling : r.openAwaited.filling = some r.awaited :=
    Ring.filling_eq_some.mpr ⟨rfl, by rw [hseg]⟩
  unfold State.place
  rw [State.sealIfFull_of_none h hf, hopen, State.appendFilling_of_some (State.setRing_self _ _ _) hfilling,
    if_neg Bool.false_ne_true, State.setRing_appendRecord]

/-- With nothing FILLING and the awaited segment not FREE, the record finds no room. -/
theorem State.place_noRoom (h : s.ring k = some r) (hf : r.filling = none) (hfree : (r.seg r.awaited).state ≠ .free)
    (rec : Record) (b : Bool) : s.place k rec b = (s, false) := by
  have hopen : s.openIfNeeded k = s := by
    unfold State.openIfNeeded
    rw [h]
    dsimp only
    rw [hf]
    exact if_neg hfree
  unfold State.place State.appendFilling
  rw [State.sealIfFull_of_none h hf, hopen, h]
  dsimp only
  rw [hf]

/-- The ring after a seal fills nothing. -/
theorem Ring.sealed_filling (hlt : i < r.segments.length) (hf : r.filling = some i) (cause : SealCause) :
    (r.sealed i cause).filling = none := by
  refine Ring.filling_eq_none.mpr fun j hj => ?_
  obtain rfl := Option.some.inj ((Ring.filling_eq_some.mp hf).1.symm.trans hj)
  have hseg : ((r.sealed i cause).seg i).state = .sealed :=
    congrArg Segment.state ((Ring.seg_setSeg i i _).trans (if_pos ⟨rfl, hlt⟩))
  rw [hseg]
  nofun

theorem State.sealSegment_eq (s : State) (k : Fin 4) (r : Ring) (i : Nat) (cause : SealCause) :
    s.sealSegment k r i cause
      = (s.post .segmentSealed (byte k) r.nextSeq (BitVec.ofNat 16 (r.seg i).wordsUsed)).setRing k
          (some (r.sealed i cause)) := rfl

theorem State.sealSegment_ring (s : State) (k : Fin 4) (r : Ring) (i : Nat) (cause : SealCause) :
    (s.sealSegment k r i cause).ring k = some (r.sealed i cause) := State.setRing_self _ _ _

/-- R9 step 2: a record that does not fit seals the FILLING segment FULL, and is placed from there on. -/
theorem State.place_full {rec : Record} (h : s.ring k = some r) (hlt : i < r.segments.length)
    (hf : r.filling = some i) (hfull : r.segWords < (r.seg i).wordsUsed + rec.length) (b : Bool) :
    s.place k rec b = (s.sealSegment k r i .full).place k rec b := by
  have hseal : s.sealIfFull k rec = s.sealSegment k r i .full := by
    unfold State.sealIfFull
    rw [h]
    dsimp only
    rw [hf]
    exact if_neg (by omega)
  unfold State.place
  rw [hseal, State.sealIfFull_of_none (s.sealSegment_ring k r i .full) (Ring.sealed_filling hlt hf _)]

/-! ## A commit -/

theorem State.commit_placed {t : State} {e : Fin 4} {rec : Record} {b : Bool} (h : s.place k rec b = (t, true)) :
    s.commit k e rec b = (t, .placed) := by
  unfold State.commit
  rw [h]
  rfl

/-- Under DISCARD a record without room is dropped and counted (R17). -/
theorem State.commit_dropped {t : State} {e : Fin 4} {rec : Record} {b : Bool} (h : s.place k rec b = (t, false))
    (hr : t.ring k = some r) (hp : r.policy = .discard) : s.commit k e rec b = (t.drop k r, .dropped) := by
  unfold State.commit
  rw [h]
  dsimp only
  rw [if_neg Bool.false_ne_true, hr]
  dsimp only
  rw [hp]

/-- Under STALL it joins the stall list (R12). -/
theorem State.commit_stalled {t : State} {e : Fin 4} {rec : Record} {b : Bool} (h : s.place k rec b = (t, false))
    (hr : t.ring k = some r) (hp : r.policy = .stall) :
    s.commit k e rec b = (t.setRing k (some { r with
      stallList := r.stallList ++ [⟨e, rec, b, r.stallLimit * 1000⟩] }), .stalled) := by
  unfold State.commit
  rw [h]
  dsimp only
  rw [if_neg Bool.false_ne_true, hr]
  dsimp only
  rw [hp]

theorem State.HasRoom.filling {n : Nat} (h : s.HasRoom k r i n) : r.filling = some i :=
  have ⟨_, _, hpos, hstate, _⟩ := h
  Ring.filling_eq_some.mpr ⟨hpos, hstate⟩

theorem State.commit_fits {e : Fin 4} {rec : Record} (h : s.HasRoom k r i rec.length) :
    s.commit k e rec false = (s.appendRecord k r i rec, .placed) :=
  have ⟨hr, _, _, _, hfits⟩ := h
  State.commit_placed ((State.place_fits hr h.filling hfits false).trans (congrArg (·, true) (if_neg Bool.false_ne_true)))

end

theorem Ring.awaited_of_some {r : Ring} {i : Nat} (h : r.fillPos = some i) : r.awaited = (i + 1) % r.count := by
  unfold Ring.awaited
  rw [h]

theorem Ring.awaited_of_none {r : Ring} (h : r.fillPos = none) : r.awaited = 0 := by
  unfold Ring.awaited
  rw [h]

/-- After a seal the awaited segment is what it was, another than the sealed one (R10). -/
theorem Ring.sealed_awaited {r : Ring} {i : Nat} (h : r.fillPos = some i) (cause : SealCause) :
    (r.sealed i cause).awaited = (i + 1) % r.count := Ring.awaited_of_some (r := r.sealed i cause) h

theorem Ring.sealed_seg {r : Ring} {i j : Nat} (hne : j ≠ i) (cause : SealCause) :
    (r.sealed i cause).seg j = r.seg j := (Ring.seg_setSeg i j _).trans (if_neg fun h => hne h.1.symm)

theorem append_pair (a b : Byte) : (0#16 ++ (a ++ b) : Word) = 0#16 ++ a ++ b := by
  refine BitVec.eq_of_toNat_eq ?_
  refine (toNat_append 0#16 (a ++ b)).trans ((?_ : _ = _).trans (toNat_append (0#16 ++ a) b).symm)
  rw [toNat_append, toNat_append]
  omega

/-- Settles O28. -/
theorem recordsAreAppendedOrDropped : Obligations.RecordsAreAppendedOrDropped := by
  refine ⟨fun s k r i rec hwf => ⟨?_, fun a ha => ?_⟩, fun s k e r rec b hr hp hf hfree => ?_,
    fun s k e r i rec b hr hlt hpos hstate hfull => ?_, fun s k e r rec b hr hp hf hfree => ?_,
    fun s k e r i rec h => ?_, fun s k e r rec hr hf hlt hfree => ?_,
    fun r i => ⟨Ring.filling_eq_some, Ring.awaited_of_none, Ring.awaited_of_some, Nat.mul_comm _ _, Nat.mul_comm _ _⟩,
    fun rec hs hl => ?_, ?_⟩
  · have hread := Memory.readWords_writeWords hwf (r.segBase i + (r.seg i).wordsUsed) rec.words
    rw [Record.words_length] at hread
    rw [State.appendRecord_mem]
    exact hread
  · rw [State.appendRecord_mem]
    refine Memory.readByte_writeWords_outside (r.segBase i + (r.seg i).wordsUsed) rec.words a hwf ?_
    rw [Record.words_length]
    exact ha
  · exact State.commit_dropped (State.place_noRoom hr hf hfree rec b) hr hp
  · have hfilling : r.filling = some i := Ring.filling_eq_some.mpr ⟨hpos, hstate⟩
    have hplace := State.place_full hr hlt hfilling hfull b
    have hsealed := s.sealSegment_ring k r i .full
    have hnone := Ring.sealed_filling hlt hfilling .full
    have hawaited := Ring.sealed_awaited hpos .full
    refine ⟨fun hne hj hfree hb => ?_, fun hne hfree hp => ?_, fun hne hfree hp => ?_⟩
    · subst hb
      have hseg := Ring.sealed_seg (r := r) hne .full
      have hopens := State.place_opens hsealed hnone (by rw [hawaited]; exact (List.length_set).symm ▸ hj)
        (by rw [hawaited, hseg]; exact hfree) rec
      rw [State.commit_placed (hplace.trans hopens), State.sealSegment_eq, State.setRing_appendRecord]
      unfold Ring.openAwaited
      rw [hawaited, hseg]
      rfl
    · have hstays : ((r.sealed i .full).seg (r.sealed i .full).awaited).state ≠ .free := by
        rw [hawaited, Ring.sealed_seg hne]
        exact hfree
      rw [State.commit_stalled (hplace.trans (State.place_noRoom hsealed hnone hstays rec b)) hsealed hp,
        State.sealSegment_eq, State.setRing_twice]
      rfl
    · have hstays : ((r.sealed i .full).seg (r.sealed i .full).awaited).state ≠ .free := by
        rw [hawaited, Ring.sealed_seg hne]
        exact hfree
      rw [State.commit_dropped (hplace.trans (State.place_noRoom hsealed hnone hstays rec b)) hsealed hp,
        State.sealSegment_eq]
      unfold State.drop
      dsimp only
      rw [State.setRing_twice]
      rfl
  · exact State.commit_stalled (State.place_noRoom hr hf hfree rec b) hr hp
  · have hfilling := h.filling
    obtain ⟨hr, hlt, -, -, hfits⟩ := h
    rw [State.commit_placed ((State.place_fits hr hfilling hfits true).trans (congrArg (·, true) (if_pos rfl))),
      State.sealSegment_eq]
    have hseg : (r.setSeg i ((r.seg i).appended rec)).seg i = (r.seg i).appended rec :=
      (Ring.seg_setSeg i i _).trans (if_pos ⟨rfl, hlt⟩)
    unfold Ring.sealed
    rw [hseg, Ring.setSeg_twice, State.setRing_post, State.appendRecord_setRing]
    rfl
  · exact State.commit_placed (State.place_opens hr hf hlt hfree rec)
  · rw [Record.words_eq hs hl]
    obtain ⟨plan, step, now, body⟩ := rec
    cases body with
    | runBegin n source t => exact ⟨rfl, by dsimp only [RecordBody.words]; rw [timeWords_eq]; rfl⟩
    | samples l =>
      have hword : (fun x : Sample => match x with | .data v => 0x00#8 ++ v | .busy => 0x01#8 ++ 0#24) = Sample.word :=
        funext fun x => by cases x <;> rfl
      exact ⟨congrArg (3 + ·) (List.length_map _).symm,
        congrArg (_ ++ ·) (congrArg (fun f => l.map f) hword.symm)⟩
    | stamp => exact ⟨rfl, rfl⟩
    | runEnd reason remaining misses written =>
      cases reason with
      | none => exact ⟨rfl, rfl⟩
      | some x => exact ⟨rfl, congrArg (fun w : Word => _ :: _ :: _ :: w :: [_, _]) (append_pair x.code (byte step))⟩
  · refine ⟨fun n => ⟨?_, ?_⟩, fun n => ?_, fun p => ?_, rfl, rfl, rfl⟩
    · exact byte_toNat (by omega)
    · exact byte_toNat (by omega)
    · exact byte_toNat (by omega)
    · exact byte_toNat (by omega)

/-! ## The wake of a stall list (R14) -/

section
variable {s : State} {k : Fin 4} {r : Ring}

/-- No record waits, or the awaited segment is not FREE: nothing is woken. -/
theorem State.wake_quiet (hr : s.ring k = some r) (h : r.stallList = [] ∨ (r.seg r.awaited).state ≠ .free) :
    s.wake k = (s, []) := by
  have hquiet : s.wakeRing k = (s, []) := by
    unfold State.wakeRing
    rw [hr]
    refine if_pos ?_
    rcases h with h | h
    · rw [h]; rfl
    · rw [Bool.or_eq_true_iff]; exact .inr (bne_iff_ne.mpr h)
  unfold State.wake
  rw [hquiet]
  rfl

/-- The ring after the only stalled record was placed in the awaited segment (R10, R14). -/
def Ring.woken (r : Ring) (rec : Record) : Ring :=
  { r with
    segments := r.segments.set r.awaited ({ r.seg r.awaited with state := .filling }.appended rec)
    fillPos := some r.awaited
    stallList := [] }

/-- The state after the only stalled record was placed. -/
def State.woken (s : State) (k : Fin 4) (r : Ring) (rec : Record) : State :=
  { s.setRing k (some (r.woken rec)) with
    mem := Memory.writeWords s.mem (r.segBase r.awaited + (r.seg r.awaited).wordsUsed) rec.words }

theorem State.wake_one {x : StallEntry} {y : Resume} (hr : s.ring k = some r) (hl : r.stallList = [x])
    (hx : x.sealOnEnd = false) (hf : r.filling = none) (hlt : r.awaited < r.segments.length)
    (hfree : (r.seg r.awaited).state = .free) (he : (s.engine x.engine).state = .stalled y) :
    s.wake k = (s.woken k r x.record, [.resume x.engine y]) := by
  have hplace := State.place_opens hr hf hlt hfree x.record
  have hseg : r.openAwaited.seg r.awaited = { r.seg r.awaited with state := .filling } :=
    (Ring.seg_setSeg _ _ _).trans (if_pos ⟨rfl, hlt⟩)
  have hlist : State.placeStalled k r.stallList s = (s.appendRecord k r.openAwaited r.awaited x.record, [], [x.engine]) := by
    rw [hl]
    unfold State.placeStalled
    rw [hx, hplace]
    rfl
  have hring : (s.appendRecord k r.openAwaited r.awaited x.record).ring k
      = some (r.openAwaited.setSeg r.awaited ((r.openAwaited.seg r.awaited).appended x.record)) :=
    State.setRing_self _ _ _
  have hgate : ¬ (r.stallList.isEmpty || (r.seg r.awaited).state != .free) = true := by
    rw [hl, hfree]
    exact Bool.false_ne_true
  have hwoken : s.wakeRing k = (s.woken k r x.record, [x.engine]) := by
    unfold State.wakeRing
    rw [hr]
    dsimp only
    rw [if_neg hgate, hlist]
    dsimp only
    rw [hring, hseg]
    dsimp only
    rw [State.appendRecord_setRing, hseg, Ring.setSeg_openAwaited]
    rfl
  have hacts : (s.woken k r x.record).wakeActs [x.engine] = [.resume x.engine y] := by
    unfold State.wakeActs
    exact List.filterMap_cons_some (by rw [show (s.woken k r x.record).engine x.engine = s.engine x.engine from rfl, he])
  unfold State.wake
  rw [hwoken]
  exact congrArg (_, ·) hacts

/-- The ring with a record as the only one of its awaited segment. -/
def Ring.filledAnew (r : Ring) (rec : Record) : Ring :=
  { r with
    segments := r.segments.set r.awaited ⟨.filling, 0#32, rec.length, 1, rec.time, rec.time, false, none⟩
    fillPos := some r.awaited
    stallList := [] }

/-- Words written from a word of capture memory on. -/
def State.withWords (s : State) (w : Nat) (xs : List Word) : State := { s with mem := Memory.writeWords s.mem w xs }

theorem Ring.woken_of_empty {rec : Record} (h : (r.setSeg r.awaited .empty).seg r.awaited = .empty) :
    (r.setSeg r.awaited .empty).woken rec = r.filledAnew rec := by
  have happended : ({ Segment.empty with state := .filling }.appended rec)
      = ⟨.filling, 0#32, rec.length, 1, rec.time, rec.time, false, none⟩ :=
    congrArg (fun n : Nat => (⟨.filling, 0#32, n, 1, rec.time, rec.time, false, none⟩ : Segment)) (Nat.zero_add _)
  unfold Ring.woken
  rw [show (r.setSeg r.awaited .empty).awaited = r.awaited from rfl, h, happended]
  exact congrArg (fun l : List Segment => { r with segments := l, fillPos := some r.awaited, stallList := [] })
    (List.set_set _)

/-- The awaited segment was freed just before: the record is its first and only one. -/
theorem State.woken_of_empty {rec : Record} (h : (r.setSeg r.awaited .empty).seg r.awaited = .empty) :
    (s.setRing k (some (r.setSeg r.awaited .empty))).woken k (r.setSeg r.awaited .empty) rec
      = (s.setRing k (some (r.filledAnew rec))).withWords (r.segBase r.awaited) rec.words := by
  have hbase : (r.setSeg r.awaited .empty).segBase (r.setSeg r.awaited .empty).awaited
      + ((r.setSeg r.awaited .empty).seg (r.setSeg r.awaited .empty).awaited).wordsUsed = r.segBase r.awaited := by
    rw [show (r.setSeg r.awaited .empty).awaited = r.awaited from rfl, h]
    exact Nat.add_zero _
  unfold State.woken
  rw [State.setRing_twice, Ring.woken_of_empty h, hbase]
  rfl

/-- The engine whose stalled STAMP was placed goes on to a WAIT step (R78, R84). -/
theorem event_wake_one {x : StallEntry} {run : Run} {now : PlanStep} {d : Nat} (hr : s.ring k = some r)
    (hl : r.stallList = [x]) (hx : x.sealOnEnd = false) (hf : r.filling = none) (hlt : r.awaited < r.segments.length)
    (hfree : (r.seg r.awaited).state = .free) (he : (s.engine x.engine).state = .stalled .stamp)
    (hrun : s.Executes x.engine run now) (hwait : (s.plan run.plan).steps[run.stepIndex + 1]? = some (.wait d)) :
    event (s.wake k) = (s.woken k r x.record).inWait x.engine run d := by
  have hdoes : Does [.resume x.engine .stamp] (s.woken k r x.record) ((s.woken k r x.record).inWait x.engine run d)
      [] 3 0 :=
    .andThen rfl (act_resume (s := s.woken k r x.record) .stamp hrun.1)
      (does_next_wait (s := s.woken k r x.record) hrun.1 hwait)
  rw [State.wake_one hr hl hx hf hlt hfree he]
  exact event_eq hdoes

end

/-- Settles O29. -/
theorem stallWakePlacesTheHead : Obligations.StallWakePlacesTheHead := by
  intro s k e r x run st d hreset hr hl he hx hf hlt hfree hstate hrun hwait
  subst he
  exact congrArg Host.Outcome.next
    ((awake_eq hreset).trans (event_wake_one hr hl hx hf hlt hfree hstate hrun hwait))

/-! ## SEAL-RING and RELEASE-SEGMENT -/

theorem ownSealRing_filling {s : State} {tag ring : Byte} {k : Fin 4} {r : Ring} {i : Nat}
    (hk : ring.toNat = k) (hr : s.ring k = some r) (hf : r.filling = some i) :
    ownSealRing tag ring s = (s.sealSegment k r i .host).replyOk tag 0x12#8
      (0x01#8 :: bytesBE 4 r.nextSeq.toNat ++ bytesBE 2 (r.seg i).wordsUsed) := by
  unfold ownSealRing
  rw [State.withRing_of_some hk hr, hf]

theorem ownReleaseSegment_none {s : State} {tag ring : Byte} {seqNo : Word} {k : Fin 4} {r : Ring}
    (hk : ring.toNat = k) (hr : s.ring k = some r) (hfind : r.find seqNo = none) :
    ownReleaseSegment tag ring seqNo s = s.replyNot tag 0x13#8 .notFound := by
  unfold ownReleaseSegment
  rw [State.withRing_of_some hk hr, hfind]

theorem ownReleaseSegment_reading {s : State} {tag ring : Byte} {seqNo : Word} {k : Fin 4} {r : Ring} {i : Nat} {b : Bool}
    (hk : ring.toNat = k) (hr : s.ring k = some r) (hfind : r.find seqNo = some i)
    (hs : (r.seg i).state = .reading b) :
    ownReleaseSegment tag ring seqNo s = s.replyNot tag 0x13#8 .badState := by
  unfold ownReleaseSegment
  rw [State.withRing_of_some hk hr, hfind]
  dsimp only
  rw [hs]

theorem ownReleaseSegment_frees {s : State} {tag ring : Byte} {seqNo : Word} {k : Fin 4} {r : Ring} {i : Nat}
    (hk : ring.toNat = k) (hr : s.ring k = some r) (hfind : r.find seqNo = some i)
    (hs : (r.seg i).state = .sealed ∨ (r.seg i).state = .read) :
    ownReleaseSegment tag ring seqNo s
      = (event ((s.setRing k (some (r.setSeg i .empty))).wake k)).replyOk tag 0x13#8 [] := by
  unfold ownReleaseSegment
  rw [State.withRing_of_some hk hr, hfind]
  dsimp only
  rcases hs with hs | hs
  · rw [hs]; rfl
  · rw [hs]; rfl

/-- What an admission leaves goes with what the owner does. -/
theorem State.admitted_filled (s : State) (tag kind : Byte) (k : Fin 4) (x : Option Ring) (w : Nat) (xs : List Word)
    (e : Fin 4) (r : Run) (d : Nat) :
    (((s.admitted tag kind).setRing k x).withWords w xs).inWait e r d
      = (((s.setRing k x).withWords w xs).inWait e r d).admitted tag kind := rfl

/-- Settles O26. -/
theorem segmentsAreSealedAndReleased : Obligations.SegmentsAreSealedAndReleased := by
  refine ⟨fun s tag ring k r i h hk hroom => ?_, fun s tag ring seqNo k r h hk hr => ⟨fun hfind => ?_,
      fun i b hfind hs => ?_, fun i hfind hs hl => ?_⟩, fun r seqNo => ⟨fun i => r.find_eq_some, r.find_eq_none⟩,
    fun s tag ring seqNo k r i h hk hr hfind hs => ⟨fun hne hfree => ?_, fun x run now d ha hlt hf hl hx he hrun hwait => ?_⟩⟩
  · have hfilling := hroom.filling
    obtain ⟨hr, -⟩ := hroom
    exact congrArg Host.Outcome.next (h.receive_answered (t := s.sealSegment k r i .host) rfl rfl
      (ownSealRing_filling (s := s.admitted tag 0x12#8) hk hr hfilling))
  · exact congrArg Host.Outcome.next (h.receive_not .notFound 0x00#8 rfl
      (ownReleaseSegment_none (s := s.admitted tag 0x13#8) hk hr hfind))
  · exact congrArg Host.Outcome.next (h.receive_not .badState 0x00#8 rfl
      (ownReleaseSegment_reading (s := s.admitted tag 0x13#8) hk hr hfind hs))
  · refine congrArg Host.Outcome.next (h.receive_answered (t := s.setRing k (some (r.setSeg i .empty))) rfl rfl
      ((ownReleaseSegment_frees (s := s.admitted tag 0x13#8) hk hr hfind hs).trans ?_))
    rw [State.wake_quiet (r := r.setSeg i .empty) (State.setRing_self _ _ _) (.inl hl), event_nil]
    rfl
  · refine congrArg Host.Outcome.next (h.receive_answered (t := s.setRing k (some (r.setSeg i .empty))) rfl rfl
      ((ownReleaseSegment_frees (s := s.admitted tag 0x13#8) hk hr hfind hs).trans ?_))
    have hseg : (r.setSeg i .empty).seg (r.setSeg i .empty).awaited = r.seg r.awaited :=
      (Ring.seg_setSeg _ _ _).trans (if_neg fun heq => hne heq.1.symm)
    rw [State.wake_quiet (r := r.setSeg i .empty) (State.setRing_self _ _ _) (.inr (by rw [hseg]; exact hfree)), event_nil]
    rfl
  · subst ha
    have hempty : (r.setSeg r.awaited .empty).seg r.awaited = .empty := (Ring.seg_setSeg _ _ _).trans (if_pos ⟨rfl, hlt⟩)
    have hnone : (r.setSeg r.awaited .empty).filling = none := by
      refine Ring.filling_eq_none.mpr fun j hj => ?_
      rw [Ring.seg_setSeg]
      split
      · nofun
      · exact Ring.filling_eq_none.mp hf j hj
    have hwoken := event_wake_one (s := (s.admitted tag 0x13#8).setRing k (some (r.setSeg r.awaited .empty)))
      (r := r.setSeg r.awaited .empty) (State.setRing_self _ _ _) hl hx hnone (by exact (List.length_set).symm ▸ hlt)
      (congrArg Segment.state hempty) he hrun hwait
    rw [State.woken_of_empty hempty, State.admitted_filled] at hwoken
    have howner : ownReleaseSegment tag ring seqNo (s.admitted tag 0x13#8)
        = ((((s.setRing k (some (r.filledAnew x.record))).withWords (r.segBase r.awaited) x.record.words).inWait
            x.engine run d).admitted tag 0x13#8).placeReply tag 0x13#8 [0x00#8] :=
      (ownReleaseSegment_frees (s := s.admitted tag 0x13#8) hk hr hfind hs).trans
        (congrArg (fun t : State => t.replyOk tag 0x13#8 []) hwoken)
    exact congrArg Host.Outcome.next (h.receive_answered rfl rfl howner)

end Sys2Proof.Machine
end

section
/-! PROOFS. The engines' runs from begin to end: a commit touches the rings, the memory and the notices alone; a run
begins with its record (R60, R67), goes on from step to step (R68, R82 to R84), and ends with its report (R42, R85, R87,
R88). -/

namespace Sys2Proof.Machine

-- One proof after the other, as in the tests: many at once would each hold a thread.
set_option Elab.async false

/-! ## What a commit reads and writes -/

/-- `s` with what `u` has in its rings, its memory, its notice queue and its time base. -/
def State.over (s u : State) : State :=
  { s with rings := u.rings, mem := u.mem, notices := u.notices, timeBase := u.timeBase }

section
variable (s u : State) (k : Fin 4) (rec : Record)

theorem State.over_self : s.over s = s := rfl

theorem State.over_ite (p : Prop) [Decidable p] (v w : State) :
    s.over (if p then v else w) = if p then s.over v else s.over w := apply_ite s.over p v w

theorem State.sealIfFull_over : (s.over u).sealIfFull k rec = s.over (u.sealIfFull k rec) := by
  unfold State.sealIfFull
  rw [show (s.over u).ring k = u.ring k from rfl]
  cases u.ring k with
  | none => rfl
  | some r =>
    dsimp only
    cases r.filling with
    | none => rfl
    | some i =>
      rw [State.over_ite]
      rfl

theorem State.openIfNeeded_over : (s.over u).openIfNeeded k = s.over (u.openIfNeeded k) := by
  unfold State.openIfNeeded
  rw [show (s.over u).ring k = u.ring k from rfl]
  cases u.ring k with
  | none => rfl
  | some r =>
    dsimp only
    cases r.filling with
    | none =>
      rw [State.over_ite]
      rfl
    | some i => rfl

theorem State.appendRecord_over (r : Ring) (i : Nat) :
    (s.over u).appendRecord k r i rec = s.over (u.appendRecord k r i rec) := by
  unfold State.appendRecord
  rw [show (s.over u).mem = u.mem from rfl]
  generalize Memory.writeWords u.mem (r.segBase i + (r.seg i).wordsUsed) rec.words = m
  rfl

omit rec in
theorem State.sealSegment_over (r : Ring) (i : Nat) (cause : SealCause) :
    (s.over u).sealSegment k r i cause = s.over (u.sealSegment k r i cause) := rfl

theorem State.appendFilling_over (b : Bool) : (s.over u).appendFilling k rec b
    = (s.over (u.appendFilling k rec b).1, (u.appendFilling k rec b).2) := by
  unfold State.appendFilling
  rw [show (s.over u).ring k = u.ring k from rfl]
  cases u.ring k with
  | none => rfl
  | some r =>
    dsimp only
    cases r.filling with
    | none => rfl
    | some i =>
      dsimp only
      rw [State.appendRecord_over]
      generalize u.appendRecord k r i rec = v
      cases b with
      | false => rfl
      | true => exact congrArg (·, true) (State.sealSegment_over s v k _ i .runEnd)

theorem State.place_over (b : Bool) :
    (s.over u).place k rec b = (s.over (u.place k rec b).1, (u.place k rec b).2) := by
  unfold State.place
  rw [State.sealIfFull_over, State.openIfNeeded_over, State.appendFilling_over]

theorem State.drop_over (r : Ring) : (s.over u).drop k r = s.over (u.drop k r) := by
  unfold State.drop
  dsimp only
  rw [State.over_ite]
  rfl

/-- A commit reads and writes nothing but the rings, the memory, the notices and the time base. -/
theorem State.commit_over (e : Fin 4) (b : Bool) :
    (s.over u).commit k e rec b = (s.over (u.commit k e rec b).1, (u.commit k e rec b).2) := by
  unfold State.commit
  rw [State.place_over]
  generalize u.place k rec b = x
  obtain ⟨v, placed⟩ := x
  dsimp only
  cases placed with
  | true => rfl
  | false =>
    rw [if_neg Bool.false_ne_true, if_neg Bool.false_ne_true, show (s.over v).ring k = v.ring k from rfl]
    cases v.ring k with
    | none => rfl
    | some r =>
      dsimp only
      cases r.policy with
      | discard => exact congrArg (·, CommitEnd.dropped) (State.drop_over s v k r)
      | stall => rfl

/-- What else there is in the state, a commit leaves as it was. -/
theorem State.commit_frame (e : Fin 4) (b : Bool) :
    (s.commit k e rec b).1 = s.over (s.commit k e rec b).1 :=
  congrArg Prod.fst (s.commit_over s k rec e b)

end

/-! ## An engine at its run -/

/-- Engine `e` in state `x` with run `r`. -/
def State.atRun (s : State) (e : Fin 4) (x : EngineState) (r : Run) : State :=
  s.setEngine e { s.engine e with state := x, run := some r }

section
variable {s : State} {e : Fin 4} {x y : EngineState} {r q : Run}

theorem State.atRun_engine : (s.atRun e x r).engine e = { s.engine e with state := x, run := some r } :=
  State.setEngine_self _ _ _

theorem State.atRun_run : ((s.atRun e x r).engine e).run = some r := congrArg Engine.run State.atRun_engine

theorem State.atRun_state : ((s.atRun e x r).engine e).state = x := congrArg Engine.state State.atRun_engine

theorem State.atRun_atRun : (s.atRun e x r).atRun e y q = s.atRun e y q := by
  unfold State.atRun
  rw [State.setEngine_self, State.setEngine_twice]

theorem State.atRun_setRun : (s.atRun e x r).setRun e q = s.atRun e x q := by
  unfold State.setRun
  rw [State.atRun_engine]
  exact State.setEngine_twice _ _ _ _

theorem State.atRun_setEngineState : (s.atRun e x r).setEngineState e y = s.atRun e y r := by
  unfold State.setEngineState
  rw [State.atRun_engine]
  exact State.setEngine_twice _ _ _ _

theorem State.atRun_setEngine (g : Engine) : (s.atRun e x r).setEngine e g = s.setEngine e g :=
  State.setEngine_twice _ _ _ _

/-- An engine is where it is. -/
theorem State.atRun_eq_self (hx : (s.engine e).state = x) (hr : (s.engine e).run = some r) : s.atRun e x r = s := by
  have hsame : ({ s.engine e with state := x, run := some r } : Engine) = s.engine e := by rw [← hx, ← hr]
  have hset : s.engines.set e s.engines[e] = s.engines := Vector.set_getElem_self _
  unfold State.atRun State.setEngine
  rw [hsame]
  exact congrArg (fun v => { s with engines := v }) hset

theorem State.commit_atRun (k f : Fin 4) (rec : Record) (b : Bool) :
    (s.atRun e x r).commit k f rec b = ((s.commit k f rec b).1.atRun e x r, (s.commit k f rec b).2) := by
  have hover := (s.atRun e x r).commit_over s k rec f b
  have hframe := s.commit_frame k rec f b
  generalize s.commit k f rec b = c at hover hframe ⊢
  rw [hframe]
  exact hover

end

/-! ## What the commit of a run's record leads to -/

section
variable {s : State} {e : Fin 4} {x : EngineState} {r : Run}

/-- The commit of a record of the run at the ring of its plan. -/
def State.committing (s : State) (e : Fin 4) (r : Run) (time : Time) (body : RecordBody) (b : Bool) :
    State × CommitEnd :=
  s.commit (s.plan r.plan).attrs.ring e ⟨r.plan, r.stepIndex, time, body⟩ b

theorem State.commitRecord_ends {time : Time} {body : RecordBody} {b : Bool} {nx : Resume}
    (h : (s.committing e r time body b).2 ≠ .stalled) :
    (s.atRun e x r).commitRecord e r time body b nx
      = ((s.committing e r time body b).1.atRun e x r, [.resume e nx]) := by
  have hcommit := State.commit_atRun (s := s) (e := e) (x := x) (r := r) (s.plan r.plan).attrs.ring e
    ⟨r.plan, r.stepIndex, time, body⟩ b
  unfold State.committing at h ⊢
  unfold State.commitRecord
  rw [show (s.atRun e x r).plan r.plan = s.plan r.plan from rfl, hcommit]
  generalize s.commit (s.plan r.plan).attrs.ring e ⟨r.plan, r.stepIndex, time, body⟩ b = c at h ⊢
  obtain ⟨t, o⟩ := c
  dsimp only at h ⊢
  cases o with
  | placed => rfl
  | dropped => rfl
  | stalled => exact absurd rfl h

theorem State.commitRecord_stalls {time : Time} {body : RecordBody} {b : Bool} {nx : Resume}
    (h : (s.committing e r time body b).2 = .stalled) :
    (s.atRun e x r).commitRecord e r time body b nx
      = ((s.committing e r time body b).1.atRun e (.stalled nx) r, []) := by
  have hcommit := State.commit_atRun (s := s) (e := e) (x := x) (r := r) (s.plan r.plan).attrs.ring e
    ⟨r.plan, r.stepIndex, time, body⟩ b
  unfold State.committing at h ⊢
  unfold State.commitRecord
  rw [show (s.atRun e x r).plan r.plan = s.plan r.plan from rfl, hcommit]
  generalize s.commit (s.plan r.plan).attrs.ring e ⟨r.plan, r.stepIndex, time, body⟩ b = c at h ⊢
  obtain ⟨t, o⟩ := c
  dsimp only at h ⊢
  subst h
  exact congrArg (·, []) State.atRun_setEngineState

/-- The plans are none of a commit's business. -/
theorem State.committing_plan (time : Time) (body : RecordBody) (b : Bool) (p : Fin 32) :
    (s.committing e r time body b).1.plan p = s.plan p :=
  congrArg (·.plan p) (s.commit_frame _ _ _ _)

theorem State.committing_engine (time : Time) (body : RecordBody) (b : Bool) (f : Fin 4) :
    (s.committing e r time body b).1.engine f = s.engine f :=
  congrArg (·.engine f) (s.commit_frame _ _ _ _)

/-- Where the engine is known, so is what its run leaves of it. -/
theorem State.atRun_of {t : State} {g : Engine} (h : t.engine e = g) :
    t.atRun e x r = t.setEngine e { g with state := x, run := some r } := by
  unfold State.atRun
  rw [h]

/-! ## From step to step -/

/-- The next step is a WAIT (R68, R84). -/
theorem does_next_wait_atRun {d : Nat} (h : (s.plan r.plan).steps[r.stepIndex + 1]? = some (.wait d)) :
    Does [.next e] (s.atRun e x r) (s.atRun e (.waiting d) r.atNext) [] 2 0 := by
  have hdoes := does_next_wait (s := s.atRun e x r) State.atRun_run h
  have hat : (s.atRun e x r).inWait e r d = s.atRun e (.waiting d) r.atNext := State.atRun_atRun
  rwa [hat] at hdoes

/-- The run's step is a WAIT. -/
theorem does_step_wait_atRun {d : Nat} (h : (s.plan r.plan).steps[r.stepIndex]? = some (.wait d)) :
    Does [.step e] (s.atRun e x r) (s.atRun e (.waiting d) r) [] 1 0 := by
  have hdoes := does_step_wait (s := s.atRun e x r) (e := e) (r := r) (d := d) ⟨State.atRun_run, h⟩
  rwa [State.atRun_setEngineState] at hdoes

/-- The run's next step begins (R68). -/
theorem does_next_step {st : PlanStep} {t : State} {last : List Act} {c b : Nat}
    (h : (s.plan r.plan).steps[r.stepIndex + 1]? = some st)
    (hstep : Does [.step e] (s.atRun e x r.atNext) t last c b) :
    Does [.next e] (s.atRun e x r) t last (c + 1) b := by
  have hnext := State.nextStep_of_some (s := s.atRun e x r) (e := e) (r := r) h
  rw [State.atRun_setRun] at hnext
  exact .andThen rfl ((act_next State.atRun_run).trans (congrArg Eff.andThen hnext)) hstep

/-- A STAMP step commits its record and goes on (R82). -/
theorem does_step_stamp {d : Nat} (hst : (s.plan r.plan).steps[r.stepIndex]? = some .stamp)
    (hwait : (s.plan r.plan).steps[r.stepIndex + 1]? = some (.wait d))
    (h : (s.committing e r s.timeBase .stamp false).2 ≠ .stalled) :
    Does [.step e] (s.atRun e x r)
      ((s.committing e r s.timeBase .stamp false).1.atRun e (.waiting d) r.atNext) [] 4 0 := by
  have hbegin : (s.atRun e x r).beginStep e r = (s.atRun e x r).commitRecord e r s.timeBase .stamp false .stamp := by
    unfold State.beginStep State.currentStep
    rw [show (s.atRun e x r).plan r.plan = s.plan r.plan from rfl, hst]
    rfl
  rw [State.commitRecord_ends h] at hbegin
  refine .andThen rfl ((act_step State.atRun_run).trans (congrArg Eff.andThen hbegin)) ?_
  refine .andThen rfl (act_resume .stamp State.atRun_run) (does_next_wait_atRun ?_)
  rw [State.committing_plan]
  exact hwait

theorem does_step_stamp_stalls (hst : (s.plan r.plan).steps[r.stepIndex]? = some .stamp)
    (h : (s.committing e r s.timeBase .stamp false).2 = .stalled) :
    Does [.step e] (s.atRun e x r)
      ((s.committing e r s.timeBase .stamp false).1.atRun e (.stalled .stamp) r) [] 1 0 := by
  have hbegin : (s.atRun e x r).beginStep e r = (s.atRun e x r).commitRecord e r s.timeBase .stamp false .stamp := by
    unfold State.beginStep State.currentStep
    rw [show (s.atRun e x r).plan r.plan = s.plan r.plan from rfl, hst]
    rfl
  rw [State.commitRecord_stalls h] at hbegin
  exact .andThen rfl ((act_step State.atRun_run).trans (congrArg Eff.andThen hbegin)) (.nil _)

/-- A NOTIFY step posts its notice and goes on (R83). -/
theorem does_step_notify {code : Byte} {d : Nat} (hst : (s.plan r.plan).steps[r.stepIndex]? = some (.notify code))
    (hwait : (s.plan r.plan).steps[r.stepIndex + 1]? = some (.wait d)) :
    Does [.step e] (s.atRun e x r)
      ((s.post .notify (byte r.plan) 0#32 (code.zeroExtend 16)).atRun e (.waiting d) r.atNext) [] 3 0 := by
  have hbegin : (s.atRun e x r).beginStep e r
      = ((s.post .notify (byte r.plan) 0#32 (code.zeroExtend 16)).atRun e x r, [.next e]) := by
    unfold State.beginStep State.currentStep
    rw [show (s.atRun e x r).plan r.plan = s.plan r.plan from rfl, hst]
    rfl
  exact .andThen rfl ((act_step State.atRun_run).trans (congrArg Eff.andThen hbegin)) (does_next_wait_atRun hwait)

/-! ## Port steps (R69 to R71) -/

/-- The run at a port step that has just begun (R69). -/
def Run.atPort (r : Run) (st : PortStep) : Run := { r with remaining := st.count, retry := 0, builder := [] }

theorem State.beginStep_port {st : PortStep} (h : (s.plan r.plan).steps[r.stepIndex]? = some (.port st)) :
    (s.atRun e x r).beginStep e r = (s.atRun e x r).beginPortStep e r st := by
  unfold State.beginStep State.currentStep
  rw [show (s.atRun e x r).plan r.plan = s.plan r.plan from rfl, h]

/-- Granted, the engine finds the sub-address and starts its first transfer (R70, R71). -/
theorem does_granted {st : PortStep} (h : (s.plan r.plan).steps[r.stepIndex]? = some (.port st))
    (hsub : ¬ (s.port st.port).subCount ≤ st.sub) :
    Does [.granted e] (s.atRun e x r) ((s.setPort st.port { s.port st.port with
      txn := some ((s.port st.port).ordinary (.engine e) st.fn st.sub) }).atRun e .transact r) [] 1 0 := by
  have hgranted := act_granted (s := s.atRun e x r) (e := e) (r := r) (st := st) ⟨State.atRun_run, h⟩
  have hcheck : (s.atRun e x r).checkSubAddress e st = ((s.setPort st.port { s.port st.port with
      txn := some ((s.port st.port).ordinary (.engine e) st.fn st.sub) }).atRun e .transact r, []) := by
    unfold State.checkSubAddress State.startTransfer
    rw [show (s.atRun e x r).port st.port = s.port st.port from rfl, if_neg hsub, Port.startOrdinary_eq]
    exact congrArg (·, []) (State.atRun_setEngineState (s := s.setPort st.port _))
  rw [hcheck] at hgranted
  exact .andThen rfl hgranted (.nil _)

theorem does_granted_absent {st : PortStep} {t : State} {last : List Act} {c b : Nat}
    (h : (s.plan r.plan).steps[r.stepIndex]? = some (.port st)) (hsub : (s.port st.port).subCount ≤ st.sub)
    (hfault : Does [.faultStep e .subaddrAbsent] (s.atRun e x r) t last c b) :
    Does [.granted e] (s.atRun e x r) t last (c + 1) b := by
  have hgranted := act_granted (s := s.atRun e x r) (e := e) (r := r) (st := st) ⟨State.atRun_run, h⟩
  have hcheck : (s.atRun e x r).checkSubAddress e st = (s.atRun e x r, [.faultStep e .subaddrAbsent]) := if_pos hsub
  rw [hcheck] at hgranted
  exact .andThen rfl hgranted hfault

/-- A free UP port grants the engine's request (R69, R127). -/
theorem does_step_port_free {st : PortStep} {t : State} {last : List Act} {c b : Nat}
    (h : (s.plan r.plan).steps[r.stepIndex]? = some (.port st)) (hst : (s.port st.port).state = .up)
    (hh : (s.port st.port).holder = none)
    (hgranted : Does [.granted e]
      ((s.setPort st.port { s.port st.port with holder := some (.engine e) }).atRun e x (r.atPort st)) t last c b) :
    Does [.step e] (s.atRun e x r) t last (c + 1) b := by
  have hstep := act_step (s := s.atRun e x r) State.atRun_run
  have hbegin : (s.atRun e x r).beginPortStep e r st
      = ((s.setPort st.port { s.port st.port with holder := some (.engine e) }).atRun e x (r.atPort st),
          [.granted e]) := by
    unfold State.beginPortStep
    rw [State.atRun_setRun]
    dsimp only
    rw [show (s.atRun e x { r with remaining := st.count, retry := 0, builder := [] }).port st.port = s.port st.port
      from rfl, Port.answer_free hst hh]
    rfl
  rw [State.beginStep_port h, hbegin] at hstep
  exact .andThen rfl hstep hgranted

/-- Behind a holder or through a retrain the engine waits at its place (R69, R127). -/
theorem does_step_port_waits {st : PortStep} (h : (s.plan r.plan).steps[r.stepIndex]? = some (.port st))
    (hw : ((s.port st.port).state = .up ∧ (s.port st.port).holder.isSome = true) ∨ (s.port st.port).state = .retraining) :
    Does [.step e] (s.atRun e x r) ((s.setPort st.port { s.port st.port with
      waiters := joinWaiters ⟨.engine e, r.priority⟩ (s.port st.port).waiters }).atRun e .awaitPort (r.atPort st)) [] 1 0 := by
  have hstep := act_step (s := s.atRun e x r) State.atRun_run
  have hbegin : (s.atRun e x r).beginPortStep e r st
      = ((s.setPort st.port { s.port st.port with
          waiters := joinWaiters ⟨.engine e, r.priority⟩ (s.port st.port).waiters }).atRun e .awaitPort (r.atPort st),
          []) := by
    unfold State.beginPortStep
    rw [State.atRun_setRun]
    dsimp only
    rw [show (s.atRun e x { r with remaining := st.count, retry := 0, builder := [] }).port st.port = s.port st.port
      from rfl, Port.answer_wait hw]
    exact congrArg (·, []) (State.atRun_setEngineState (s := s.setPort st.port _))
  rw [State.beginStep_port h, hbegin] at hstep
  exact .andThen rfl hstep (.nil _)

/-- A port that is down is a fault of the step, all its transfers remaining (R69). -/
theorem does_step_port_down {st : PortStep} {t : State} {last : List Act} {c b : Nat}
    (h : (s.plan r.plan).steps[r.stepIndex]? = some (.port st)) (hup : (s.port st.port).state ≠ .up)
    (hre : (s.port st.port).state ≠ .retraining)
    (hfault : Does [.faultStep e .portDown] (s.atRun e x (r.atPort st)) t last c b) :
    Does [.step e] (s.atRun e x r) t last (c + 1) b := by
  have hstep := act_step (s := s.atRun e x r) State.atRun_run
  have hbegin : (s.atRun e x r).beginPortStep e r st = (s.atRun e x (r.atPort st), [.faultStep e .portDown]) := by
    unfold State.beginPortStep
    rw [State.atRun_setRun]
    dsimp only
    rw [show (s.atRun e x { r with remaining := st.count, retry := 0, builder := [] }).port st.port = s.port st.port
      from rfl, Port.answer_down hup hre]
    rfl
  rw [State.beginStep_port h, hbegin] at hstep
  exact .andThen rfl hstep hfault

/-! ## The begin of a run (R41, R60, R67) -/

/-- The commit of the RUN_BEGIN of a run (R67). -/
def State.beginning (s : State) (e : Fin 4) (r : Run) (time : Time) : State × CommitEnd :=
  s.committing e r time (.runBegin r.runNumber r.source r.trigTime) false

theorem State.beginning_plan (time : Time) (p : Fin 32) : (s.beginning e r time).1.plan p = s.plan p :=
  State.committing_plan _ _ _ _

theorem does_begin {time : Time}
    (h : (s.beginning e r time).2 ≠ .stalled) {t : State}
    {last : List Act} {c b : Nat}
    (hstep : Does [.step e]
      ((s.beginning e r time).1.atRun e (.starting time) r) t last c b) :
    Does [.commitBegin e] (s.atRun e (.starting time) r) t last (c + 1 + 1) (b + 1) := by
  have hbegin := act_commitBegin (s := s.atRun e (.starting time) r) State.atRun_run State.atRun_state
  rw [State.commitRecord_ends h] at hbegin
  have hresume := act_resume (s := (s.beginning e r time).1.atRun e
    (.starting time) r) .runBegin State.atRun_run
  exact .begin hbegin (.andThen rfl hresume hstep)

/-- A run whose step 0 is a WAIT begins with its record and rests there. -/
theorem does_begin_wait {time : Time} {d : Nat} (hwait : (s.plan r.plan).steps[r.stepIndex]? = some (.wait d))
    (h : (s.beginning e r time).2 ≠ .stalled) :
    Does [.commitBegin e] (s.atRun e (.starting time) r)
      ((s.beginning e r time).1.atRun e (.waiting d) r) [] 3 1 := by
  refine does_begin h (does_step_wait_atRun ?_)
  rw [State.beginning_plan]
  exact hwait

theorem does_begin_stalls {time : Time}
    (h : (s.beginning e r time).2 = .stalled) :
    Does [.commitBegin e] (s.atRun e (.starting time) r)
      ((s.beginning e r time).1.atRun e (.stalled .runBegin) r)
      [] 1 1 := by
  have hbegin := act_commitBegin (s := s.atRun e (.starting time) r) State.atRun_run State.atRun_state
  rw [State.commitRecord_stalls h] at hbegin
  exact .begin hbegin (.nil _)

theorem State.idleEngine_eq_some (hidle : (s.engine e).state = .idle) (hlow : ∀ f < e, (s.engine f).state ≠ .idle) :
    s.idleEngine = some e :=
  find?_finRange_eq_some (beq_iff_eq.mpr hidle) fun f hf => beq_false_of_ne (hlow f hf)

/-- A request handed out: off the queue, its plan RUNNING under the next run number (R60, R67). -/
def State.handed (s : State) (q : RunRequest) (rest : List RunRequest) : State :=
  { s with runQueue := rest }.setPlan q.plan
    { s.plan q.plan with runStatus := .running, runNumber := (s.plan q.plan).runNumber + 1 }

theorem State.takeHead_of {q : RunRequest} {rest : List RunRequest} (hq : s.runQueue = q :: rest)
    (he : s.idleEngine = some e) : s.takeHead =
      ((s.handed q rest).atRun e (.starting s.timeBase) (q.run ((s.plan q.plan).runNumber + 1)), [.commitBegin e]) := by
  unfold State.takeHead
  rw [hq, he]
  rfl

theorem State.takeHead_none (h : s.runQueue = [] ∨ s.idleEngine = none) : s.takeHead = (s, []) := by
  unfold State.takeHead
  rcases h with h | h
  · rw [h]
  · rw [h]
    cases s.runQueue <;> rfl

/-- One request, one hand-out (R60). -/
theorem State.handOut_one {t : State} {acts : List Act} (h : s.takeHead = (t, acts)) (ht : t.runQueue = []) :
    s.handOut = (t, acts) := by
  have hstay : t.takeHead = (t, []) := State.takeHead_none (.inl ht)
  unfold State.handOut
  rw [show List.finRange 4 = [0, 1, 2, 3] from rfl]
  simp only [List.foldl_cons, List.foldl_nil, h, hstay, List.append_nil, List.nil_append]

/-! ## The end of a run (R42, R85, R88) -/

/-- The plan of a run that has ended (R42). -/
def State.reported (s : State) (p : Fin 32) : State :=
  s.setPlan p { s.plan p with runStatus := .idle, held := false }

theorem State.Unbound.setPlan {source : Source} (h : s.Unbound source) {p : Fin 32} {pl : Plan}
    (hpl : pl.attrs = (s.plan p).attrs) : (s.setPlan p pl).Unbound source := fun q => by
  rw [State.setPlan_get]
  split
  · next hq => rw [hpl]; exact h p
  · exact h q

theorem endReport_quiet {o : RunOutcome} (hheld : (s.plan r.plan).held = false)
    (ho : o = .done → s.Unbound (.done r.plan)) :
    (s.atRun e x r).endReport e o = ⟨(s.reported r.plan).atRun e x r, [], [], [.idle e]⟩ := by
  have hnot : ¬ ((s.plan r.plan).state = .armed ∧ (s.plan r.plan).held) := fun h => by
    rw [hheld] at h
    exact Bool.false_ne_true h.2
  unfold State.endReport
  rw [State.atRun_run]
  dsimp only
  rw [show (s.atRun e x r).plan r.plan = s.plan r.plan from rfl, if_neg hnot]
  by_cases hdone : o = .done
  · have hunbound : (((s.atRun e x r).setPlan r.plan { s.plan r.plan with runStatus := .idle, held := false })).Unbound
        (.done r.plan) := State.Unbound.setPlan (s := s.atRun e x r) (ho hdone) rfl
    rw [if_pos hdone, hunbound.arrivals]
    rfl
  · rw [if_neg hdone]
    rfl

/-- The event in which a run ends, nothing else waiting for its engine. -/
theorem event_ends {acts : List Act} {t : State} {c b : Nat} (h : Does acts s (t.atRun e x r) [.idle e] c b)
    (hqueue : t.runQueue = []) (hclear : t.clear = none) (htags : (t.engine e).abortTags = [])
    (hc : c ≤ 1048576 := by decide) (hb : b ≤ 64 := by decide) :
    event (s, acts) = t.setEngine e ⟨.idle, none, []⟩ := by
  have hnow : ((t.atRun e x r).engine e).abortTags = [] := by
    rw [State.atRun_engine]
    exact htags
  rw [event_of_does h hc hb, settle_idle (s := t.atRun e x r) hqueue hclear, State.nowIdle_of_noTags hnow,
    State.atRun_setEngine]

/-- The commit of the RUN_END of a run (R85). -/
def State.ending (s : State) (e : Fin 4) (r : Run) (reason : Option Reason) : State × CommitEnd :=
  s.committing e r s.timeBase (.runEnd reason r.remaining (s.plan r.plan).missCount r.samplesWritten)
    (s.plan r.plan).attrs.sealOnEnd

/-- The notice of a run at its normal end (R85). -/
def State.noteDone (s : State) (r : Run) : State :=
  s.post .runDone (byte r.plan) (BitVec.ofNat 32 r.samplesWritten) r.runNumber

theorem State.commitRunEnd_ends {reason : Option Reason} {r' : Run} (h : (s.ending e r reason).2 ≠ .stalled) :
    (s.atRun e x r').commitRunEnd e r reason = ((s.ending e r reason).1.atRun e .ending r, [.resume e (.runEnd reason)]) := by
  unfold State.commitRunEnd
  rw [State.atRun_setRun, State.atRun_setEngineState]
  exact State.commitRecord_ends h

theorem State.commitRunEnd_stalls {reason : Option Reason} {r' : Run} (h : (s.ending e r reason).2 = .stalled) :
    (s.atRun e x r').commitRunEnd e r reason
      = ((s.ending e r reason).1.atRun e (.stalled (.runEnd reason)) r, []) := by
  unfold State.commitRunEnd
  rw [State.atRun_setRun, State.atRun_setEngineState]
  exact State.commitRecord_stalls h

/-- A run past its last step. -/
def Run.pastLast (r : Run) : Run := { r with remaining := 0, retry := 0 }

theorem does_next_last {t : State} {last : List Act} {c b : Nat}
    (hlast : (s.plan r.plan).steps.length = r.stepIndex + 1)
    (h : Does [.finish e] (s.atRun e x r.pastLast) t last c b) : Does [.next e] (s.atRun e x r) t last (c + 1) b := by
  have hnext := State.nextStep_of_last (s := s.atRun e x r) (e := e) (r := r) hlast
  rw [State.atRun_setRun] at hnext
  exact .andThen rfl ((act_next State.atRun_run).trans (congrArg Eff.andThen hnext)) h

/-- The RUN_END is placed or dropped, RUN_DONE posted, and the run reported (R42, R85). -/
theorem does_finish {t u : State} {now last last' : List Act} {c b : Nat} (hr : r.remaining = 0)
    (h : (s.ending e r none).2 ≠ .stalled)
    (hreport : (((s.ending e r none).1.noteDone r).atRun e .ending r).endReport e .done = ⟨t, now, [], last⟩)
    (hnow : Does now t u last' c b) :
    Does [.finish e] (s.atRun e x r) u (last ++ last') (c + 1 + 1 + 1) b := by
  have hsame : { r with remaining := 0 } = r := by rw [← hr]
  have hfinish := act_finish (s := s.atRun e x r) State.atRun_run
  rw [hsame, State.commitRunEnd_ends h] at hfinish
  generalize (s.ending e r none).1 = v at hfinish hreport
  have hresume : act (.resume e (.runEnd none)) (v.atRun e .ending r)
      = .andThen ((v.noteDone r).atRun e .ending r, [.endReport e .done]) :=
    act_resume (s := v.atRun e .ending r) (.runEnd none) State.atRun_run
  exact .andThen rfl hfinish (.andThen rfl hresume (.one (a := .endReport e .done) rfl hreport hnow))

end

/-! ## RUN_TAKE -/

theorem State.handed_plan {s : State} {q : RunRequest} {rest : List RunRequest} :
    (s.handed q rest).plan q.plan
      = { s.plan q.plan with runStatus := .running, runNumber := (s.plan q.plan).runNumber + 1 } :=
  State.setPlan_self _ _ _

/-- The RUN_BEGIN of a run that finds room. -/
theorem State.handed_beginning {s : State} {q : RunRequest} {rest : List RunRequest} {e : Fin 4} {r : Ring} {i : Nat}
    (time : Time) (hroom : s.HasRoom (s.plan q.plan).attrs.ring r i 6) :
    (s.handed q rest).beginning e (q.run ((s.plan q.plan).runNumber + 1)) time
      = ((s.handed q rest).appendRecord (s.plan q.plan).attrs.ring r i
          ⟨q.plan, 0, time, .runBegin ((s.plan q.plan).runNumber + 1) q.source q.trigTime⟩, .placed) := by
  have hring : ((s.handed q rest).plan q.plan).attrs.ring = (s.plan q.plan).attrs.ring := by rw [State.handed_plan]
  unfold State.beginning State.committing
  rw [show (q.run ((s.plan q.plan).runNumber + 1)).plan = q.plan from rfl, hring]
  exact State.commit_fits (s := s.handed q rest) hroom

/-- Settles O39. -/
theorem takenRunBeginsWithItsRecord : Obligations.TakenRunBeginsWithItsRecord := by
  intro s q rest e r i d hreset hq hstarting hidle hlow hroom hwait
  have hnone : s.startingActs = [] := by
    have hfilter : (List.finRange 4).filter
        (fun e => match (s.engine e).state with | .starting _ => true | _ => false) = [] :=
      List.filter_eq_nil_iff.mpr fun f _ => by
        cases hf : (s.engine f).state with
        | starting n => exact absurd hf (hstarting f n)
        | _ => exact Bool.false_ne_true
    unfold State.startingActs
    exact congrArg (List.map Act.commitBegin) hfilter
  have htake := State.takeHead_of hq (State.idleEngine_eq_some hidle hlow)
  have hcommit := State.handed_beginning (s := s) (rest := rest) (q := q) (e := e) s.timeBase hroom
  have hbegin := does_begin_wait (s := s.handed q rest) (e := e) (time := s.timeBase) (d := d)
    (r := q.run ((s.plan q.plan).runNumber + 1)) ((congrArg (·.steps[0]?) State.handed_plan).trans hwait)
    (by rw [hcommit]; nofun)
  rw [hcommit] at hbegin
  refine congrArg Host.Outcome.next ((awake_eq hreset).trans ?_)
  unfold runTake
  rw [hnone, htake]
  exact event_eq hbegin

/-! ## The timers of an engine -/

theorem exec_waitExpiry {s : State} {e : Fin 4} {n : Nat} (hreset : s.inReset = false)
    (hx : (s.engine e).state = .waiting n) : exec (.waitExpiry e) s = .next (event (s, [.next e])) := by
  refine congrArg Host.Outcome.next ((awake_eq hreset).trans ?_)
  unfold waitExpiry State.waitEnd
  rw [hx]

/-- The end of a WAIT step, by what the next step does from there. -/
theorem exec_waitExpiry_does {s t : State} {e : Fin 4} {n c : Nat} {r : Run} (hreset : s.inReset = false)
    (hx : (s.engine e).state = .waiting n) (hr : (s.engine e).run = some r)
    (h : Does [.next e] (s.atRun e (.waiting n) r) t [] c 0) (hc : c ≤ 1048576 := by decide) :
    exec (.waitExpiry e) s = .next t := by
  rw [State.atRun_eq_self hx hr] at h
  rw [exec_waitExpiry hreset hx, event_eq h hc]

theorem zeroExtend_byte (b : Byte) : b.zeroExtend 16 = 0x00#8 ++ b := by
  refine BitVec.eq_of_toNat_eq ?_
  rw [toNat_append, BitVec.toNat_setWidth]
  simp only [BitVec.toNat_ofNat]
  omega

/-- Settles O40. -/
theorem engineTimersGoOnWithTheStep : Obligations.EngineTimersGoOnWithTheStep := by
  refine ⟨fun s e r st n d hreset hx hrun hwait => ?_, fun s e r now st n d hreset hx hrun hst hid hsub => ?_,
    fun s e r st n hreset hx hrun => ?_, fun s e r now n d hreset hx hrun hwait => ?_⟩
  · exact exec_waitExpiry_does hreset hx hrun.1 (does_next_wait_atRun hwait)
  · have hserved : ¬ (s.port st.port).subCount ≤ st.sub := by
      rw [Port.subCount_of_some hid]
      omega
    refine ⟨fun hup hh => ?_, fun hw => ?_⟩
    · have hgranted := does_granted (s := s.setPort st.port { s.port st.port with holder := some (.engine e) })
        (e := e) (x := .waiting n) (r := r.atNext.atPort st) (st := st) hst (by rw [State.setPort_self]; exact hserved)
      rw [State.setPort_self, State.setPort_twice] at hgranted
      have hdoes := does_next_step hst (does_step_port_free hst hup hh hgranted)
      refine (exec_waitExpiry_does hreset hx hrun.1 hdoes).trans ?_
      obtain ⟨fn, port, sub, count, busy, tolerate⟩ := st
      cases fn <;> rfl
    · exact exec_waitExpiry_does hreset hx hrun.1 (does_next_step hst (does_step_port_waits hst hw))
  · obtain ⟨hr, hst⟩ := hrun
    refine congrArg Host.Outcome.next ((awake_eq hreset).trans ?_)
    unfold spacingExpiry State.currentStep
    rw [hx, hr]
    dsimp only
    rw [hst]
    dsimp only
    unfold State.startTransfer
    rw [Port.startOrdinary_eq]
    obtain ⟨fn, port, sub, count, busy, tolerate⟩ := st
    cases fn <;> rfl
  · have hwait' : (s.plan r.atNext.plan).steps[r.atNext.stepIndex + 1]? = some (.wait d) := hwait
    intro on stamped
    have hstamped : s.committing e r.atNext s.timeBase .stamp false = stamped := rfl
    refine ⟨fun hst h => ?_, fun hst h => ?_, fun code hst => ?_⟩
    · rw [← hstamped] at h ⊢
      have hdoes := does_next_step (x := .waiting n) hst (does_step_stamp (r := r.atNext) hst hwait' h)
      rw [State.atRun_of (State.committing_engine _ _ _ _)] at hdoes
      exact exec_waitExpiry_does hreset hx hrun.1 hdoes (c := 5)
    · rw [← hstamped] at h ⊢
      have hdoes := does_next_step (x := .waiting n) hst (does_step_stamp_stalls (r := r.atNext) hst h)
      rw [State.atRun_of (State.committing_engine _ _ _ _)] at hdoes
      exact exec_waitExpiry_does hreset hx hrun.1 hdoes (c := 2)
    · have hdoes := does_next_step (e := e) (x := .waiting n) hst (does_step_notify (r := r.atNext) hst hwait')
      rw [zeroExtend_byte] at hdoes
      exact exec_waitExpiry_does hreset hx hrun.1 hdoes (c := 4)

end Sys2Proof.Machine
end

section
/-! PROOFS. The end of the last step, the stall expiry and FIRE: how a run ends and what the engine, the plan and the
Run Queue make of it (R37 to R42, R60, R67, R85, R87). -/

namespace Sys2Proof.Machine

-- One proof after the other, as in the tests: many at once would each hold a thread.
set_option Elab.async false

section
variable {s : State} {e : Fin 4} {x : EngineState} {r : Run}

theorem State.atRun_clear : (s.atRun e x r).clear = s.clear := rfl

/-! ## What a commit leaves alone -/

theorem State.commit_get {β : Type} {f : State → β} (hf : ∀ s u, f (State.over s u) = f s) (k g : Fin 4) (rec : Record)
    (b : Bool) : f (s.commit k g rec b).1 = f s := (congrArg f (s.commit_frame k rec g b)).trans (hf _ _)

theorem State.ending_get {β : Type} {f : State → β} (hf : ∀ s u, f (State.over s u) = f s) (o : Option Reason) :
    f (s.ending e r o).1 = f s := State.commit_get hf _ _ _ _

/-- A commit takes no time. -/
theorem State.commit_timeBase (k g : Fin 4) (rec : Record) (b : Bool) : (s.commit k g rec b).1.timeBase = s.timeBase :=
  (Keeps.commit (I := False) fun h => h.elim).time

/-- A commit takes no notice of an engine. -/
theorem State.commit_setEngine (g : Engine) (k f : Fin 4) (rec : Record) (b : Bool) :
    (s.setEngine e g).commit k f rec b = ((s.commit k f rec b).1.setEngine e g, (s.commit k f rec b).2) := by
  have hover := (s.setEngine e g).commit_over s k rec f b
  have hframe := s.commit_frame k rec f b
  generalize s.commit k f rec b = c at hover hframe ⊢
  rw [hframe]
  exact hover

theorem State.commit_admitted (tag kind : Byte) (k f : Fin 4) (rec : Record) (b : Bool) :
    (s.admitted tag kind).commit k f rec b
      = ((s.commit k f rec b).1.admitted tag kind, (s.commit k f rec b).2) := by
  have hover := (s.admitted tag kind).commit_over s k rec f b
  have hframe := s.commit_frame k rec f b
  generalize s.commit k f rec b = c at hover hframe ⊢
  rw [hframe]
  exact hover

/-! ## The end of the last step -/

/-- The state after a run's normal end, before its report (R85). -/
def State.ended (s : State) (e : Fin 4) (r : Run) : State := (s.ending e r.pastLast none).1.noteDone r.pastLast

theorem State.ended_get {β : Type} {f : State → β} (hf : ∀ s u, f (State.over s u) = f s)
    (hpost : ∀ (s : State) k j a b, f (s.post k j a b) = f s) : f (s.ended e r) = f s :=
  (hpost _ _ _ _ _).trans (State.ending_get hf _)

theorem State.ended_plan (p : Fin 32) : (s.ended e r).plan p = s.plan p :=
  State.ended_get (f := (·.plan p)) (fun _ _ => rfl) fun _ _ _ _ _ => rfl

theorem State.ended_engine (f : Fin 4) : (s.ended e r).engine f = s.engine f :=
  State.ended_get (f := (·.engine f)) (fun _ _ => rfl) fun _ _ _ _ _ => rfl

theorem State.ended_runQueue : (s.ended e r).runQueue = s.runQueue :=
  State.ended_get (f := State.runQueue) (fun _ _ => rfl) fun _ _ _ _ _ => rfl

theorem State.ended_clear : (s.ended e r).clear = s.clear :=
  State.ended_get (f := State.clear) (fun _ _ => rfl) fun _ _ _ _ _ => rfl

theorem State.ended_timeBase : (s.ended e r).timeBase = s.timeBase := by
  unfold State.ended State.noteDone State.ending State.committing
  rw [State.post_timeBase, State.commit_timeBase]

theorem State.ended_unbound {source : Source} (h : s.Unbound source) : (s.ended e r).Unbound source := fun q => by
  rw [State.ended_plan]
  exact h q

/-- A run whose RUN_END is placed or dropped is reported, and its engine becomes IDLE at the close (R42, R85). -/
theorem does_last_step (hlast : (s.plan r.plan).steps.length = r.stepIndex + 1)
    (h : (s.ending e r.pastLast none).2 ≠ .stalled) {t : State}
    (hreport : ((s.ended e r).atRun e .ending r.pastLast).endReport e .done = ⟨t, [], [], [.idle e]⟩) :
    Does [.next e] (s.atRun e x r) t [.idle e] 4 0 :=
  does_next_last hlast (does_finish rfl h hreport (.nil t))

theorem does_last_step_stalls (hlast : (s.plan r.plan).steps.length = r.stepIndex + 1)
    (h : (s.ending e r.pastLast none).2 = .stalled) :
    Does [.next e] (s.atRun e x r)
      ((s.ending e r.pastLast none).1.atRun e (.stalled (.runEnd none)) r.pastLast) [] 2 0 := by
  have hfinish := act_finish (s := s.atRun e x r.pastLast) State.atRun_run
  rw [show ({ r.pastLast with remaining := 0 } : Run) = r.pastLast from rfl, State.commitRunEnd_stalls h] at hfinish
  exact does_next_last hlast (.andThen rfl hfinish (.nil _))

theorem State.reported_of {p : Fin 32} {pl : Plan} (h : s.plan p = pl) :
    s.reported p = s.setPlan p { pl with runStatus := .idle, held := false } := by
  unfold State.reported
  rw [h]

/-- The expiry of the last WAIT step, nothing else waiting for its engine (R42, R60, R85, R88). -/
theorem exec_waitExpiry_last {n : Nat} (hreset : s.inReset = false) (hx : (s.engine e).state = .waiting n)
    (hr : (s.engine e).run = some r) (hlast : (s.plan r.plan).steps.length = r.stepIndex + 1)
    (h : (s.ending e r.pastLast none).2 ≠ .stalled) (hheld : (s.plan r.plan).held = false)
    (hunbound : s.Unbound (.done r.plan)) (hqueue : s.runQueue = []) (htags : (s.engine e).abortTags = [])
    (hclear : s.clear = none) :
    exec (.waitExpiry e) s = .next (((s.ended e r).setPlan r.plan
      { s.plan r.plan with runStatus := .idle, held := false }).setEngine e ⟨.idle, none, []⟩) := by
  have hreport := endReport_quiet (s := s.ended e r) (e := e) (x := .ending) (r := r.pastLast) (o := .done)
    (by rw [State.ended_plan]; exact hheld) fun _ => State.ended_unbound hunbound
  rw [State.reported_of (State.ended_plan _)] at hreport
  have hdoes := does_last_step (x := .waiting n) hlast h hreport
  rw [State.atRun_eq_self hx hr] at hdoes
  refine (exec_waitExpiry hreset hx).trans (congrArg Host.Outcome.next ?_)
  refine event_ends hdoes ?_ ?_ ?_
  · rw [State.setPlan_runQueue, State.ended_runQueue, hqueue]
  · rw [State.setPlan_clear, State.ended_clear, hclear]
  · rw [State.setPlan_get_engine, State.ended_engine, htags]

/-! ## A HELD run follows (R38, R41, R42) -/

/-- The request of a run that a trigger makes of plan `p` (R38). -/
def State.requestOf (s : State) (p : Fin 32) (source : Source) (time : Time) : RunRequest :=
  ⟨p, (s.plan p).attrs.priority, source, time, s.timeBase⟩

/-- The request at its place in the queue, its plan QUEUED (R38, R59). -/
def State.requested (s : State) (p : Fin 32) (source : Source) (time : Time) : State :=
  { s with runQueue := insertRequest (s.requestOf p source time) s.runQueue }.setPlan p
    { s.plan p with runStatus := .queued, missCount := 0 }

theorem State.queueRun_eq (p : Fin 32) (source : Source) (time : Time) :
    s.queueRun p source time = (s.requested p source time).takeHead := rfl

/-- With no engine IDLE the request waits (R60). -/
theorem State.queueRun_busy (h : s.AllBusy) (p : Fin 32) (source : Source) (time : Time) :
    s.queueRun p source time = (s.requested p source time, []) :=
  State.takeHead_none (.inr (idleEngine_none_iff.mpr h))

/-- A plan that begins its next run: RUNNING, its misses forgotten (R38, R67). -/
def State.running (s : State) (p : Fin 32) : State :=
  s.setPlan p { s.plan p with runStatus := .running, runNumber := (s.plan p).runNumber + 1, missCount := 0 }

theorem State.requested_plan (p : Fin 32) (source : Source) (time : Time) :
    (s.requested p source time).plan p = { s.plan p with runStatus := .queued, missCount := 0 } :=
  State.setPlan_self _ _ _

theorem State.running_plan (p : Fin 32) : (s.running p).plan p
    = { s.plan p with runStatus := .running, runNumber := (s.plan p).runNumber + 1, missCount := 0 } :=
  State.setPlan_self _ _ _

/-- The only request in the queue is handed out: its plan runs. -/
theorem State.requested_handed (hqueue : s.runQueue = []) (p : Fin 32) (source : Source) (time : Time) :
    (s.requested p source time).handed (s.requestOf p source time) [] = s.running p := by
  unfold State.handed
  rw [show (s.requestOf p source time).plan = p from rfl, State.requested_plan]
  unfold State.requested State.running
  refine (State.setPlan_twice { s with runQueue := [] } p _ _).trans ?_
  rw [← hqueue]

theorem State.reported_plan (p : Fin 32) :
    (s.reported p).plan p = { s.plan p with runStatus := .idle, held := false } := State.setPlan_self _ _ _

/-- A plan just reported that runs again at once. -/
theorem State.reported_running (p : Fin 32) : (s.reported p).running p = s.setPlan p { s.plan p with
    runStatus := .running, held := false, missCount := 0, runNumber := (s.plan p).runNumber + 1 } := by
  unfold State.running
  rw [State.reported_plan]
  exact State.setPlan_twice s p _ _

theorem State.requested_runQueue (hqueue : s.runQueue = []) (p : Fin 32) (source : Source) (time : Time) :
    (s.requested p source time).runQueue = [s.requestOf p source time] := by
  unfold State.requested
  rw [hqueue]
  rfl

theorem State.beginning_setEngine (g : Engine) (f h : Fin 4) (time : Time) :
    (s.setEngine f g).beginning h r time = ((s.beginning h r time).1.setEngine f g, (s.beginning h r time).2) :=
  State.commit_setEngine _ _ _ _ _

theorem State.beginning_get {β : Type} {f : State → β} (hf : ∀ s u, f (State.over s u) = f s) (time : Time) :
    f (s.beginning e r time).1 = f s := State.commit_get hf _ _ _ _

theorem State.setEngine_atRun (g : Engine) :
    (s.setEngine e g).atRun e x r = s.setEngine e { g with state := x, run := some r } := by
  unfold State.atRun
  rw [State.setEngine_self, State.setEngine_twice]

/-- The close of an event whose engine becomes IDLE and takes the only request at once, its step 0 a WAIT. -/
theorem settle_idle_begin {q : RunRequest} {d n : Nat} (hqueue : s.runQueue = [q]) (hclear : s.clear = none)
    (htags : (s.engine e).abortTags = []) (hbusy : ∀ f : Fin 4, f ≠ e → (s.engine f).state ≠ .idle)
    (hwait : ((s.handed q []).plan q.plan).steps[0]? = some (.wait d)) {run : Run}
    (hrun : q.run ((s.plan q.plan).runNumber + 1) = run)
    (h : ((s.handed q []).beginning e run s.timeBase).2 ≠ .stalled) :
    settle Config.settleFuel ⟨s.atRun e x r, [.idle e], n + 1⟩
      = ((s.handed q []).beginning e run s.timeBase).1.setEngine e ⟨.waiting d, some run, []⟩ := by
  have hnow : (s.atRun e x r).nowIdle e = s.setEngine e ⟨.idle, none, []⟩ := by
    have htags' : ((s.atRun e x r).engine e).abortTags = [] := by rw [State.atRun_engine]; exact htags
    rw [State.nowIdle_of_noTags htags', State.atRun_setEngine]
  have hidle : (s.setEngine e ⟨.idle, none, []⟩).idleEngine = some e := by
    refine State.idleEngine_eq_some (by rw [State.setEngine_self]) fun f hf => ?_
    rw [State.setEngine_other _ _ _ _ (Fin.ne_of_lt hf)]
    exact hbusy f (Fin.ne_of_lt hf)
  have htake := State.handOut_one (State.takeHead_of (s := s.setEngine e ⟨.idle, none, []⟩) hqueue hidle) rfl
  have hact : act .take (s.setEngine e ⟨.idle, none, []⟩)
      = ⟨((s.handed q []).setEngine e ⟨.idle, none, []⟩).atRun e (.starting s.timeBase) run, [], [.commitBegin e], []⟩ := by
    subst hrun
    exact congrArg Eff.thenLater htake
  have hbegin := State.beginning_setEngine (s := s.handed q []) (r := run) ⟨.idle, none, []⟩ e e s.timeBase
  have hplan : run.plan = q.plan := hrun ▸ rfl
  have hzero : run.stepIndex = 0 := hrun ▸ rfl
  have hdoes := does_begin_wait (s := (s.handed q []).setEngine e ⟨.idle, none, []⟩) (e := e) (r := run)
    (time := s.timeBase) (d := d) (by rw [hplan, hzero]; exact hwait) (by rw [hbegin]; exact h)
  rw [hbegin] at hdoes
  have hfuel : Config.settleFuel = (Config.settleFuel - 3) + 1 + 1 + 1 := rfl
  have hkept : ((s.handed q []).beginning e run s.timeBase).1.clear = (s.handed q []).clear :=
    State.beginning_get (f := State.clear) (fun _ _ => rfl) _
  have hclear' : ((((s.handed q []).beginning e run s.timeBase).1.setEngine e ⟨.idle, none, []⟩).atRun e
      (.waiting d) run).clear = none := by
    rw [State.atRun_clear, State.setEngine_clear, hkept]
    exact hclear
  rw [hfuel, settle_one (act_idle _ e), hnow, List.nil_append, settle_of_does hact hdoes,
    show ([.clearCheck] ++ [] ++ [] : List Act) = [.clearCheck] from rfl, settle_one (act_clearCheck_none hclear')]
  exact (settle_nil _ _ _).trans (State.setEngine_atRun _)

/-- A held trigger of an ARMED plan is queued with the report, here with no engine IDLE (R38, R42). -/
theorem endReport_held (harmed : (s.plan r.plan).state = .armed) (hheld : (s.plan r.plan).held = true)
    (hunbound : s.Unbound (.done r.plan)) (hx : x ≠ .idle)
    (hbusy : ∀ f : Fin 4, f ≠ e → (s.engine f).state ≠ .idle) :
    (s.atRun e x r).endReport e .done
      = ⟨((s.reported r.plan).requested r.plan .held s.timeBase).atRun e x r, [], [], [.idle e]⟩ := by
  have hall : ((s.reported r.plan).atRun e x r).AllBusy := fun f => by
    by_cases hf : f = e
    · rw [hf, State.atRun_state]
      exact hx
    · rw [show ((s.reported r.plan).atRun e x r).engine f = s.engine f from
        State.setEngine_other (s.reported r.plan) _ _ _ hf]
      exact hbusy f hf
  have hqueue := State.queueRun_busy hall r.plan .held s.timeBase
  have hnone : (((s.reported r.plan).atRun e x r).requested r.plan .held s.timeBase).Unbound (.done r.plan) := by
    refine State.Unbound.setPlan (s := { (s.reported r.plan).atRun e x r with runQueue := _ }) (p := r.plan) ?_ rfl
    exact State.Unbound.setPlan (s := s) hunbound rfl
  unfold State.endReport
  rw [State.atRun_run]
  dsimp only
  rw [show (s.atRun e x r).plan r.plan = s.plan r.plan from rfl, if_pos ⟨harmed, hheld⟩,
    show (s.atRun e x r).timeBase = s.timeBase from rfl]
  have hstate : (s.atRun e x r).setPlan r.plan { s.plan r.plan with runStatus := .idle, held := false }
      = (s.reported r.plan).atRun e x r := rfl
  rw [hstate, hqueue, if_pos rfl, hnone.arrivals]
  rfl

end

/-- The close of the event in which a HELD run follows the ended one (R38, R41, R42, R60, R67, R84). -/
theorem settle_held {s t : State} {e : Fin 4} {x : EngineState} {r run : Run} {p : Fin 32} {d : Nat}
    {c : State × CommitEnd} (hqueue : s.runQueue = []) (hclear : s.clear = none) (htags : (s.engine e).abortTags = [])
    (hbusy : ∀ f : Fin 4, f ≠ e → (s.engine f).state ≠ .idle)
    (hwait : (s.plan p).steps[0]? = some (.wait d))
    (hrun : run = ⟨p, (s.plan p).attrs.priority, (s.plan p).runNumber + 1, .held, s.timeBase, 0, 0, 0, 0, false, none, []⟩)
    (ht : t = s.setPlan p { s.plan p with
      runStatus := .running, held := false, missCount := 0, runNumber := (s.plan p).runNumber + 1 })
    (hc : t.beginning e run s.timeBase = c) (h : c.2 ≠ .stalled) :
    settle Config.settleFuel ⟨((s.reported p).requested p .held s.timeBase).atRun e x r, [.idle e], 64⟩
      = c.1.setEngine e ⟨.waiting d, some run, []⟩ := by
  have hhanded : ((s.reported p).requested p .held s.timeBase).handed ((s.reported p).requestOf p .held s.timeBase) []
      = t := by 
    rw [State.requested_handed (s := s.reported p) hqueue, State.reported_running, ht]
  have hrequest : ((s.reported p).requestOf p .held s.timeBase).run
      ((((s.reported p).requested p .held s.timeBase).plan p).runNumber + 1) = run := by
    rw [State.requested_plan, State.reported_plan, hrun]
    unfold State.requestOf RunRequest.run
    rw [State.reported_plan]
  have hplan : (t.plan p).steps[0]? = some (.wait d) := by
    rw [ht, State.setPlan_self]
    exact hwait
  subst hc
  rw [← hhanded] at h hplan ⊢
  have hone := State.requested_runQueue (s := s.reported p) hqueue p .held s.timeBase
  have hclear' : ((s.reported p).requested p .held s.timeBase).clear = none := hclear
  have hengine : ∀ f, ((s.reported p).requested p .held s.timeBase).engine f = s.engine f := fun _ => rfl
  have htime : ((s.reported p).requested p .held s.timeBase).timeBase = s.timeBase := rfl
  generalize (s.reported p).requested p .held s.timeBase = u at *
  rw [← htime] at h ⊢
  refine settle_idle_begin (n := 63) hone hclear' ?_ (fun f hf => ?_) hplan hrequest h
  · rw [hengine]; exact htags
  · rw [hengine]; exact hbusy f hf

/-- Settles O41. -/
theorem lastStepEndsTheRun : Obligations.LastStepEndsTheRun := by
  refine ⟨fun s e run st n r i hreset hx hrun hlast hseal hroom hheld hunbound hqueue htags hclear => ?_,
    fun s e run st n hreset hx hrun hlast => ?_,
    fun s e run st n d hreset hx hrun hlast harmed hheld hunbound hqueue hclear htags hbusy hwait => ?_⟩
  · have hcommit : s.ending e run.pastLast none = (s.appendRecord (s.plan run.plan).attrs.ring r i
        ⟨run.plan, run.stepIndex, s.timeBase, .runEnd none 0 (s.plan run.plan).missCount run.samplesWritten⟩, .placed) := by
      unfold State.ending
      rw [show (s.plan run.pastLast.plan).attrs.sealOnEnd = false from hseal]
      exact State.commit_fits hroom
    have hend := exec_waitExpiry_last hreset hx hrun.1 hlast (by rw [hcommit]; nofun) hheld hunbound hqueue htags hclear
    unfold State.ended at hend
    rw [hcommit] at hend
    exact hend
  · intro committed
    have hcommitted : s.ending e run.pastLast none = committed := rfl
    refine ⟨fun h hheld hunbound hqueue htags hclear => ?_, fun h => ?_⟩
    · rw [← hcommitted] at h ⊢
      exact exec_waitExpiry_last hreset hx hrun.1 hlast h hheld hunbound hqueue htags hclear
    · rw [← hcommitted] at h ⊢
      have hdoes := does_last_step_stalls (x := .waiting n) hlast h
      rw [State.atRun_of (State.ending_get (f := (·.engine e)) (fun _ _ => rfl) none)] at hdoes
      exact exec_waitExpiry_does hreset hx hrun.1 hdoes (c := 2)
  · intro pl ended begun hended hbegun
    have hheldRun := endReport_held (s := s.ended e run) (e := e) (x := .ending) (r := run.pastLast)
      (by rw [State.ended_plan]; exact harmed) (by rw [State.ended_plan]; exact hheld) (State.ended_unbound hunbound)
      nofun (fun f hf => by rw [State.ended_engine]; exact hbusy f hf)
    rw [State.ended_timeBase, show run.pastLast.plan = run.plan from rfl] at hheldRun
    have hlast := does_last_step (x := .waiting n) hlast hended hheldRun
    rw [State.atRun_eq_self hx hrun.1] at hlast
    have hbegin : ((s.ended e run).setPlan run.plan { pl with
          runStatus := .running, held := false, missCount := 0, runNumber := pl.runNumber + 1 }).beginning e
        ⟨run.plan, pl.attrs.priority, pl.runNumber + 1, .held, s.timeBase, 0, 0, 0, 0, false, none, []⟩ s.timeBase
        = begun := by
      unfold State.beginning State.committing
      rw [State.setPlan_self]
      rfl
    have hsettle := settle_held (s := s.ended e run) (e := e) (x := .ending) (r := run.pastLast) (p := run.plan) (d := d)
      (State.ended_runQueue.trans hqueue) (State.ended_clear.trans hclear) (by rw [State.ended_engine]; exact htags)
      (fun f hf => by rw [State.ended_engine]; exact hbusy f hf) (by rw [State.ended_plan]; exact hwait) rfl rfl rfl
    rw [State.ended_plan, State.ended_timeBase, hbegin] at hsettle
    refine (exec_waitExpiry hreset hx).trans (congrArg Host.Outcome.next ((event_of_does hlast (by decide) (by decide)).trans ?_))
    exact hsettle hbegun

/-! ## The expiry of a stall timer (R15, R87) -/

section
variable {s : State} {e : Fin 4} {x : EngineState} {r : Run}

/-- A run's record when it stops where it is. -/
def Run.emptied (r : Run) : Run := { r with builder := [], portLost := false }

theorem State.setRun_eq_atRun {q : Run} (hx : (s.engine e).state = x) : s.setRun e q = s.atRun e x q := by
  unfold State.setRun State.atRun
  rw [← hx]

/-- A run that fails for its stalled record: RUN_FAILED, and the report (R42, R87). -/
def State.failedStall (s : State) (r : Run) : State :=
  s.post .runFailed (byte r.plan) (BitVec.ofNat 32 r.remaining) (pair Reason.ringStall.code (byte r.stepIndex))

theorem does_stallFailed (hheld : (s.plan r.plan).held = false) :
    Does [.stallFailed e] (s.atRun e x r) (((s.failedStall r).reported r.plan).atRun e x r) [.idle e] 2 0 := by
  have hfailed := act_stallFailed (s := s.atRun e x r) (e := e) State.atRun_run
  have hreport := endReport_quiet (s := s.failedStall r) (e := e) (x := x) (r := r) (o := .failed .ringStall) hheld nofun
  exact .andThen rfl hfailed (.one (a := .endReport e (.failed .ringStall)) rfl hreport (.nil _))

theorem exec_stallTimerExpiry {y : Resume} (hreset : s.inReset = false) (hx : (s.engine e).state = .stalled y)
    (hr : (s.engine e).run = some r) : exec (.stallTimerExpiry e) s
      = .next (event ((s.leaveStall e).atRun e (.stalled y) r.emptied, [.release e, .stallFailed e])) := by
  refine congrArg Host.Outcome.next ((awake_eq hreset).trans ?_)
  unfold stallTimerExpiry State.stallEnd
  rw [hx, hr]
  dsimp only
  rw [State.setRun_eq_atRun (s := s.leaveStall e) hx]
  rfl

theorem State.heldPort_eq_none : s.heldPort e = none ↔ ∀ q : Fin 8, (s.port q).holder ≠ some (.engine e) := by
  unfold State.heldPort
  simp [List.find?_eq_none]

theorem State.heldPort_eq_some {q : Fin 8} (h : s.heldPort e = some q) : (s.port q).holder = some (.engine e) :=
  beq_iff_eq.mp (List.find?_some (p := fun q => (s.port q).holder == some (.engine e)) h)

end

/-- Settles O42. -/
theorem stallExpiryFailsTheRun : Obligations.StallExpiryFailsTheRun := by
  refine ⟨fun s e run y hreset hx hr hheld hqueue htags hclear => ?_,
    fun s e => ⟨rfl, State.heldPort_eq_none, fun q => State.heldPort_eq_some⟩⟩
  intro failed
  refine ⟨fun hnone => ?_, fun q hq hst hw hc => ?_⟩
  · have hrelease := does_release_none (s := (s.leaveStall e).atRun e (.stalled y) run.emptied) (e := e) hnone
    have hdoes := hrelease.cons (does_stallFailed (s := s.leaveStall e) (e := e) (x := .stalled y) (r := run.emptied) hheld)
    refine (exec_stallTimerExpiry hreset hx hr).trans (congrArg Host.Outcome.next ?_)
    exact event_ends (t := ((s.leaveStall e).failedStall run.emptied).reported run.plan) hdoes hqueue hclear htags
  · have hrelease := does_release_quiet (s := (s.leaveStall e).atRun e (.stalled y) run.emptied) (e := e) hq hw hc
    have hdoes := hrelease.cons (does_stallFailed (s := (s.leaveStall e).setPort q { s.port q with holder := none })
      (e := e) (x := .stalled y) (r := run.emptied) hheld)
    refine (exec_stallTimerExpiry hreset hx hr).trans (congrArg Host.Outcome.next ?_)
    exact event_ends (t := (((s.leaveStall e).setPort q { s.port q with holder := none }).failedStall
      run.emptied).reported run.plan) hdoes hqueue hclear htags

/-! ## FIRE (R37 to R41) -/

theorem Plan.arrival_queued {pl : Plan} (ha : pl.state = .armed) (hs : pl.runStatus = .idle) :
    pl.arrival = .queued := by
  unfold Plan.arrival
  rw [ha, hs]

theorem Plan.arrival_held {pl : Plan} (ha : pl.state = .armed) (hs : pl.runStatus ≠ .idle)
    (ho : pl.attrs.overlap = .hold) (hh : pl.held = false) : pl.arrival = .held := by
  unfold Plan.arrival
  rw [ha, ho, hh]
  cases hr : pl.runStatus with
  | idle => exact absurd hr hs
  | queued => rfl
  | running => rfl

theorem Plan.arrival_missed {pl : Plan} (ha : pl.state = .armed) (hs : pl.runStatus ≠ .idle)
    (ho : pl.attrs.overlap = .miss ∨ pl.held = true) : pl.arrival = .missed := by
  have hoverlap : (match pl.attrs.overlap with | .miss => Arrival.missed | .hold => if pl.held then .missed else .held)
      = .missed := by
    cases hover : pl.attrs.overlap with
    | miss => rfl
    | hold =>
      have hheld := ho.resolve_left (by rw [hover]; nofun)
      exact if_pos hheld
  unfold Plan.arrival
  rw [ha]
  cases hr : pl.runStatus with
  | idle => exact absurd hr hs
  | queued => exact hoverlap
  | running => exact hoverlap

theorem Plan.arrival_ignored {pl : Plan} (ha : pl.state ≠ .armed) : pl.arrival = .ignored := by
  unfold Plan.arrival
  cases hp : pl.state with
  | armed => exact absurd hp ha
  | empty => rfl
  | opened => rfl
  | ready => rfl

section
variable {s : State} {p : Fin 32} {source : Source} {time : Time}

theorem State.arrive_queued (h : (s.plan p).arrival = .queued) :
    s.arrive p source time = .thenLater (s.queueRun p source time) := by
  unfold State.arrive
  rw [h]

theorem State.arrive_held (h : (s.plan p).arrival = .held) :
    s.arrive p source time = .just (s.setPlan p { s.plan p with held := true }) := by
  unfold State.arrive
  rw [h]

theorem State.arrive_missed (h : (s.plan p).arrival = .missed) : s.arrive p source time = .just (s.miss p source) := by
  unfold State.arrive
  rw [h]

theorem State.arrive_ignored (h : (s.plan p).arrival = .ignored) : s.arrive p source time = .just s := by
  unfold State.arrive
  rw [h]

/-- With no engine IDLE the request waits in the queue (R38, R60). -/
theorem State.arrive_busy (h : (s.plan p).arrival = .queued) (hbusy : s.AllBusy) :
    s.arrive p source time = .just (s.requested p source time) := by
  rw [State.arrive_queued h, State.queueRun_busy hbusy]
  rfl

end

/-- A miss below the greatest count (R39). -/
theorem State.miss_eq {s : State} {p : Fin 32} {source : Source} (h : (s.plan p).missCount < 65535) :
    s.miss p source =
      (let t := s.setPlan p { s.plan p with missCount := (s.plan p).missCount + 1 }
       if (s.plan p).missCount = 0 then t.post .triggerMissed (byte p) (source.code.zeroExtend 32) 0#16 else t) := by
  have hmin : min ((s.plan p).missCount + 1) Config.max16 = (s.plan p).missCount + 1 := Nat.min_eq_left h
  unfold State.miss
  dsimp only
  rw [hmin]

theorem State.miss_admitted {s : State} {tag kind : Byte} {p : Fin 32} {source : Source} :
    (s.admitted tag kind).miss p source = (s.miss p source).admitted tag kind := by
  unfold State.miss
  dsimp only
  rw [State.admit_get_plan]
  split <;> rfl

theorem State.miss_link (s : State) (p : Fin 32) (source : Source) : (s.miss p source).link = s.link := by
  unfold State.miss
  dsimp only
  split <;> rfl

/-- One action with what follows from it later, and nothing at the close. -/
theorem event_thenLater {s t u : State} {a : Act} {acts : List Act} {c b : Nat} (ha : a.begins = false)
    (hact : act a s = .thenLater (t, acts)) (h : Does acts t u [] c b) (hc : c ≤ 1048575 := by decide)
    (hb : b ≤ 64 := by decide) : event (s, [a]) = u := by
  have hcarry : carryOut Config.eventFuel [a] (Moment.start s) = ⟨u, [], 64 - b⟩ := by
    have hfuel : Config.eventFuel = 1048575 + 1 := rfl
    have hsplit : (1048575 - c) + c = 1048575 := Nat.sub_add_cancel hc
    have hbegins : (64 - b) + b = 64 := Nat.sub_add_cancel hb
    have hrun := h (1048575 - c) [] [] (64 - b)
    rw [List.append_nil, carryOut_nil, hsplit, hbegins] at hrun
    rw [hfuel, carryOut_cons _ _ _ _ ha, show (Moment.start s).st = s from rfl, hact]
    exact hrun
  exact (congrArg (settle Config.settleFuel) hcarry).trans (settle_nil _ _ _)

theorem exec_fire {s t : State} {tag plan : Byte} {p : Fin 32} {code : Byte} (h : s.Accepts tag) (hp : plan.toNat = p)
    (harmed : (s.plan p).state = .armed) (hcode : (s.plan p).arrival.code = code) (hlink : t.link = s.link)
    (hevent : event (s.admitted tag 0x27#8, [.arrive p .host s.timeBase]) = t.admitted tag 0x27#8) :
    exec (.fire tag plan) s = .next (t.answered tag 0x27#8 [0x00#8, code]) := by
  refine congrArg Host.Outcome.next (h.receive_answered (t := t) rfl hlink ?_)
  unfold ownFire
  rw [State.withPlan_of_eq hp, State.admit_get_plan, if_neg (not_not_intro harmed), State.admit_timeBase, hevent, hcode]
  rfl

/-- Settles O33. -/
theorem fireQueuesHoldsOrMisses : Obligations.FireQueuesHoldsOrMisses := by
  refine ⟨fun s tag plan p h hp => ⟨fun hnot => ?_, fun harmed hidle hbusy => ?_, fun harmed hrun hover hheld => ?_,
    fun harmed hrun hover hcount => ?_⟩, fun s tag plan p e d h hp harmed hstatus hqueue hidle hlow hwait => ?_⟩
  · refine congrArg Host.Outcome.next (h.receive_not .badState 0x00#8 rfl ?_)
    unfold ownFire
    rw [State.withPlan_of_eq hp]
    exact if_pos hnot
  · have harrival := Plan.arrival_queued harmed hidle
    have hdoes : Does [.arrive p .host s.timeBase] (s.admitted tag 0x27#8)
        ((s.requested p .host s.timeBase).admitted tag 0x27#8) [] 1 0 :=
      .just rfl (State.arrive_busy (s := s.admitted tag 0x27#8) harrival hbusy)
    exact exec_fire h hp harmed (by rw [harrival]; rfl) rfl (event_eq hdoes)
  · have harrival := Plan.arrival_held harmed hrun hover hheld
    have hdoes : Does [.arrive p .host s.timeBase] (s.admitted tag 0x27#8)
        ((s.setPlan p { s.plan p with held := true }).admitted tag 0x27#8) [] 1 0 :=
      .just rfl (State.arrive_held (s := s.admitted tag 0x27#8) harrival)
    exact exec_fire h hp harmed (by rw [harrival]; rfl) rfl (event_eq hdoes)
  · have harrival := Plan.arrival_missed harmed hrun hover
    have hdoes : Does [.arrive p .host s.timeBase] (s.admitted tag 0x27#8) ((s.admitted tag 0x27#8).miss p .host) [] 1 0 :=
      .just rfl (State.arrive_missed (s := s.admitted tag 0x27#8) harrival)
    rw [State.miss_admitted] at hdoes
    have hmiss := State.miss_eq (source := .host) hcount
    rw [← show (Source.host.code.zeroExtend 32 : Word) = 0x80#32 by decide, ← hmiss]
    exact exec_fire h hp harmed (by rw [harrival]; rfl) (State.miss_link _ _ _) (event_eq hdoes)
  · have harrival := Plan.arrival_queued harmed hstatus
    intro pl begun run
    have harrive := State.arrive_queued (s := s.admitted tag 0x27#8) (source := .host) (time := s.timeBase) harrival
    have hidle' : ((s.admitted tag 0x27#8).requested p .host s.timeBase).idleEngine = some e :=
      State.idleEngine_eq_some hidle hlow
    have htake := State.takeHead_of (State.requested_runQueue (s := s.admitted tag 0x27#8) hqueue p .host s.timeBase) hidle'
    have hrequest : ((s.admitted tag 0x27#8).requestOf p .host s.timeBase).run
        ((((s.admitted tag 0x27#8).requested p .host s.timeBase).plan p).runNumber + 1) = run := by
      rw [State.requested_plan]
      rfl
    rw [State.requested_handed (s := s.admitted tag 0x27#8) hqueue,
      show ((s.admitted tag 0x27#8).requestOf p .host s.timeBase).plan = p from rfl, hrequest] at htake
    rw [State.queueRun_eq, htake] at harrive
    have hbegun : (s.running p).beginning e run s.timeBase = begun := by
      unfold State.beginning State.committing
      rw [show run.plan = p from rfl, State.running_plan]
      rfl
    have hcommit : ((s.running p).admitted tag 0x27#8).beginning e run s.timeBase
        = (begun.1.admitted tag 0x27#8, begun.2) := hbegun ▸ State.commit_admitted tag 0x27#8 _ _ _ _
    have hkept : begun.1.engine e = s.engine e :=
      State.commit_get (f := (·.engine e)) (fun _ _ => rfl) _ _ _ _
    have hlink : begun.1.link = s.link := State.commit_get (f := State.link) (fun _ _ => rfl) _ _ _ _
    clear_value begun
    refine ⟨fun hplaced => ?_, fun hstalled => ?_⟩
    · have hdoes := does_begin_wait (s := (s.running p).admitted tag 0x27#8) (e := e) (r := run) (time := s.timeBase)
        (d := d) (by rw [show run.plan = p from rfl, State.admit_get_plan, State.running_plan]; exact hwait)
        (by rw [hcommit]; exact hplaced)
      rw [hcommit] at hdoes
      rw [← State.atRun_of hkept]
      exact exec_fire h hp harmed (by rw [harrival]; rfl) hlink (event_thenLater rfl harrive hdoes)
    · have hdoes := does_begin_stalls (s := (s.running p).admitted tag 0x27#8) (e := e) (r := run) (time := s.timeBase)
        (by rw [hcommit]; exact hstalled)
      rw [hcommit] at hdoes
      rw [← State.atRun_of hkept]
      exact exec_fire h hp harmed (by rw [harrival]; rfl) hlink (event_thenLater rfl harrive hdoes)

end Sys2Proof.Machine
end

section
/-! PROOFS. DISARM-PLAN, ABORT-RUN and the stop of an aborted run (R35, R61, R62, R89 to R91). -/

namespace Sys2Proof.Machine

-- One proof after the other, as in the tests: many at once would each hold a thread.
set_option Elab.async false

section
variable {s t : State} {e : Fin 4} {x : EngineState} {r : Run} {cause : AbortCause}

/-! ## An aborted run stops (R42, R88, R91) -/

/-- The notice of an aborted run (R91). -/
def State.noteAborted (s : State) (r : Run) (cause : AbortCause) : State :=
  s.post .runAborted (byte r.plan) (BitVec.ofNat 32 r.remaining) (pair cause.code (byte r.stepIndex))

/-- What an aborted run leaves of itself but its engine (R42, R91). -/
def State.abortedRun (s : State) (r : Run) (cause : AbortCause) : State := (s.noteAborted r cause).reported r.plan

/-- A run stops as soon as its grant is released; its engine becomes IDLE at the close (R91). -/
theorem does_stop (hcause : r.abortCause = some cause) (hheld : (t.plan r.plan).held = false)
    (hrelease : Does [.release e] (s.atRun e .ending r.emptied) (t.atRun e .ending r.emptied) [] 1 0) :
    Does [.stop e] (s.atRun e x r) ((t.abortedRun r cause).atRun e .ending r.emptied) [.idle e] 4 0 := by
  have hstop := act_stop (s := s.atRun e x r) (e := e) State.atRun_run
  rw [State.atRun_setRun, State.atRun_setEngineState] at hstop
  have hstopped := act_stopped (s := t.atRun e .ending r.emptied) (e := e) (r := r.emptied) State.atRun_run hcause
  have hreport := endReport_quiet (s := t.noteAborted r cause) (e := e) (x := .ending) (r := r.emptied)
    (o := .aborted cause) hheld nofun
  have hend : Does [.stopped e] (t.atRun e .ending r.emptied) ((t.abortedRun r cause).atRun e .ending r.emptied)
      [.idle e] 2 0 := .andThen rfl hstopped (.one (a := .endReport e (.aborted cause)) rfl hreport (.nil _))
  exact .andThen rfl hstop (hrelease.cons hend)

/-- The event in which an aborted run stops: the waiting requests are answered in order (R88, R91). -/
theorem event_stops (hcause : r.abortCause = some cause) (hheld : (t.plan r.plan).held = false)
    (hqueue : t.runQueue = []) (hclear : t.clear = none)
    (hrelease : Does [.release e] (s.atRun e .ending r.emptied) (t.atRun e .ending r.emptied) [] 1 0) :
    event (s.atRun e x r, [.stop e]) = (t.engine e).abortTags.foldl (fun u tag => u.replyOk tag 0x38#8 [])
      ((t.abortedRun r cause).setEngine e ⟨.idle, none, []⟩) := by
  have htags : (((t.abortedRun r cause).atRun e .ending r.emptied).engine e).abortTags = (t.engine e).abortTags := by
    rw [State.atRun_engine]
    rfl
  rw [event_of_does (does_stop hcause hheld hrelease) (by decide) (by decide),
    settle_idle (s := (t.abortedRun r cause).atRun e .ending r.emptied) hqueue hclear, State.nowIdle, htags,
    State.atRun_setEngine]

/-! ## An engine takes an abort (R90) -/

/-- A run that is aborted (R90). -/
def Run.abortedBy (r : Run) (cause : AbortCause) : Run := { r with abortCause := some cause }

/-- The engine's run under an abort, a trigger held at its plan forgotten (R90). -/
def State.aborting (s : State) (e : Fin 4) (r : Run) (cause : AbortCause) : State :=
  (s.setPlan r.plan { s.plan r.plan with held := false }).atRun e (s.engine e).state (r.abortedBy cause)

/-- The abort of a run that has none yet, by the engine's state (R90). -/
theorem State.abortEngine_eq {acts : List Act} (hr : (s.engine e).run = some r) (hnew : r.abortCause = none)
    (hstate : (match (s.engine e).state with
      | .idle | .transact => (s.aborting e r cause, [])
      | .starting _ | .spacing _ | .waiting _ | .ending => (s.aborting e r cause, [.stop e])
      | .awaitPort => ({ s.aborting e r cause with
          ports := (s.aborting e r cause).ports.map fun q => q.leave (.engine e) }, [.stop e])
      | .stalled _ => ((s.aborting e r cause).leaveStall e, [.stop e])) = (t, acts)) :
    s.abortEngine e cause = (t, acts) := by
  have hnone : ¬ r.abortCause.isSome = true := by rw [hnew]; exact Bool.false_ne_true
  have hsame : (s.setRun e { r with abortCause := some cause }).setPlan r.plan { s.plan r.plan with held := false }
      = s.aborting e r cause := rfl
  unfold State.abortEngine
  rw [hr]
  dsimp only
  rw [if_neg hnone, hsame]
  refine Eq.trans ?_ hstate
  cases (s.engine e).state <;> rfl

theorem State.abortEngine_transact (hr : (s.engine e).run = some r) (hnew : r.abortCause = none)
    (hx : (s.engine e).state = .transact) : s.abortEngine e cause = (s.aborting e r cause, []) := by
  refine State.abortEngine_eq hr hnew ?_
  rw [hx]

/-- An engine with neither a transaction nor a place in a list stops at once. -/
theorem State.abortEngine_stops (hr : (s.engine e).run = some r) (hnew : r.abortCause = none)
    (hx : (∃ n, (s.engine e).state = .waiting n) ∨ (∃ n, (s.engine e).state = .starting n)
      ∨ (s.engine e).state = .ending ∨ ∃ n, (s.engine e).state = .spacing n) :
    s.abortEngine e cause = (s.aborting e r cause, [.stop e]) := by
  refine State.abortEngine_eq hr hnew ?_
  obtain ⟨n, h⟩ | ⟨n, h⟩ | h | ⟨n, h⟩ := hx <;> rw [h]

theorem State.abortEngine_awaitPort (hr : (s.engine e).run = some r) (hnew : r.abortCause = none)
    (hx : (s.engine e).state = .awaitPort) : s.abortEngine e cause = ({ s.aborting e r cause with
      ports := (s.aborting e r cause).ports.map fun q => q.leave (.engine e) }, [.stop e]) := by
  refine State.abortEngine_eq hr hnew ?_
  rw [hx]

theorem State.abortEngine_stalled {y : Resume} (hr : (s.engine e).run = some r) (hnew : r.abortCause = none)
    (hx : (s.engine e).state = .stalled y) :
    s.abortEngine e cause = ((s.aborting e r cause).leaveStall e, [.stop e]) := by
  refine State.abortEngine_eq hr hnew ?_
  rw [hx]

/-! ## ABORT-RUN of a running plan (R89) -/

/-- A plan that the abort has unheld is reported as it was (R42, R90). -/
theorem State.abortedRun_unheld :
    (s.setPlan r.plan { s.plan r.plan with held := false }).abortedRun r cause = s.abortedRun r cause := by
  unfold State.abortedRun
  have hplan : ((s.setPlan r.plan { s.plan r.plan with held := false }).noteAborted r cause).plan r.plan
      = { s.plan r.plan with held := false } := State.setPlan_self _ _ _
  rw [State.reported_of hplan]
  exact State.setPlan_twice (s.noteAborted r cause) _ _ _

end

section
variable {s : State} {tag plan : Byte} {p : Fin 32} {e : Fin 4} {r : Run}

theorem ownAbortRun_running (hp : plan.toNat = p) (hst : (s.plan p).runStatus = .running)
    (he : s.engineOf p = some e) : ownAbortRun tag plan s = event ((s.awaitIdle e tag).abortEngine e .host) := by
  unfold ownAbortRun
  rw [State.withPlan_of_eq hp, hst, he]

theorem exec_abortRun_refused {st : Status} (h : s.Accepts tag)
    (ho : ownAbortRun tag plan (s.admitted tag 0x38#8) = (s.admitted tag 0x38#8).replyNot tag 0x38#8 st) :
    exec (.abortRun tag plan) s = .next (s.answered tag 0x38#8 [st.code, 0x00#8]) :=
  congrArg Host.Outcome.next (h.receive_not st 0x00#8 rfl ho)

end

/-- The release of the engine's grant, if it holds one, takes `s` to `t` and no one waits for the grant (R129). -/
def State.FreesTo (s : State) (e : Fin 4) (t : State) : Prop :=
  (s.heldPort e = none ∧ t = s)
  ∨ ∃ q, s.heldPort e = some q ∧ (s.port q).waiters = [] ∧ (s.port q).commitPending = false
      ∧ t = s.setPort q { s.port q with holder := none }

section
variable {s u v : State} {tag plan : Byte} {p : Fin 32} {e : Fin 4} {r : Run}

theorem State.FreesTo.does (h : s.FreesTo e v) : Does [.release e] s v [] 1 0 := by
  obtain ⟨hnone, rfl⟩ | ⟨q, hq, hw, hc, rfl⟩ := h
  · exact does_release_none hnone
  · exact does_release_quiet hq hw hc

theorem State.FreesTo.get {β : Type} {f : State → β} (h : u.FreesTo e v) (hf : ∀ (s : State) q x, f (s.setPort q x) = f s) :
    f v = f u := by
  obtain ⟨-, rfl⟩ | ⟨q, -, -, -, rfl⟩ := h
  · rfl
  · exact hf _ _ _

/-- The engine's abort of a run, with the request that waits for it (R89, R90). -/
def State.abortFor (s : State) (e : Fin 4) (r : Run) (tag : Byte) : State :=
  ((s.admitted tag 0x38#8).awaitIdle e tag).aborting e r .host

/-- What the abort leaves, the engine IDLE again (R91). -/
def State.stopped (s : State) (e : Fin 4) (r : Run) : State :=
  (s.abortedRun r .host).setEngine e ⟨.idle, none, []⟩

/-- The engine at its aborted run, its grant not yet released. -/
def State.stopping (s : State) (e : Fin 4) (r : Run) (tag : Byte) : State :=
  ((s.admitted tag 0x38#8).awaitIdle e tag).setPlan r.plan { s.plan r.plan with held := false }

/-- A release reads and writes the ports alone. -/
theorem State.FreesTo.does_of {u' v' : State} (h : u.FreesTo e v) (hports : u'.ports = u.ports)
    (hstay : v = u → v' = u') (hset : ∀ q x, v = u.setPort q x → v' = u'.setPort q x) :
    Does [.release e] u' v' [] 1 0 := by
  have hport : ∀ q, u'.port q = u.port q := fun q => by unfold State.port; rw [hports]
  have hheld : u'.heldPort e = u.heldPort e := by unfold State.heldPort; simp only [hport]
  obtain ⟨hnone, hv⟩ | ⟨q, hq, hw, hc, hv⟩ := h
  · rw [hstay hv]
    exact does_release_none (hheld.trans hnone)
  · rw [hset q _ hv, ← hport]
    exact does_release_quiet (hheld.trans hq) (by rw [hport]; exact hw) (by rw [hport]; exact hc)

theorem State.FreesTo.does_stopping {y : Run} {x : EngineState} (h : u.FreesTo e v) :
    Does [.release e] ((u.stopping e r tag).atRun e x y) ((v.stopping e r tag).atRun e x y) [] 1 0 :=
  h.does_of rfl (fun hv => by rw [hv]) fun q z hv => by rw [hv]; rfl

/-- The engine that waits for its ABORT-RUN is the one that took it. -/
theorem State.awaitIdle_engine {s : State} {e : Fin 4} {tag : Byte} : (s.awaitIdle e tag).engine e
    = { s.engine e with abortTags := (s.engine e).abortTags ++ [tag] } := State.setEngine_self _ _ _

theorem State.abortFor_eq : u.abortFor e r tag = (u.stopping e r tag).atRun e (u.engine e).state (r.abortedBy .host) := by
  unfold State.abortFor State.aborting
  rw [State.awaitIdle_engine]
  rfl

theorem State.abortedRun_admitted {cause : AbortCause} :
    (s.admitted tag 0x38#8).abortedRun r cause = (s.abortedRun r cause).admitted tag 0x38#8 := rfl

theorem State.abortedRun_awaitIdle {cause : AbortCause} :
    (s.awaitIdle e tag).abortedRun r cause = (s.abortedRun r cause).awaitIdle e tag := rfl

theorem State.stopping_abortedRun {y : Run} (hplan : y.plan = r.plan) :
    (u.stopping e r tag).abortedRun y .host = ((u.abortedRun y .host).admitted tag 0x38#8).awaitIdle e tag := by
  have hunheld := State.abortedRun_unheld (s := (u.admitted tag 0x38#8).awaitIdle e tag) (r := y) (cause := .host)
  rw [hplan, State.abortedRun_awaitIdle, State.abortedRun_admitted] at hunheld
  rw [← hunheld]
  rfl

/-- The event in which an aborted run stops and its one waiting request is answered. -/
theorem event_abortFor (h : u.FreesTo e v) (htags : (u.engine e).abortTags = []) (hqueue : u.runQueue = [])
    (hclear : u.clear = none) :
    event (u.abortFor e r tag, [.stop e]) = ((v.stopped e r).admitted tag 0x38#8).replyOk tag 0x38#8 [] := by
  have hunheld : ((v.stopping e r tag).plan r.plan).held = false := congrArg Plan.held (State.setPlan_self _ _ _)
  have htags' : ((v.stopping e r tag).engine e).abortTags = [tag] := by
    have hengine : v.engine e = u.engine e := h.get (f := (·.engine e)) fun _ _ _ => rfl
    have hself : (v.stopping e r tag).engine e = { v.engine e with abortTags := (v.engine e).abortTags ++ [tag] } :=
      State.setEngine_self _ _ _
    rw [hself, hengine, htags]
    rfl
  have hstops := event_stops (s := u.stopping e r tag) (t := v.stopping e r tag) (e := e) (x := (u.engine e).state)
    (r := r.abortedBy .host) (cause := .host) rfl hunheld ((h.get (f := State.runQueue) fun _ _ _ => rfl).trans hqueue)
    ((h.get (f := State.clear) fun _ _ _ => rfl).trans hclear) h.does_stopping
  have hidle : (((v.abortedRun r .host).admitted tag 0x38#8).awaitIdle e tag).setEngine e ⟨.idle, none, []⟩
      = (v.stopped e r).admitted tag 0x38#8 := State.setEngine_twice ((v.abortedRun r .host).admitted tag 0x38#8) _ _ _
  rw [htags', State.stopping_abortedRun (r := r) (y := r.abortedBy .host) rfl] at hstops
  rw [State.abortFor_eq]
  exact hstops.trans (congrArg (fun w : State => w.replyOk tag 0x38#8 []) hidle)

/-- A run that stops at once (R89, R90, R91): `u` is what its engine has left, `v` has its grant released too. -/
theorem exec_abortRun_stops (h : s.Accepts tag) (hp : plan.toNat = p) (hst : (s.plan p).runStatus = .running)
    (he : s.engineOf p = some e)
    (habort : ((s.admitted tag 0x38#8).awaitIdle e tag).abortEngine e .host = (u.abortFor e r tag, [.stop e]))
    (hframe : u.FreesTo e v) (htags : (u.engine e).abortTags = []) (hqueue : u.runQueue = []) (hclear : u.clear = none)
    (hlink : u.link = s.link) :
    exec (.abortRun tag plan) s = .next ((v.stopped e r).answered tag 0x38#8 [0x00#8]) := by
  have hlink' : (v.stopped e r).link = s.link := (hframe.get (f := State.link) fun _ _ _ => rfl).trans hlink
  refine congrArg Host.Outcome.next (h.receive_answered rfl hlink' ?_)
  rw [ownAbortRun_running (s := s.admitted tag 0x38#8) hp hst he, habort]
  exact event_abortFor hframe htags hqueue hclear

/-- A stopped run, its plan as it was at the request. -/
theorem State.stopped_of {pl : Plan} (h : u.plan r.plan = pl) :
    u.stopped e r = ((u.post .runAborted (byte r.plan) (BitVec.ofNat 32 r.remaining) (0x01#8 ++ byte r.stepIndex)).setPlan
      r.plan { pl with runStatus := .idle, held := false }).setEngine e ⟨.idle, none, []⟩ :=
  congrArg (State.setEngine · e ⟨.idle, none, []⟩) (State.reported_of (s := u.noteAborted r .host) h)

end

theorem exec_disarmPlan_refused {s : State} {tag plan : Byte} {p : Fin 32} (h : s.Accepts tag) (hp : plan.toNat = p)
    (hnot : (s.plan p).state ≠ .armed) :
    exec (.disarmPlan tag plan) s = .next (s.answered tag 0x24#8 [0x11#8, 0x00#8]) := by
  refine congrArg Host.Outcome.next (h.receive_not .badState 0x00#8 rfl ?_)
  unfold ownDisarmPlan
  rw [State.withPlan_of_eq hp]
  exact if_pos hnot

/-- A plan disarmed (R35). -/
def State.disarmed (s : State) (p : Fin 32) : State := s.setPlan p { s.plan p with state := .ready, held := false }

/-- DISARM-PLAN of an ARMED plan, by its run status. -/
theorem ownDisarmPlan_armed {s : State} {tag plan : Byte} {p : Fin 32} (hp : plan.toNat = p)
    (harmed : (s.plan p).state = .armed) :
    ((s.plan p).runStatus = .idle → ownDisarmPlan tag plan s = (s.disarmed p).replyOk tag 0x24#8 [0x00#8])
    ∧ ((s.plan p).runStatus = .running → ownDisarmPlan tag plan s = (s.disarmed p).replyOk tag 0x24#8 [0x02#8])
    ∧ ((s.plan p).runStatus = .queued →
        ownDisarmPlan tag plan s = ((s.disarmed p).removeQueued p .disarm).replyOk tag 0x24#8 [0x01#8]) := by
  unfold ownDisarmPlan State.disarmed
  rw [State.withPlan_of_eq hp, if_neg (not_not_intro harmed)]
  dsimp only
  refine ⟨fun hidle => ?_, fun hrun => ?_, fun hqueued => ?_⟩
  · rw [hidle]
  · rw [hrun]
  · rw [hqueued]

/-- The removal of a queued request, its plan disarmed before (R43, R62). -/
theorem State.disarmed_removeQueued (s : State) (p : Fin 32) : (s.disarmed p).removeQueued p .disarm =
    ({ s with runQueue := s.runQueue.filter fun q => q.plan != p }.setPlan p { s.plan p with
      state := .ready, runStatus := .idle, held := false }).post .runAborted (byte p) 0#32 0x02FF#16 := by
  have hplan : (s.disarmed p).plan p = { s.plan p with state := .ready, held := false } := State.setPlan_self _ _ _
  have hcode : pair AbortCause.disarm.code 0xFF#8 = 0x02FF#16 := by decide
  unfold State.removeQueued
  rw [hplan, hcode]
  exact congrArg (fun t : State => t.post .runAborted (byte p) 0#32 0x02FF#16)
    (State.setPlan_twice { s with runQueue := s.runQueue.filter fun q => q.plan != p } p _ _)

theorem State.removeQueued_host (s : State) (p : Fin 32) : s.removeQueued p .host =
    ({ s with runQueue := s.runQueue.filter fun q => q.plan != p }.setPlan p { s.plan p with
      runStatus := .idle, held := false }).post .runAborted (byte p) 0#32 0x01FF#16 := by
  have hcode : pair AbortCause.host.code 0xFF#8 = 0x01FF#16 := by decide
  unfold State.removeQueued
  rw [hcode]

/-- An abort leaves the engine that takes it as it is but for its run (R90). -/
theorem State.aborting_eq {s : State} {e : Fin 4} {r : Run} {cause : AbortCause} : s.aborting e r cause
    = (s.setEngine e { s.engine e with run := some (r.abortedBy cause) }).setPlan r.plan
        { s.plan r.plan with held := false } := rfl

theorem State.heldPort_congr {s t : State} {e : Fin 4} (h : ∀ q, (t.port q).holder = (s.port q).holder) :
    t.heldPort e = s.heldPort e := by
  unfold State.heldPort
  simp only [h]

/-- An engine that leaves every wait list leaves the grants alone. -/
theorem State.leaveAll_holder (s : State) (w : Requester) (q : Fin 8) :
    (State.port { s with ports := s.ports.map fun q => q.leave w } q).holder = (s.port q).holder :=
  (congrArg Port.holder (Vector.getElem_map (xs := s.ports) (i := q) (fun q : Port => q.leave w) q.isLt) :)

/-- A port whose holder stays is held as before. -/
theorem State.heldPort_setPort {s : State} {e : Fin 4} {q : Fin 8} {x : Port} (h : x.holder = (s.port q).holder) :
    (s.setPort q x).heldPort e = s.heldPort e := by
  refine State.heldPort_congr fun p => ?_
  by_cases hp : p = q
  · rw [hp, State.setPort_self, h]
  · rw [State.setPort_other _ _ _ _ hp]

/-- The outcome of an aborted run's transaction is discarded, and the run stops (R91). -/
theorem State.engineOutcome_aborted {s : State} {e : Fin 4} {r : Run} {cause : AbortCause} {o : TxnOutcome} {v : Value}
    (hr : (s.engine e).run = some r) (hcause : r.abortCause = some cause) :
    s.engineOutcome e o v = (s.atRun e (s.engine e).state r, [.stop e]) := by
  unfold State.engineOutcome
  rw [hr]
  dsimp only
  rw [hcause, State.atRun_eq_self rfl hr]
  rfl

theorem State.engineOf_some {s : State} {p : Fin 32} {e : Fin 4} (h : s.engineOf p = some e) :
    ∃ r, (s.engine e).run = some r ∧ r.plan = p := by
  unfold State.engineOf at h
  have hany := List.find?_some h
  obtain ⟨r, hr, hp⟩ := (Option.any_eq_true _ _).mp hany
  exact ⟨r, hr, beq_iff_eq.mp hp⟩

theorem State.engineOf_none {s : State} {p : Fin 32} (h : s.engineOf p = none) {e : Fin 4} {r : Run}
    (hr : (s.engine e).run = some r) : r.plan ≠ p := by
  intro hp
  refine List.find?_eq_none.mp h e (List.mem_finRange e) ?_
  rw [hr]
  exact beq_iff_eq.mpr hp

/-- Settles O32. -/
theorem disarmAndAbortDealWithTheRun : Obligations.DisarmAndAbortDealWithTheRun := by
  refine ⟨fun s tag plan p h hp => ⟨fun hnot => exec_disarmPlan_refused h hp hnot, fun harmed hidle => ?_,
      fun harmed hrun => ?_, fun harmed hqueued => ?_⟩,
    fun s tag plan p h hp => ⟨fun hidle => ?_, fun hqueued => ?_, fun e r hrun he hr hx hnew hplan => ?_⟩,
    fun s tag plan p e r h hp hrun he hr hplan hnew htags hqueue hclear => ?_,
    fun s q e word t r cause hreset hst ht hreq hr hcause hheld hw hc hunheld hqueue hclear hmsb hjudge => ?_,
    fun s p => ⟨fun e he => ?_, fun hnone e r hr => ?_⟩⟩
  · obtain ⟨hown, -, -⟩ := ownDisarmPlan_armed (s := s.admitted tag 0x24#8) (tag := tag) hp harmed
    exact congrArg Host.Outcome.next (h.receive_answered (t := s.disarmed p) rfl rfl (hown hidle))
  · obtain ⟨-, hown, -⟩ := ownDisarmPlan_armed (s := s.admitted tag 0x24#8) (tag := tag) hp harmed
    exact congrArg Host.Outcome.next (h.receive_answered (t := s.disarmed p) rfl rfl (hown hrun))
  · obtain ⟨-, -, hown⟩ := ownDisarmPlan_armed (s := s.admitted tag 0x24#8) (tag := tag) hp harmed
    rw [← s.disarmed_removeQueued p]
    exact congrArg Host.Outcome.next (h.receive_answered (t := (s.disarmed p).removeQueued p .disarm) rfl rfl (hown hqueued))
  · refine exec_abortRun_refused (st := .notFound) h ?_
    unfold ownAbortRun
    rw [State.withPlan_of_eq hp, State.admit_get_plan, hidle]
  · rw [← s.removeQueued_host p]
    refine congrArg Host.Outcome.next (h.receive_answered (t := s.removeQueued p .host) rfl rfl ?_)
    unfold ownAbortRun
    rw [State.withPlan_of_eq hp, State.admit_get_plan, hqueued]
    rfl
  · subst hplan
    refine congrArg Host.Outcome.next ((h.receive_eq rfl).trans ?_)
    rw [ownAbortRun_running (s := s.admitted tag 0x38#8) hp hrun he,
      State.abortEngine_transact (r := r) (by rw [State.awaitIdle_engine]; exact hr) hnew
        (by rw [State.awaitIdle_engine]; exact hx), event_nil, State.aborting_eq, State.awaitIdle_engine]
    exact congrArg (fun t : State => t.setPlan r.plan { s.plan r.plan with held := false })
      (State.setEngine_twice (s.admitted tag 0x38#8) e _ _)
  · intro stopped
    subst hplan
    have hr' : (((s.admitted tag 0x38#8).awaitIdle e tag).engine e).run = some r := by
      rw [State.awaitIdle_engine]; exact hr
    have hstate : (((s.admitted tag 0x38#8).awaitIdle e tag).engine e).state = (s.engine e).state := by
      rw [State.awaitIdle_engine]; rfl
    refine ⟨fun hx hnone => ?_, fun hx hnone => ?_, fun x hx hnone => ?_, fun n q hx hq hst hw hc => ?_⟩
    · have habort := State.abortEngine_stops (cause := .host) hr' hnew (by rw [hstate]; tauto)
      have hstops := exec_abortRun_stops (u := s) h hp hrun he habort (.inl ⟨hnone, rfl⟩) htags hqueue hclear rfl
      rw [State.stopped_of rfl] at hstops
      exact hstops
    · have habort := State.abortEngine_awaitPort (cause := .host) hr' hnew (by rw [hstate]; exact hx)
      have hstops := exec_abortRun_stops (u := { s with ports := s.ports.map fun q => q.leave (.engine e) }) h hp hrun he
        habort (.inl ⟨(State.heldPort_congr fun q => State.leaveAll_holder ..).trans hnone, rfl⟩) htags hqueue hclear rfl
      rw [State.stopped_of rfl] at hstops
      exact hstops
    · have habort := State.abortEngine_stalled (cause := .host) hr' hnew (by rw [hstate]; exact hx)
      have hstops := exec_abortRun_stops (u := s.leaveStall e) h hp hrun he habort (.inl ⟨hnone, rfl⟩) htags hqueue hclear
        rfl
      rw [State.stopped_of rfl] at hstops
      exact hstops
    · have habort := State.abortEngine_stops (cause := .host) hr' hnew (by rw [hstate]; exact .inr (.inr (.inr ⟨n, hx⟩)))
      have hstops := exec_abortRun_stops (u := s) h hp hrun he habort (.inr ⟨q, hq, hw, hc, rfl⟩) htags hqueue hclear rfl
      rw [State.stopped_of rfl] at hstops
      exact hstops
  · have hheard := Port.spent_of_heard (q := s.port q) hjudge
    have hengine : ((s.setPort q { s.port q with txn := none, tally := 0 }).engine e).run = some r := hr
    have hport : (s.setPort q { s.port q with txn := none, tally := 0 }).port q = { s.port q with txn := none, tally := 0 } :=
      State.setPort_self _ _ _
    have hheld' : (s.setPort q { s.port q with txn := none, tally := 0 }).heldPort e = some q :=
      (State.heldPort_setPort (x := { s.port q with txn := none, tally := 0 }) rfl).trans hheld
    have hrelease : Does [.release e] ((s.setPort q { s.port q with txn := none, tally := 0 }).atRun e .ending r.emptied)
        ((s.setPort q { s.port q with txn := none, tally := 0, holder := none }).atRun e .ending r.emptied) [] 1 0 := by
      have hfrees : (s.setPort q { s.port q with txn := none, tally := 0 }).FreesTo e
          (s.setPort q { s.port q with txn := none, tally := 0, holder := none }) := by
        refine .inr ⟨q, hheld', by rw [hport]; exact hw, by rw [hport]; exact hc, ?_⟩
        rw [hport, State.setPort_twice]
      exact hfrees.does_of rfl (fun hv => by rw [hv]) fun p z hv => by rw [hv]; rfl
    rw [exec_probeResponse hreset hmsb, State.txnEnd_engine ht hreq hst (.inl hjudge), hheard,
      State.engineOutcome_aborted hengine hcause,
      event_stops (t := s.setPort q { s.port q with txn := none, tally := 0, holder := none }) hcause hunheld hqueue hclear
        hrelease]
    cases cause <;> rfl
  · exact State.engineOf_some he
  · exact State.engineOf_none hnone hr

end Sys2Proof.Machine
end

section
/-! PROOFS. Transfers of a port step (R71 to R78, R116): the values shaped, the samples counted, a full or last builder
committed, and the end of the step. -/

namespace Sys2Proof.Machine

-- One proof after the other, as in the tests: many at once would each hold a thread.
set_option Elab.async false

/-! ## Shaping (R72, R116) -/

theorem Port.effectiveWidth_wide {q : Port} (h : q.active.width = .w24 ∧ ∃ d, q.identity = some d ∧ d.wide = true) :
    q.effectiveWidth = .w24 := by
  obtain ⟨hw, d, hd, hwide⟩ := h
  unfold Port.effectiveWidth
  rw [hw, hd]
  exact if_pos hwide

theorem Port.effectiveWidth_narrow {q : Port}
    (h : ¬ (q.active.width = .w24 ∧ ∃ d, q.identity = some d ∧ d.wide = true)) : q.effectiveWidth = .w16 := by
  refine if_neg fun hboth => h ?_
  obtain ⟨hw, hd⟩ := (Bool.and_eq_true _ _).mp hboth
  obtain ⟨d, hid, hwide⟩ := (Option.any_eq_true _ _).mp hd
  exact ⟨beq_iff_eq.mp hw, d, hid, hwide⟩

theorem Port.shape_wide {q : Port} {v : Value} (h : q.effectiveWidth = .w24) : q.shape v = v := by
  unfold Port.shape
  rw [h]

/-- A 16-bit value: its low bits kept, above them its sign where the profile extends it (R72). -/
theorem Port.getLsbD_shape {q : Port} {v : Value} (h : q.effectiveWidth = .w16) (i : Nat) :
    (q.shape v).getLsbD i =
      if i < 16 then v.getLsbD i else (decide (i < 24) && q.active.signExtend && v.getLsbD 15) := by
  unfold Port.shape
  rw [h]
  dsimp only
  by_cases hlow : i < 16
  · have hi : i < 24 := by omega
    split <;> simp [BitVec.getElem_signExtend, hlow, hi]
  · have hmsb : (v.truncate 16).msb = v.getLsbD 15 := by simp [BitVec.msb_eq_getLsbD_last]
    cases hsign : q.active.signExtend <;> simp [BitVec.getLsbD_signExtend, hlow, hmsb]

section
variable {s t : State} {e : Fin 4} {x : EngineState} {r : Run} {st : PortStep}

/-! ## The next transfer (R71) -/

/-- The port of a step with the step's transaction begun. -/
def State.transferring (s : State) (e : Fin 4) (st : PortStep) : State :=
  s.setPort st.port { s.port st.port with txn := some ((s.port st.port).ordinary (.engine e) st.fn st.sub) }

theorem State.startTransfer_atRun :
    (s.atRun e x r).startTransfer e st = (s.transferring e st).atRun e .transact r := by
  unfold State.startTransfer
  rw [show (s.atRun e x r).port st.port = s.port st.port from rfl, Port.startOrdinary_eq]
  exact State.atRun_setEngineState (s := s.transferring e st)

/-! ## The builder committed (R77, R78) -/

/-- A run whose samples are on their way to its ring. -/
def Run.handedIn (r : Run) : Run := { r with builder := [] }

/-- A run once `n` samples of it are placed or dropped (R78). -/
def Run.took (r : Run) (n : Nat) : Run := { r.wrote n with portLost := false }

/-- The commit of the builder as one SAMPLES record. -/
def State.sampling (s : State) (e : Fin 4) (r : Run) (time : Time) : State × CommitEnd :=
  s.committing e r time (.samples (r.builder.map fun y => y.1)) false

theorem State.commitSamples_empty {nx : Nat → Resume} (h : r.builder = []) :
    s.commitSamples e r nx = (s, [.resume e (nx 0)]) := by
  unfold State.commitSamples
  rw [h]

section
variable {y : Sample × Time} {rest : List (Sample × Time)} {nx : Nat → Resume}

/-- A builder that is not empty goes to the ring under the time of its first sample. -/
theorem State.commitSamples_eq (hb : r.builder = y :: rest) : (s.atRun e x r).commitSamples e r nx
    = (s.atRun e x r.handedIn).commitRecord e r.handedIn y.2 (.samples (r.builder.map fun y => y.1)) false
        (nx r.builder.length) := by
  unfold State.commitSamples
  rw [hb]
  dsimp only
  rw [State.atRun_setRun, List.map_cons, List.length_cons, List.length_cons, List.length_map]
  rfl

theorem State.commitSamples_ends (hb : r.builder = y :: rest) (h : (s.sampling e r y.2).2 ≠ .stalled) :
    (s.atRun e x r).commitSamples e r nx
      = ((s.sampling e r y.2).1.atRun e x r.handedIn, [.resume e (nx r.builder.length)]) :=
  (State.commitSamples_eq hb).trans (State.commitRecord_ends (r := r.handedIn) h)

theorem State.commitSamples_stalls (hb : r.builder = y :: rest) (h : (s.sampling e r y.2).2 = .stalled) :
    (s.atRun e x r).commitSamples e r nx
      = ((s.sampling e r y.2).1.atRun e (.stalled (nx r.builder.length)) r.handedIn, []) :=
  (State.commitSamples_eq hb).trans (State.commitRecord_stalls (r := r.handedIn) h)

end

/-! ## What follows the commit -/

theorem does_resume_midStep {n : Nat} (hlost : r.portLost = false)
    (hst : (s.plan r.plan).steps[r.stepIndex]? = some (.port st)) :
    Does [.resume e (.midStep n)] (s.atRun e x r) ((s.transferring e st).atRun e .transact (r.took n)) [] 1 0 := by
  have hresume : (s.atRun e x r).resume e r (.midStep n) = ((s.transferring e st).atRun e .transact (r.took n), []) := by
    unfold State.resume State.currentStep
    dsimp only
    rw [hlost, if_neg Bool.false_ne_true, show (s.atRun e x r).plan r.plan = s.plan r.plan from rfl, hst]
    dsimp only
    rw [State.atRun_setRun]
    exact congrArg (·, []) State.startTransfer_atRun
  exact .andThen rfl ((act_resume _ State.atRun_run).trans (congrArg Eff.andThen hresume)) (.nil _)

theorem State.FreesTo.does_atRun {y : Run} (h : s.FreesTo e t) :
    Does [.release e] (s.atRun e x y) (t.atRun e x y) [] 1 0 :=
  h.does_of rfl (fun hv => by rw [hv]) fun q z hv => by rw [hv]; rfl

theorem State.FreesTo.plan (h : s.FreesTo e t) (p : Fin 32) : t.plan p = s.plan p :=
  h.get (f := (·.plan p)) fun _ _ _ => rfl

/-- The end of a port step: the grant released, and the next step, here a WAIT, begins (R68, R76). -/
theorem does_resume_stepEnd {n d : Nat} (h : s.FreesTo e t)
    (hwait : (s.plan r.plan).steps[r.stepIndex + 1]? = some (.wait d)) :
    Does [.resume e (.stepEnd n)] (s.atRun e x r) (t.atRun e (.waiting d) (r.took n).atNext) [] 4 0 := by
  have hresume : (s.atRun e x r).resume e r (.stepEnd n) = (s.atRun e x (r.took n), [.release e, .next e]) := by
    unfold State.resume
    dsimp only
    rw [State.atRun_setRun]
    rfl
  have hnext : Does [.next e] (t.atRun e x (r.took n)) (t.atRun e (.waiting d) (r.took n).atNext) [] 2 0 :=
    does_next_wait_atRun (by rw [h.plan]; exact hwait)
  exact .andThen rfl ((act_resume _ State.atRun_run).trans (congrArg Eff.andThen hresume)) (h.does_atRun.cons hnext)

/-! ## After a counted transfer (R72, R73) -/

theorem State.afterTransfer_more (hlen : r.builder.length ≠ 64) (hrem : r.remaining ≠ 0) :
    (s.atRun e x r).afterTransfer e r st = ((s.transferring e st).atRun e .transact r, []) := by
  unfold State.afterTransfer
  rw [if_neg (show ¬ r.builder.length = Config.builderSamples from hlen), if_neg hrem, State.startTransfer_atRun]

theorem State.afterTransfer_ends (hb : r.builder = []) (hrem : r.remaining = 0) :
    (s.atRun e x r).afterTransfer e r st = (s.atRun e x r, [.resume e (.stepEnd 0)]) := by
  have hlen : ¬ r.builder.length = Config.builderSamples := by rw [hb]; nofun
  unfold State.afterTransfer
  rw [if_neg hlen, if_pos hrem]
  exact State.commitSamples_empty hb

theorem State.afterTransfer_commits (h : r.remaining = 0 ∨ r.builder.length = 64) :
    (s.atRun e x r).afterTransfer e r st
      = (s.atRun e x r).commitSamples e r (if r.remaining = 0 then .stepEnd else .midStep) := by
  unfold State.afterTransfer
  by_cases hlen : r.builder.length = Config.builderSamples
  · rw [if_pos hlen]
  · have hrem := h.resolve_right hlen
    rw [if_neg hlen, if_pos hrem, if_pos hrem]
    rfl

/-- The outcomes of a port step's transaction, by kind (Table 4-3). -/
theorem State.engineOutcome_data {v : Value} (hrun : s.Executes e r (.port st)) (hnew : r.abortCause = none) :
    s.engineOutcome e .data v = (s.atRun e (s.engine e).state
      (r.counted st (.data ((s.port st.port).shape v)) s.timeBase)).afterTransfer e
        (r.counted st (.data ((s.port st.port).shape v)) s.timeBase) st := by
  obtain ⟨hr, hstep⟩ := hrun
  unfold State.engineOutcome State.currentStep
  rw [hr]
  dsimp only
  rw [hnew, if_neg (show ¬ (none : Option AbortCause).isSome = true from Bool.false_ne_true), hstep]
  rfl

theorem State.engineOutcome_busy {v : Value} (hrun : s.Executes e r (.port st)) (hnew : r.abortCause = none) :
    s.engineOutcome e .busy v = s.busyOutcome e r st := by
  obtain ⟨hr, hstep⟩ := hrun
  unfold State.engineOutcome State.currentStep
  rw [hr]
  dsimp only
  rw [hnew, if_neg (show ¬ (none : Option AbortCause).isSome = true from Bool.false_ne_true), hstep]

/-- BUSY by the step's policy (R73, R74). -/
theorem State.busyOutcome_accept (hbusy : st.busy = .accept) :
    s.busyOutcome e r st = (s.atRun e (s.engine e).state (r.counted st .busy s.timeBase)).afterTransfer e
      (r.counted st .busy s.timeBase) st := by
  unfold State.busyOutcome
  rw [hbusy]
  rfl

theorem State.busyOutcome_stop (hbusy : st.busy = .stop) : s.busyOutcome e r st = s.endPortStep e r := by
  unfold State.busyOutcome
  rw [hbusy]

theorem State.busyOutcome_again (hbusy : st.busy = .retry) (hfew : r.retry < (s.port st.port).active.retryLimit) :
    s.busyOutcome e r st
      = (s.atRun e (.spacing ((s.port st.port).active.spacing * 10)) { r with retry := r.retry + 1 }, []) := by
  unfold State.busyOutcome
  rw [hbusy]
  dsimp only
  rw [if_pos hfew, State.setRun_eq_atRun rfl, State.atRun_setEngineState]

theorem State.busyOutcome_limit (hbusy : st.busy = .retry) (hlimit : (s.port st.port).active.retryLimit ≤ r.retry) :
    s.busyOutcome e r st = (s, [.faultStep e .busyLimit]) := by
  unfold State.busyOutcome
  rw [hbusy]
  exact if_neg (Nat.not_lt.mpr hlimit)

/-- A counted transfer of an engine's port step: DATA, or BUSY where it is accepted (R72, R73). -/
theorem State.engineOutcome_counted {o : TxnOutcome} {v : Value} {sample : Sample} (hrun : s.Executes e r (.port st))
    (hnew : r.abortCause = none)
    (ho : (o = .data ∧ sample = .data ((s.port st.port).shape v))
      ∨ (o = .busy ∧ st.busy = .accept ∧ sample = .busy)) :
    s.engineOutcome e o v = (s.atRun e (s.engine e).state (r.counted st sample s.timeBase)).afterTransfer e
      (r.counted st sample s.timeBase) st := by
  obtain ⟨rfl, rfl⟩ | ⟨rfl, hbusy, rfl⟩ := ho
  · exact State.engineOutcome_data hrun hnew
  · exact (State.engineOutcome_busy hrun hnew).trans (State.busyOutcome_accept hbusy)

end

section
variable {s t : State} {e : Fin 4} {x : EngineState} {r : Run} {st : PortStep} {y : Sample × Time}
  {rest : List (Sample × Time)} {d : Nat}

/-- The builder is placed or dropped in mid-step, and the next transfer starts (R71, R78). -/
theorem event_samples_midStep (hb : r.builder = y :: rest) (h : (s.sampling e r y.2).2 ≠ .stalled)
    (hlost : r.portLost = false) (hst : (s.plan r.plan).steps[r.stepIndex]? = some (.port st)) :
    event ((s.atRun e x r).commitSamples e r .midStep)
      = ((s.sampling e r y.2).1.transferring e st).atRun e .transact (r.handedIn.took r.builder.length) := by
  rw [State.commitSamples_ends hb h]
  refine event_eq (does_resume_midStep (r := r.handedIn) hlost ?_)
  unfold State.sampling
  rw [State.committing_plan]
  exact hst

/-- The builder is placed or dropped at the end of the step, and the next step begins (R68, R76, R78). -/
theorem event_samples_stepEnd (hb : r.builder = y :: rest) (h : (s.sampling e r y.2).2 ≠ .stalled)
    (hfree : (s.sampling e r y.2).1.FreesTo e t) (hwait : (s.plan r.plan).steps[r.stepIndex + 1]? = some (.wait d)) :
    event ((s.atRun e x r).commitSamples e r .stepEnd)
      = t.atRun e (.waiting d) (r.handedIn.took r.builder.length).atNext := by
  rw [State.commitSamples_ends hb h]
  refine event_eq (does_resume_stepEnd (r := r.handedIn) hfree ?_)
  unfold State.sampling
  rw [State.committing_plan]
  exact hwait

theorem event_samples_stalls {nx : Nat → Resume} (hb : r.builder = y :: rest)
    (h : (s.sampling e r y.2).2 = .stalled) : event ((s.atRun e x r).commitSamples e r nx)
      = (s.sampling e r y.2).1.atRun e (.stalled (nx r.builder.length)) r.handedIn := by
  rw [State.commitSamples_stalls hb h, event_nil]

theorem Run.took_zero (hlost : r.portLost = false) (hw : r.samplesWritten ≤ 0xFFFFFFFF) : r.took 0 = r := by
  have hmin : min (r.samplesWritten + 0) Config.max32 = r.samplesWritten := Nat.min_eq_left hw
  unfold Run.took Run.wrote
  rw [hmin, ← hlost]

/-- What was taken of a builder, its grant never withdrawn. -/
theorem Run.handedIn_took (hlost : r.portLost = false) (n : Nat) : r.handedIn.took n
    = { r with builder := [], samplesWritten := min (r.samplesWritten + n) 0xFFFFFFFF } := by
  have hsame : r.handedIn.took n = { r with
      builder := [], samplesWritten := min (r.samplesWritten + n) 0xFFFFFFFF, portLost := false } := rfl
  rw [hsame, ← hlost]

/-- The end of a step whose builder is empty. -/
theorem event_stepEnd_empty (hlost : r.portLost = false) (hw : r.samplesWritten ≤ 0xFFFFFFFF) (hfree : s.FreesTo e t)
    (hwait : (s.plan r.plan).steps[r.stepIndex + 1]? = some (.wait d)) :
    event (s.atRun e x r, [.resume e (.stepEnd 0)]) = t.atRun e (.waiting d) r.atNext := by
  have hdoes := does_resume_stepEnd (x := x) (n := 0) hfree hwait
  rw [Run.took_zero hlost hw] at hdoes
  exact event_eq hdoes

/-- The step's next transaction, at a port whose active profile is known (R71, R121). -/
theorem State.transferring_atRun {q : Port} {g : Engine} (hport : (s.port st.port).active = q.active)
    (hengine : s.engine e = g) : (s.transferring e st).atRun e .transact r
      = (s.setPort st.port { s.port st.port with txn := some (q.ordinary (.engine e) st.fn st.sub) }).setEngine e
          { g with state := .transact, run := some r } := by
  have hordinary : (s.port st.port).ordinary (.engine e) st.fn st.sub = q.ordinary (.engine e) st.fn st.sub := by
    unfold Port.ordinary
    rw [hport]
  unfold State.transferring
  rw [hordinary]
  exact State.atRun_of hengine

end

/-- A port whose transaction has ended with something heard (R111). -/
def State.heard (s : State) (p : Fin 8) : State := s.setPort p { s.port p with tally := 0, txn := none }

theorem State.heard_port (s : State) (p : Fin 8) : (s.heard p).port p = { s.port p with tally := 0, txn := none } :=
  State.setPort_self _ _ _

/-- The response to an engine's transaction at an UP port (R111, R123). -/
theorem exec_response_engine {s : State} {p : Fin 8} {e : Fin 4} {word : Word} {t : Transaction}
    (hreset : s.inReset = false) (hst : (s.port p).state = .up) (ht : (s.port p).txn = some t)
    (hreq : t.requester = some (.engine e)) (hmsb : word.msb = true) (hjudge : judge word ≠ .silent) :
    exec (.probeResponse p word false) s
      = .next (event ((s.heard p).engineOutcome e (judge word) (responseData word))) := by
  rw [exec_probeResponse hreset hmsb, State.txnEnd_engine ht hreq hst (.inl hjudge), Port.spent_of_heard hjudge]
  rfl

theorem State.sampling_ports {s : State} {e : Fin 4} {r : Run} (time : Time) :
    (s.sampling e r time).1.ports = s.ports := 
  (congrArg State.ports (s.commit_frame _ _ _ _)).trans rfl

theorem State.sampling_engine {s : State} {e : Fin 4} {r : Run} (time : Time) (f : Fin 4) :
    (s.sampling e r time).1.engine f = s.engine f := State.committing_engine _ _ _ _

/-- The grant of a port that nobody waits for, whatever else has changed. -/
theorem State.FreesTo.of_ports {s u : State} {e : Fin 4} {p : Fin 8} (h : u.ports = s.ports)
    (hheld : s.heldPort e = some p) (hw : (s.port p).waiters = []) (hc : (s.port p).commitPending = false) :
    u.FreesTo e (u.setPort p { u.port p with holder := none }) := by
  have hport : ∀ q, u.port q = s.port q := fun q => by unfold State.port; rw [h]
  exact .inr ⟨p, (State.heldPort_congr fun q => by rw [hport]).trans hheld, by rw [hport]; exact hw, by rw [hport]; exact hc,
    rfl⟩

/-- A counted transfer: the sample it makes, and what the engine goes on to after it (R72, R73). -/
theorem exec_response_counted {s : State} {p : Fin 8} {e : Fin 4} {word : Word} {t : Transaction} {r : Run}
    {st : PortStep} {sample : Sample} (hreset : s.inReset = false) (hst : (s.port p).state = .up)
    (ht : (s.port p).txn = some t) (hreq : t.requester = some (.engine e)) (hmsb : word.msb = true)
    (hrun : s.Executes e r (.port st)) (hp : st.port = p) (hnew : r.abortCause = none)
    (ho : (judge word = .data ∧ sample = .data ((s.port p).shape (responseData word)))
      ∨ (judge word = .busy ∧ st.busy = .accept ∧ sample = .busy)) :
    exec (.probeResponse p word false) s = .next (event (((s.heard p).atRun e (s.engine e).state
      (r.counted st sample s.timeBase)).afterTransfer e (r.counted st sample s.timeBase) st)) := by
  subst hp
  have hjudge : judge word ≠ .silent := by
    obtain ⟨h, -⟩ | ⟨h, -⟩ := ho <;> rw [h] <;> nofun
  have hshape : ((s.heard st.port).port st.port).shape (responseData word) = (s.port st.port).shape (responseData word) := by
    rw [State.heard_port]
    rfl
  rw [exec_response_engine hreset hst ht hreq hmsb hjudge,
    State.engineOutcome_counted (s := s.heard st.port) (sample := sample) hrun hnew (by rw [hshape]; exact ho)]
  rfl

/-- Settles O52. -/
theorem transfersMakeShapedSamplesOrRetry : Obligations.TransfersMakeShapedSamplesOrRetry := by
  refine ⟨fun p v => ⟨fun h => Port.shape_wide (Port.effectiveWidth_wide h),
      fun h => Port.getLsbD_shape (Port.effectiveWidth_narrow h)⟩,
    fun s p e word t r st hreset hst ht hreq hrun hp hread hnew hrem hlen hmsb hjudge => ?_,
    fun s p e word t r st hreset hst ht hreq hrun hp hnew hretry hfew hmsb hjudge => ?_,
    fun s p e word t r st d hreset hst ht hreq hrun hp hnew hlost hwritten hmsb hheld hw hc hwait => ?_⟩
  · subst hp
    have hcounted : r.counted st (.data ((s.port st.port).shape (responseData word))) s.timeBase = { r with
        remaining := r.remaining - 1, retry := 0
        builder := r.builder ++ [(.data ((s.port st.port).shape (responseData word)), s.timeBase)] } := by
      unfold Run.counted
      rw [hread]
    have hlen' : (r.counted st (.data ((s.port st.port).shape (responseData word))) s.timeBase).builder.length ≠ 64 := by
      rw [hcounted, List.length_append, List.length_singleton]
      omega
    rw [exec_response_counted hreset hst ht hreq hmsb hrun rfl hnew (.inl ⟨hjudge, rfl⟩),
      State.afterTransfer_more hlen' (Nat.sub_ne_zero_of_lt hrem), event_nil,
      State.transferring_atRun (q := s.port st.port) (by rw [State.heard_port]) rfl, State.heard_port, hcounted]
    unfold Port.ordinary
    rw [hread]
    exact congrArg (fun u : State => Host.Outcome.next (u.setEngine e _)) (State.setPort_twice s _ _ _)
  · subst hp
    have hactive : ((s.heard st.port).port st.port).active = (s.port st.port).active := by rw [State.heard_port]
    rw [exec_response_engine hreset hst ht hreq hmsb (by rw [hjudge]; nofun), hjudge,
      State.engineOutcome_busy (s := s.heard st.port) hrun hnew,
      State.busyOutcome_again hretry (by rw [hactive]; exact hfew), event_nil, hactive]
    exact congrArg Host.Outcome.next (State.atRun_of rfl)
  · subst hp
    intro ended transfer nextStep samples took stalled
    have hport : ended.port st.port = { s.port st.port with tally := 0, txn := none } := State.setPort_self _ _ _
    have htransfer : ∀ u run, u.ports = ended.ports → u.engine e = s.engine e →
        (u.transferring e st).atRun e .transact run = transfer u run := fun u run hports hengine => by
      have hactive : (u.port st.port).active = (s.port st.port).active := by
        rw [show u.port st.port = ended.port st.port from congrArg (fun v : Vector Port 8 => v[st.port]) hports, hport]
      rw [State.transferring_atRun hactive hengine]
      dsimp only [transfer]
      unfold Port.ordinary PortFn.line PortFn.operand
      cases st.fn <;> rfl
    have hfree : ∀ u : State, u.ports = ended.ports → u.FreesTo e (u.setPort st.port { u.port st.port with holder := none }) :=
      fun u hports => .of_ports hports ((State.heldPort_setPort (x := { s.port st.port with tally := 0, txn := none })
        rfl).trans hheld) (by rw [hport]; exact hw) (by rw [hport]; exact hc)
    have hnext : ∀ u run, u.engine e = s.engine e →
        (u.setPort st.port { u.port st.port with holder := none }).atRun e (.waiting d) run.atNext = nextStep u run :=
      fun u run hengine => State.atRun_of hengine
    refine ⟨fun sample ho hone => ?_, fun hjudge hstop => ?_⟩
    · intro counted
      have hcounted : r.counted st sample s.timeBase = counted := by
        dsimp only [counted]
        unfold Run.counted
        cases st.fn <;> rfl
      have hexec : exec (.probeResponse st.port word false) s
          = .next (event ((ended.atRun e (s.engine e).state counted).afterTransfer e counted st)) := by
        rw [← hcounted]
        exact exec_response_counted hreset hst ht hreq hmsb hrun rfl hnew ho
      have hrem' : counted.remaining = r.remaining - 1 := rfl
      have hlost' : counted.portLost = false := hlost
      have hwritten' : counted.samplesWritten ≤ 0xFFFFFFFF := hwritten
      have hwait' : (ended.plan counted.plan).steps[counted.stepIndex + 1]? = some (.wait d) := hwait
      have hstep' : (ended.plan counted.plan).steps[counted.stepIndex]? = some (.port st) := hrun.2
      have hsamples : ∀ time, ended.sampling e counted time = samples counted.builder time := fun _ => rfl
      clear_value counted
      refine ⟨fun hrem hlen => ?_, fun hrem hb => ?_, fun y rest hb hfull => ?_⟩
      · rw [hexec, State.afterTransfer_more hlen (by omega), event_nil, htransfer _ _ rfl rfl]
      · rw [hexec, State.afterTransfer_ends hb (by omega)]
        rw [event_stepEnd_empty hlost' hwritten' (hfree ended rfl) hwait', hnext ended counted rfl]
      · intro placed
        have hsampling : ended.sampling e counted y.2 = placed := hsamples y.2
        have hports : placed.1.ports = ended.ports := hsampling ▸ State.sampling_ports y.2
        have hengine : placed.1.engine e = s.engine e := hsampling ▸ State.sampling_engine (s := ended) y.2 e
        have hfull' : counted.remaining = 0 ∨ counted.builder.length = 64 := by omega
        rw [hexec, State.afterTransfer_commits hfull']
        clear_value placed
        subst hsampling
        refine ⟨fun hplaced hrem => ?_, fun hplaced hrem => ?_, fun hstalled => ?_⟩
        · rw [if_neg (by omega), event_samples_midStep hb hplaced hlost' hstep', Run.handedIn_took hlost',
            htransfer _ _ hports hengine]
        · rw [if_pos (by omega), event_samples_stepEnd hb hplaced (hfree _ hports) hwait', Run.handedIn_took hlost',
            hnext _ _ hengine]
        · rw [event_samples_stalls hb hstalled]
          rw [State.atRun_of hengine]
          by_cases hrem : r.remaining = 1
          · rw [if_pos (by omega), if_pos hrem]
            rfl
          · rw [if_neg (by omega), if_neg hrem]
            rfl
    · have hself : ended.atRun e (s.engine e).state r = ended := State.atRun_eq_self rfl hrun.1
      have hexec : exec (.probeResponse st.port word false) s
          = .next (event ((ended.atRun e (s.engine e).state r).commitSamples e r .stepEnd)) := by
        rw [exec_response_engine hreset hst ht hreq hmsb (by rw [hjudge]; nofun), hjudge,
          State.engineOutcome_busy (s := s.heard st.port) hrun hnew, State.busyOutcome_stop hstop, hself]
        rfl
      rw [hexec]
      refine ⟨fun hb => ?_, fun y rest hb => ?_⟩
      · rw [State.commitSamples_empty hb, event_stepEnd_empty hlost hwritten (hfree ended rfl) hwait, hnext ended r rfl]
      · intro placed
        have hsampling : ended.sampling e r y.2 = placed := rfl
        have hports : placed.1.ports = ended.ports := hsampling ▸ State.sampling_ports y.2
        have hengine : placed.1.engine e = s.engine e := hsampling ▸ State.sampling_engine (s := ended) y.2 e
        clear_value placed
        subst hsampling
        refine ⟨fun hplaced => ?_, fun hstalled => ?_⟩
        · rw [event_samples_stepEnd hb hplaced (hfree _ hports) hwait, Run.handedIn_took hlost, hnext _ _ hengine]
        · rw [event_samples_stalls hb hstalled, State.atRun_of hengine]
          rfl

end Sys2Proof.Machine
end

section
/-! PROOFS. Step faults (R69, R70, R74, R75, R79 to R81, R86): the fault noted, the builder committed, the grant released,
and the run goes on or ends. -/

namespace Sys2Proof.Machine

-- One proof after the other, as in the tests: many at once would each hold a thread.
set_option Elab.async false

section
variable {s t : State} {e : Fin 4} {x : EngineState} {r : Run} {st : PortStep} {reason : Reason} {d n : Nat}

/-! ## A tolerated fault (R79, R80) -/

/-- The notice of a tolerated fault (R80). -/
def State.faultNoted (s : State) (r : Run) (reason : Reason) : State :=
  s.post .stepFault (byte r.plan) (BitVec.ofNat 32 r.remaining) (pair reason.code (byte r.stepIndex))

theorem State.postStepFault_tolerated (hst : (s.plan r.plan).steps[r.stepIndex]? = some (.port st))
    (htol : st.tolerate = true) : (s.atRun e x r).postStepFault r reason = (s.faultNoted r reason).atRun e x r := by
  unfold State.postStepFault State.currentStep
  rw [show (s.atRun e x r).plan r.plan = s.plan r.plan from rfl, hst]
  exact if_pos htol

theorem State.postStepFault_not (hst : (s.plan r.plan).steps[r.stepIndex]? = some (.port st))
    (htol : st.tolerate = false) : (s.atRun e x r).postStepFault r reason = s.atRun e x r := by
  unfold State.postStepFault State.currentStep
  rw [show (s.atRun e x r).plan r.plan = s.plan r.plan from rfl, hst]
  exact if_neg (by rw [htol]; exact Bool.false_ne_true)

/-- What follows the commit of a faulted step's builder. -/
theorem State.resume_stepFault (hst : (s.plan r.plan).steps[r.stepIndex]? = some (.port st)) :
    (s.atRun e x r).resume e r (.stepFault n reason) = (s.atRun e x (r.took n),
      [.release e, if st.tolerate then .next e else .fail e reason]) := by
  unfold State.resume
  dsimp only
  rw [State.atRun_setRun]
  unfold State.afterFault State.currentStep
  rw [show (s.atRun e x { r.wrote n with portLost := false }).plan
    ({ r.wrote n with portLost := false } : Run).plan = s.plan r.plan from rfl,
    show ({ r.wrote n with portLost := false } : Run).stepIndex = r.stepIndex from rfl, hst]
  rfl

/-- The run goes on past a tolerated fault, here to a WAIT (R80). -/
theorem does_resume_stepFault (hst : (s.plan r.plan).steps[r.stepIndex]? = some (.port st)) (htol : st.tolerate = true)
    (h : s.FreesTo e t) (hwait : (s.plan r.plan).steps[r.stepIndex + 1]? = some (.wait d)) :
    Does [.resume e (.stepFault n reason)] (s.atRun e x r) (t.atRun e (.waiting d) (r.took n).atNext) [] 4 0 := by
  have hresume := State.resume_stepFault (s := s) (e := e) (x := x) (n := n) (reason := reason) hst
  rw [if_pos htol] at hresume
  have hnext : Does [.next e] (t.atRun e x (r.took n)) (t.atRun e (.waiting d) (r.took n).atNext) [] 2 0 :=
    does_next_wait_atRun (by rw [h.plan]; exact hwait)
  exact .andThen rfl ((act_resume _ State.atRun_run).trans (congrArg Eff.andThen hresume)) (h.does_atRun.cons hnext)

/-- A tolerated fault with an empty builder. -/
theorem does_fault_tolerated (hst : (s.plan r.plan).steps[r.stepIndex]? = some (.port st)) (htol : st.tolerate = true)
    (hb : r.builder = []) (hlost : r.portLost = false) (hw : r.samplesWritten ≤ 0xFFFFFFFF)
    (h : (s.faultNoted r reason).FreesTo e t) (hwait : (s.plan r.plan).steps[r.stepIndex + 1]? = some (.wait d)) :
    Does [.faultStep e reason] (s.atRun e x r) (t.atRun e (.waiting d) r.atNext) [] 6 0 := by
  have hfault := act_faultStep (s := s.atRun e x r) (e := e) reason State.atRun_run
  rw [State.postStepFault_tolerated hst htol] at hfault
  have hcommit := act_commitFault (s := (s.faultNoted r reason).atRun e x r) (e := e) reason State.atRun_run
  rw [State.commitSamples_empty hb] at hcommit
  have hresume := does_resume_stepFault (s := s.faultNoted r reason) (x := x) (n := 0) (reason := reason) hst htol h hwait
  rw [Run.took_zero hlost hw] at hresume
  exact .andThen rfl hfault (.andThen rfl hcommit hresume)

/-- A tolerated fault with samples in the builder, which are committed first (R79). -/
theorem does_fault_committed {y : Sample × Time} {rest : List (Sample × Time)}
    (hst : (s.plan r.plan).steps[r.stepIndex]? = some (.port st)) (htol : st.tolerate = true) (hb : r.builder = y :: rest)
    (hplaced : ((s.faultNoted r reason).sampling e r y.2).2 ≠ .stalled)
    (h : ((s.faultNoted r reason).sampling e r y.2).1.FreesTo e t)
    (hwait : (s.plan r.plan).steps[r.stepIndex + 1]? = some (.wait d)) :
    Does [.faultStep e reason] (s.atRun e x r)
      (t.atRun e (.waiting d) (r.handedIn.took r.builder.length).atNext) [] 6 0 := by
  have hfault := act_faultStep (s := s.atRun e x r) (e := e) reason State.atRun_run
  rw [State.postStepFault_tolerated hst htol] at hfault
  have hcommit := act_commitFault (s := (s.faultNoted r reason).atRun e x r) (e := e) reason State.atRun_run
  rw [State.commitSamples_ends hb hplaced] at hcommit
  have hsteps : (((s.faultNoted r reason).sampling e r y.2).1.plan r.handedIn.plan).steps = (s.plan r.plan).steps :=
    congrArg Plan.steps (State.committing_plan _ _ _ _)
  have hresume := does_resume_stepFault (r := r.handedIn) (x := x) (n := r.builder.length) (reason := reason)
    (by rw [hsteps]; exact hst) htol h (by rw [hsteps]; exact hwait)
  exact .andThen rfl hfault (.andThen rfl hcommit hresume)

/-! ## A fault that is not tolerated ends the run (R81, R86) -/

/-- The notice of a run that a fault has ended (R86). -/
def State.noteFailed (s : State) (r : Run) (reason : Reason) : State :=
  s.post .runFailed (byte r.plan) (BitVec.ofNat 32 r.remaining) (pair reason.code (byte r.stepIndex))

theorem does_fail (h : (s.ending e r (some reason)).2 ≠ .stalled) (hheld : (s.plan r.plan).held = false) :
    Does [.fail e reason] (s.atRun e x r)
      ((((s.ending e r (some reason)).1.noteFailed r reason).reported r.plan).atRun e .ending r) [.idle e] 3 0 := by
  have hfail := act_fail (s := s.atRun e x r) (e := e) reason State.atRun_run
  rw [State.commitRunEnd_ends h] at hfail
  have hheld' : (((s.ending e r (some reason)).1.noteFailed r reason).plan r.plan).held = false := by
    rw [show ((s.ending e r (some reason)).1.noteFailed r reason).plan r.plan = (s.ending e r (some reason)).1.plan r.plan
      from rfl, State.ending_get (f := (·.plan r.plan)) (fun _ _ => rfl)]
    exact hheld
  generalize (s.ending e r (some reason)).1 = v at hfail hheld' ⊢
  have hresume : act (.resume e (.runEnd (some reason))) (v.atRun e .ending r)
      = .andThen ((v.noteFailed r reason).atRun e .ending r, [.endReport e (.failed reason)]) :=
    act_resume (s := v.atRun e .ending r) (.runEnd (some reason)) State.atRun_run
  have hreport := endReport_quiet (s := v.noteFailed r reason) (e := e) (x := .ending) (r := r) (o := .failed reason)
    hheld' nofun
  exact .andThen rfl hfail (.andThen rfl hresume (.one (a := .endReport e (.failed reason)) rfl hreport (.nil _)))

/-- A fault that is not tolerated, with an empty builder. -/
theorem does_fault_fails (hst : (s.plan r.plan).steps[r.stepIndex]? = some (.port st)) (htol : st.tolerate = false)
    (hb : r.builder = []) (hlost : r.portLost = false) (hw : r.samplesWritten ≤ 0xFFFFFFFF) (hfree : s.FreesTo e t)
    (h : (t.ending e r (some reason)).2 ≠ .stalled) (hheld : (s.plan r.plan).held = false) :
    Does [.faultStep e reason] (s.atRun e x r)
      ((((t.ending e r (some reason)).1.noteFailed r reason).reported r.plan).atRun e .ending r) [.idle e] 7 0 := by
  have hfault := act_faultStep (s := s.atRun e x r) (e := e) reason State.atRun_run
  rw [State.postStepFault_not hst htol] at hfault
  have hcommit := act_commitFault (s := s.atRun e x r) (e := e) reason State.atRun_run
  rw [State.commitSamples_empty hb] at hcommit
  have hresume := State.resume_stepFault (s := s) (e := e) (x := x) (n := 0) (reason := reason) hst
  rw [if_neg (by rw [htol]; exact Bool.false_ne_true), Run.took_zero hlost hw] at hresume
  have hfail := does_fail (x := x) h (by rw [hfree.plan]; exact hheld)
  exact .andThen rfl hfault (.andThen rfl hcommit (.andThen rfl
    ((act_resume _ State.atRun_run).trans (congrArg Eff.andThen hresume)) (hfree.does_atRun.cons hfail)))

/-! ## Where the grant goes -/

theorem State.FreesTo.faultNoted (h : s.FreesTo e t) : (s.faultNoted r reason).FreesTo e (t.faultNoted r reason) := by
  obtain ⟨hnone, rfl⟩ | ⟨q, hq, hw, hc, rfl⟩ := h
  · exact .inl ⟨hnone, rfl⟩
  · exact .inr ⟨q, hq, hw, hc, rfl⟩

theorem State.appendRecord_setPort (k : Fin 4) (ring : Ring) (i : Nat) (rec : Record) (p : Fin 8) (q : Port) :
    (s.setPort p q).appendRecord k ring i rec = (s.appendRecord k ring i rec).setPort p q := by
  unfold State.appendRecord
  rw [show (s.setPort p q).mem = s.mem from rfl]
  generalize Memory.writeWords s.mem (ring.segBase i + (ring.seg i).wordsUsed) rec.words = m
  rfl

theorem State.appendRecord_faultNoted (k : Fin 4) (ring : Ring) (i : Nat) (rec : Record) :
    (s.faultNoted r reason).appendRecord k ring i rec = (s.appendRecord k ring i rec).faultNoted r reason := by
  unfold State.appendRecord
  rw [show (s.faultNoted r reason).mem = s.mem from rfl]
  generalize Memory.writeWords s.mem (ring.segBase i + (ring.seg i).wordsUsed) rec.words = m
  rfl

theorem State.FreesTo.appendRecord (h : s.FreesTo e t) (k : Fin 4) (ring : Ring) (i : Nat) (rec : Record) :
    (s.appendRecord k ring i rec).FreesTo e (t.appendRecord k ring i rec) := by
  have hports : (s.appendRecord k ring i rec).ports = s.ports := rfl
  have hport : ∀ q, (s.appendRecord k ring i rec).port q = s.port q := fun q => rfl
  have hheld : (s.appendRecord k ring i rec).heldPort e = s.heldPort e := State.heldPort_congr fun q => rfl
  obtain ⟨hnone, rfl⟩ | ⟨q, hq, hw, hc, rfl⟩ := h
  · exact .inl ⟨hheld.trans hnone, rfl⟩
  · exact .inr ⟨q, hheld.trans hq, hw, hc, State.appendRecord_setPort ..⟩

/-- The release of a grant whose port has changed otherwise. -/
theorem State.setPort_freesTo {p : Fin 8} {q : Port} (hheld : s.heldPort e = some p)
    (hholder : q.holder = (s.port p).holder) (hw : q.waiters = []) (hc : q.commitPending = false) :
    (s.setPort p q).FreesTo e (s.setPort p { q with holder := none }) := by
  refine .inr ⟨p, (State.heldPort_setPort hholder).trans hheld, by rw [State.setPort_self]; exact hw,
    by rw [State.setPort_self]; exact hc, ?_⟩
  rw [State.setPort_self]
  exact (State.setPort_twice s p _ _).symm

/-- An engine that held no grant holds the one it is given. -/
theorem State.heldPort_setPort_self {p : Fin 8} {q : Port} (hnone : s.heldPort e = none)
    (hq : q.holder = some (.engine e)) : (s.setPort p q).heldPort e = some p := by
  refine find?_finRange_eq_some ?_ fun k hk => ?_
  · rw [State.setPort_self]
    exact beq_iff_eq.mpr hq
  · rw [State.setPort_other _ _ _ _ (Fin.ne_of_lt hk)]
    exact beq_false_of_ne (State.heldPort_eq_none.mp hnone k)

/-- The outcomes that are a fault of the step (R79). -/
theorem State.engineOutcome_fault {o : TxnOutcome} {v : Value} (hrun : s.Executes e r (.port st))
    (hnew : r.abortCause = none) (ho : (o = .reject ∧ reason = .rejected) ∨ (o = .silent ∧ reason = .silent)) :
    s.engineOutcome e o v = (s, [.faultStep e reason]) := by
  obtain ⟨hr, hstep⟩ := hrun
  unfold State.engineOutcome State.currentStep
  rw [hr]
  dsimp only
  rw [hnew, if_neg (show ¬ (none : Option AbortCause).isSome = true from Bool.false_ne_true), hstep]
  obtain ⟨rfl, rfl⟩ | ⟨rfl, rfl⟩ := ho <;> rfl

/-! ## PORT_DOWN (R69, R75) -/

/-- What a tolerant step's fault PORT_DOWN leaves, in the words of this file. -/
theorem State.pastPortDown_eq : s.pastPortDown e r d = (s.faultNoted r .portDown).atRun e (.waiting d) r.atNext := rfl

/-- A tolerant step whose engine has no grant is handed the fault PORT_DOWN. -/
theorem does_fault_portDown {p : Fin 8} (h : s.Tolerates e p r st d) (hp : (s.port p).holder ≠ some (.engine e)) :
    Does [.faultStep e .portDown] s (s.pastPortDown e r d) [] 6 0 := by
  obtain ⟨⟨hr, hst⟩, htol, hb, hnew, hlost, hw, hother, hwait⟩ := h
  have hnone : s.heldPort e = none := State.heldPort_eq_none.mpr fun q => by
    by_cases hq : q = p
    · rw [hq]; exact hp
    · exact hother q hq
  have hdoes := does_fault_tolerated (s := s) (e := e) (x := (s.engine e).state) (reason := .portDown) hst htol hb hlost hw
    (.inl ⟨hnone, rfl⟩) hwait
  rwa [State.atRun_eq_self rfl hr] at hdoes

theorem does_portDown {p : Fin 8} (h : s.Tolerates e p r st d) (hp : (s.port p).holder ≠ some (.engine e)) :
    Does [.portDown e] s (s.pastPortDown e r d) [] 7 0 := .andThen rfl rfl (does_fault_portDown h hp)

/-- The grant withdrawn from an engine in a transfer or between two (R75). -/
theorem does_withdrawn {p : Fin 8} (h : s.Tolerates e p r st d) (hp : (s.port p).holder ≠ some (.engine e))
    (hx : (s.engine e).state = .transact ∨ ∃ n, (s.engine e).state = .spacing n) :
    Does [.withdrawn e] s (s.pastPortDown e r d) [] 7 0 := by
  have hwithdrawn : s.grantWithdrawn e = (s, [.faultStep e .portDown]) := by
    obtain ⟨⟨hr, -⟩, -, -, hnew, -⟩ := h
    unfold State.grantWithdrawn
    rw [hr]
    dsimp only
    obtain hx | ⟨n, hx⟩ := hx
    · rw [hx]
      dsimp only
      rw [hnew]
      rfl
    · rw [hx]
  exact .andThen rfl (congrArg Eff.andThen hwithdrawn) (does_fault_portDown h hp)

end

/-- A step's tolerance is none of its port's business. -/
theorem tolerates_setPort {s : State} {e : Fin 4} {p : Fin 8} {r : Run} {st : PortStep} {d : Nat} (q : Port)
    (h : s.Tolerates e p r st d) : (s.setPort p q).Tolerates e p r st d := by
  obtain ⟨hrun, htol, hb, hnew, hlost, hw, hother, hwait⟩ := h
  refine ⟨hrun, htol, hb, hnew, hlost, hw, fun k hk => ?_, hwait⟩
  rw [State.setPort_other _ _ _ _ hk]
  exact hother k hk

/-! ## The port faults (R108, R109, R114) -/

/-- A port in FAULT, its grant withdrawn and its wait list emptied (R108, R131). -/
def Port.faulted (q : Port) (cause : FaultCause) : Port := (q.enterFault cause).vacate

theorem exec_overcurrent {s : State} {p : Fin 8} (hreset : s.inReset = false) (hsupply : (s.port p).supply = true)
    (hc : (s.port p).commitPending = false) :
    exec (.overcurrent p true) s = .next (event (s.setPort p ({ s.port p with ocLine := true }.faulted .overcurrent),
      (s.port p).downActs ++ [.portNotice p])) := by
  have hport : (s.setPort p { s.port p with ocLine := true }).port p = { s.port p with ocLine := true } :=
    State.setPort_self _ _ _
  have hactive : (true && s.pwrActive p) = true := by
    unfold State.pwrActive
    rw [hreset, hsupply]
    rfl
  have hcopy : (({ s.port p with ocLine := true }.enterFault .overcurrent).vacate).copyIfPending
      = { s.port p with ocLine := true }.faulted .overcurrent := Port.copyIfPending_of_not hc
  refine congrArg Host.Outcome.next ?_
  unfold overcurrent
  dsimp only
  rw [if_pos hactive]
  unfold State.portFault
  dsimp only
  rw [hport, hcopy, State.setPort_twice]
  rfl

/-- A port that faults with no one waiting at it. -/
theorem Port.overcurrent_faulted {q : Port} (hw : q.waiters = []) : { q with ocLine := true }.faulted .overcurrent = { q with
    state := .fault, supply := false, phase := none, attempts := 0, faultCause := some .overcurrent, txn := none
    quiet := none, access := none, ocLine := true, holder := none } := by
  unfold Port.faulted Port.vacate Port.enterFault
  rw [← hw]

theorem Port.downActs_of_holder {q : Port} {e : Fin 4} (hh : q.holder = some (.engine e)) (hw : q.waiters = []) :
    q.downActs = [.withdrawn e] := by
  unfold Port.downActs
  rw [hh, hw]
  rfl

/-- The notice of a port's new state, after what the event has done before (R114). -/
theorem event_portNotice {s t : State} {acts : List Act} {p : Fin 8} {c : Nat} {w : Half} (h : Does acts s t [] c 0)
    (hcode : pair (t.port p).state.code (faultCode (t.port p).faultCause) = w) (hc : 1 + c ≤ 1048576 := by decide) :
    event (s, acts ++ [.portNotice p]) = t.post .portState (byte p) 0#32 w := by
  have hnotice : Does [.portNotice p] t (t.post .portState (byte p) 0#32 w) [] 1 0 := by
    refine .just rfl ((act_portNotice t p).trans (congrArg Eff.just ?_))
    rw [← hcode]
    rfl
  exact event_eq (h.append hnotice) hc

/-- A response that is a fault of its port step: REJECT, or BUSY at the retry limit (R74, R79). -/
theorem exec_response_fault {s : State} {p : Fin 8} {e : Fin 4} {word : Word} {t : Transaction} {r : Run}
    {st : PortStep} {reason : Reason} {code : Byte} (hreset : s.inReset = false) (hst : (s.port p).state = .up)
    (ht : (s.port p).txn = some t) (hreq : t.requester = some (.engine e)) (hmsb : word.msb = true)
    (hrun : s.Executes e r (.port st)) (hp : st.port = p) (hnew : r.abortCause = none)
    (ho : (judge word = .reject ∧ reason = .rejected ∧ code = 0x01#8)
      ∨ (judge word = .busy ∧ st.busy = .retry ∧ (s.port p).active.retryLimit ≤ r.retry ∧ reason = .busyLimit
           ∧ code = 0x03#8)) :
    exec (.probeResponse p word false) s
        = .next (event ((s.heard p).atRun e (s.engine e).state r, [.faultStep e reason]))
      ∧ reason.code = code := by
  subst hp
  have hself : (s.heard st.port).atRun e (s.engine e).state r = s.heard st.port := State.atRun_eq_self rfl hrun.1
  rw [hself]
  obtain ⟨hjudge, rfl, rfl⟩ | ⟨hjudge, hbusy, hlimit, rfl, rfl⟩ := ho
  · refine ⟨?_, rfl⟩
    rw [exec_response_engine hreset hst ht hreq hmsb (by rw [hjudge]; nofun), hjudge]
    exact congrArg (fun y => Host.Outcome.next (event y))
      (State.engineOutcome_fault (s := s.heard st.port) hrun hnew (.inl ⟨rfl, rfl⟩))
  · refine ⟨?_, rfl⟩
    rw [exec_response_engine hreset hst ht hreq hmsb (by rw [hjudge]; nofun), hjudge,
      State.engineOutcome_busy (s := s.heard st.port) hrun hnew, State.busyOutcome_limit hbusy]
    rw [State.heard_port]
    exact hlimit

/-- A port whose transaction has ended with nothing heard (R111). -/
def State.unheard (s : State) (p : Fin 8) : State :=
  s.setPort p { s.port p with txn := none, tally := (s.port p).tally + 1 }

/-- Settles O60. -/
theorem stepFaultsAreToleratedOrEndTheRun : Obligations.StepFaultsAreToleratedOrEndTheRun := by
  refine ⟨fun s p e word t r st reason code hreset hst ht hreq hrun hp hnew hlost hwritten hheld hw hc hmsb ho => ?_,
    fun s p e r st d hreset hrun hp hnew hlost hwritten hb hheld hw hc htol hwait => ?_,
    fun s e r now st n d hreset hx hrun hlost hwritten hheld hstep htol hwait => ?_⟩
  · obtain ⟨hexec, hcode⟩ := exec_response_fault hreset hst ht hreq hmsb hrun hp hnew ho
    have hfree : (s.heard p).FreesTo e (s.setPort p { s.port p with txn := none, tally := 0, holder := none }) :=
      State.setPort_freesTo (q := { s.port p with tally := 0, txn := none }) hheld rfl hw hc
    have hstep := hrun.2
    have hle : r.samplesWritten ≤ 0xFFFFFFFF := Nat.le_of_lt hwritten
    intro freed
    rw [hexec, ← hcode]
    refine ⟨fun d hb htol hwait => ?_, fun d x time ring i hb htol hwait hroom => ?_,
      fun ring i hb htol hroom hseal hheldPlan hqueue htags hclear => ?_⟩
    · have hdoes := does_fault_tolerated (s := s.heard p) (x := (s.engine e).state) (reason := reason) hstep htol hb hlost
        hle hfree.faultNoted hwait
      rw [event_eq hdoes]
      exact congrArg Host.Outcome.next (State.atRun_of rfl)
    · have hsampling : ((s.heard p).faultNoted r reason).sampling e r time
          = (((s.heard p).faultNoted r reason).appendRecord (s.plan r.plan).attrs.ring ring i
              ⟨r.plan, r.stepIndex, time, .samples [x]⟩, .placed) := by
        unfold State.sampling State.committing
        rw [hb]
        exact State.commit_fits (s := (s.heard p).faultNoted r reason) hroom
      have hframe := hfree.faultNoted (r := r) (reason := reason) |>.appendRecord (s.plan r.plan).attrs.ring ring i
        ⟨r.plan, r.stepIndex, time, .samples [x]⟩
      have hdoes := does_fault_committed (s := s.heard p) (e := e) (x := (s.engine e).state) (reason := reason)
        (y := (x, time)) hstep htol hb (by rw [hsampling]; nofun) (by rw [hsampling]; exact hframe) hwait
      have htook : min (r.samplesWritten + 1) 0xFFFFFFFF = r.samplesWritten + 1 := Nat.min_eq_left hwritten
      rw [event_eq hdoes, State.appendRecord_faultNoted, Run.handedIn_took hlost, hb, List.length_singleton, htook]
      exact congrArg Host.Outcome.next (State.atRun_of rfl)
    · have hending : freed.ending e r (some reason) = (freed.appendRecord (s.plan r.plan).attrs.ring ring i
          ⟨r.plan, r.stepIndex, s.timeBase, .runEnd (some reason) r.remaining (s.plan r.plan).missCount
            r.samplesWritten⟩, .placed) := by
        unfold State.ending State.committing
        rw [show (freed.plan r.plan).attrs.sealOnEnd = false from hseal]
        exact State.commit_fits (s := freed) hroom
      have hkeeps : ∀ (k : Fin 4) rec, (freed.appendRecord k ring i rec).runQueue = []
          ∧ (freed.appendRecord k ring i rec).clear = none ∧ ((freed.appendRecord k ring i rec).engine e).abortTags = []
          ∧ (freed.appendRecord k ring i rec).plan r.plan = s.plan r.plan := fun k rec => ⟨hqueue, hclear, htags, rfl⟩
      have hdoes := does_fault_fails (s := s.heard p) (t := freed) (e := e) (x := (s.engine e).state) (reason := reason)
        hstep htol hb hlost hle hfree (by rw [hending]; nofun) hheldPlan
      rw [hending] at hdoes
      dsimp only at hdoes
      specialize hkeeps (s.plan r.plan).attrs.ring ⟨r.plan, r.stepIndex, s.timeBase, .runEnd (some reason) r.remaining
        (s.plan r.plan).missCount r.samplesWritten⟩
      generalize freed.appendRecord (s.plan r.plan).attrs.ring ring i _ = u at hdoes hkeeps ⊢
      obtain ⟨hqueue', hclear', htags', hplan⟩ := hkeeps
      rw [State.reported_of (s := u.noteFailed r reason) hplan] at hdoes
      exact congrArg Host.Outcome.next (event_ends hdoes hqueue' hclear' htags')
  · subst hp
    obtain ⟨hr, hst⟩ := hrun
    have hle : r.samplesWritten ≤ 0xFFFFFFFF := Nat.le_of_lt hwritten
    intro goesOn
    refine ⟨fun t hup ht hreq htally hbelow => ?_, fun hx hsupply hother => ?_⟩
    · have hlimit : ((s.port st.port).spent .silent).silenceReached = false := by
        rw [← Bool.not_eq_true, Port.spent_silenceReached htally]
        omega
      have hfree : (s.unheard st.port).FreesTo e (s.setPort st.port { s.port st.port with
          txn := none, tally := (s.port st.port).tally + 1, holder := none }) :=
        State.setPort_freesTo (q := { s.port st.port with txn := none, tally := (s.port st.port).tally + 1 }) hheld rfl hw hc
      have hdoes := does_fault_tolerated (s := s.unheard st.port) (x := (s.engine e).state) (reason := .silent) hst htol hb
        hlost hle hfree.faultNoted hwait
      have hself : (s.unheard st.port).atRun e (s.engine e).state r = s.unheard st.port := State.atRun_eq_self rfl hr
      rw [hself] at hdoes
      rw [exec_responseTimeout hreset, State.txnEnd_engine ht hreq hup (.inr hlimit), Port.spent_silent htally,
        show s.setPort st.port { s.port st.port with txn := none, tally := (s.port st.port).tally + 1 }
          = s.unheard st.port from rfl,
        State.engineOutcome_fault (s := s.unheard st.port) (r := r) (st := st) ⟨hr, hst⟩ hnew (.inr ⟨rfl, rfl⟩),
        event_eq hdoes]
      exact congrArg Host.Outcome.next (State.atRun_of rfl)
    · have hholder := State.heldPort_eq_some hheld
      have htolerates : s.Tolerates e st.port r st d := ⟨⟨hr, hst⟩, htol, hb, hnew, hlost, hle, hother, hwait⟩
      have hdoes := does_withdrawn (tolerates_setPort ({ s.port st.port with ocLine := true }.faulted .overcurrent)
        htolerates) (by rw [State.setPort_self]; nofun) hx
      rw [exec_overcurrent hreset hsupply hc, Port.downActs_of_holder hholder hw]
      have hcode : pair (PortState.fault).code (faultCode (some FaultCause.overcurrent)) = 0x0801#16 := by decide
      have hport : ((s.setPort st.port ({ s.port st.port with ocLine := true }.faulted .overcurrent)).pastPortDown e r
          d).port st.port = { s.port st.port with ocLine := true }.faulted .overcurrent := State.setPort_self _ _ _
      have hevent := event_portNotice (p := st.port) (w := 0x0801#16) hdoes (by rw [hport]; exact hcode)
      rw [hevent, Port.overcurrent_faulted hw]
      rfl
  · obtain ⟨hr, -⟩ := hrun
    have hle : r.samplesWritten ≤ 0xFFFFFFFF := Nat.le_of_lt hwritten
    have hstep' : (s.plan (r.atNext.atPort st).plan).steps[(r.atNext.atPort st).stepIndex]? = some (.port st) := hstep
    have hwait' : (s.plan (r.atNext.atPort st).plan).steps[(r.atNext.atPort st).stepIndex + 1]? = some (.wait d) := hwait
    intro q goesOn
    refine ⟨fun hup hre => ?_, fun i hup hh hw hc hid hsub => ?_⟩
    · have hfault := does_fault_tolerated (s := s) (e := e) (x := .waiting n) (reason := .portDown) hstep' htol rfl hlost hle
        (.inl ⟨hheld, rfl⟩) hwait'
      exact exec_waitExpiry_does hreset hx hr (does_next_step hstep (does_step_port_down hstep hup hre hfault)) (c := 8)
    · have hfree : (s.setPort st.port { q with holder := some (.engine e) }).FreesTo e s := by
        refine .inr ⟨st.port, State.heldPort_setPort_self hheld rfl, by rw [State.setPort_self]; exact hw,
          by rw [State.setPort_self]; exact hc, ?_⟩
        have hsame : ({ q with holder := none } : Port) = q := by rw [← hh]
        rw [State.setPort_self, State.setPort_twice]
        exact ((congrArg (s.setPort st.port) hsame).trans (State.setPort_eq_self ..)).symm
      have hfault := does_fault_tolerated (s := s.setPort st.port { q with holder := some (.engine e) }) (e := e)
        (x := .waiting n) (reason := .subaddrAbsent) hstep' htol rfl hlost hle hfree.faultNoted hwait'
      have habsent : ((s.setPort st.port { q with holder := some (.engine e) }).port st.port).subCount ≤ st.sub := by
        rw [State.setPort_self]
        exact (Port.subCount_of_some (q := { q with holder := some (.engine e) }) hid).trans_le hsub
      have hgranted := does_granted_absent (s := s.setPort st.port { q with holder := some (.engine e) }) hstep' habsent
        hfault
      exact exec_waitExpiry_does hreset hx hr (does_next_step hstep (does_step_port_free hstep hup hh hgranted)) (c := 9)

end Sys2Proof.Machine
end

section
/-! PROOFS. A port that is down stays down through an event (R98, R105, R108, R131): no action gives its grant or joins its
wait list, so what the port has but a transaction is left as it is. -/

namespace Sys2Proof.Machine

-- One proof after the other, as in the tests: many at once would each hold a thread.
set_option Elab.async false

/-! ## What leaves the ports alone -/

section
variable {s : State} {e : Fin 4} {r : Run}

theorem State.takeHead_ports : s.takeHead.1.ports = s.ports := by
  unfold State.takeHead
  split <;> rfl

theorem State.handOut_ports : s.handOut.1.ports = s.ports := by
  unfold State.handOut
  rw [show List.finRange 4 = [0, 1, 2, 3] from rfl]
  simp only [List.foldl_cons, List.foldl_nil, State.takeHead_ports]

theorem State.queueRun_ports (p : Fin 32) (source : Source) (time : Time) :
    (s.queueRun p source time).1.ports = s.ports := State.takeHead_ports

theorem State.miss_ports (p : Fin 32) (source : Source) : (s.miss p source).ports = s.ports := by
  unfold State.miss
  dsimp only
  split <;> rfl

theorem State.commitRecord_ports {time : Time} {body : RecordBody} {b : Bool} {nx : Resume} :
    (s.commitRecord e r time body b nx).1.ports = s.ports := by
  have hcommit := State.commit_get (s := s) (f := State.ports) (fun _ _ => rfl) (s.plan r.plan).attrs.ring e
    ⟨r.plan, r.stepIndex, time, body⟩ b
  unfold State.commitRecord
  dsimp only
  split
  · exact hcommit
  · exact hcommit
  · exact hcommit

theorem State.commitSamples_ports {nx : Nat → Resume} : (s.commitSamples e r nx).1.ports = s.ports := by
  unfold State.commitSamples
  split
  · rfl
  · exact State.commitRecord_ports

theorem State.commitRunEnd_ports {reason : Option Reason} : (s.commitRunEnd e r reason).1.ports = s.ports :=
  State.commitRecord_ports

theorem State.postStepFault_ports {reason : Reason} : (s.postStepFault r reason).ports = s.ports := by
  unfold State.postStepFault
  split
  · split <;> rfl
  · rfl

theorem State.grantWithdrawn_ports : (s.grantWithdrawn e).1.ports = s.ports := by
  unfold State.grantWithdrawn
  split
  · rfl
  · split <;> rfl

theorem State.arrive_ports (p : Fin 32) (source : Source) (time : Time) : (s.arrive p source time).st.ports = s.ports := by
  unfold State.arrive
  split
  · rfl
  · exact State.queueRun_ports ..
  · rfl
  · exact State.miss_ports ..

theorem State.endReport_ports (o : RunOutcome) : (s.endReport e o).st.ports = s.ports := by
  unfold State.endReport
  split
  · rfl
  · dsimp only
    split
    · exact State.queueRun_ports ..
    · rfl

theorem State.becomeIdle_ports : (s.becomeIdle e).st.ports = s.ports :=
  foldl_keeps (f := State.ports) (g := fun st t => st.replyOk t 0x38#8 []) (fun _ _ => rfl) _
    (s.setEngine e ⟨.idle, none, []⟩)

theorem State.clearRings_ports : s.clearRings.ports = s.ports := by
  unfold State.clearRings
  split
  · rfl
  · split
    · rfl
    · exact State.abortStreams_ports s

theorem State.nextStep_ports : (s.nextStep e r).1.ports = s.ports := by
  unfold State.nextStep
  split <;> rfl

theorem State.afterFault_ports {reason : Reason} : (s.afterFault e r reason).1.ports = s.ports := by
  unfold State.afterFault
  split <;> rfl

end

/-! ## A port at rest -/

/-- A port that grants no one and has no one waiting. -/
structure Port.Down (q : Port) : Prop where
  notUp : q.state ≠ .up
  notRetraining : q.state ≠ .retraining
  noHolder : q.holder = none
  noWaiters : q.waiters = []
  noAccess : q.access = none

/-- Port `p` is as `q`, but for a transaction. -/
def State.Rests (s : State) (p : Fin 8) (q : Port) : Prop := ∃ x, s.port p = { q with txn := x }

section
variable {s t : State} {p : Fin 8} {q : Port}

theorem State.Rests.of_ports (h : s.Rests p q) (hp : t.ports = s.ports) : t.Rests p q := by
  obtain ⟨x, hx⟩ := h
  refine ⟨x, ?_⟩
  unfold State.port
  rw [hp]
  exact hx

theorem State.Rests.setPort (h : s.Rests p q) {k : Fin 8} {z : Port} (hz : k = p → ∃ x, z = { q with txn := x }) :
    (s.setPort k z).Rests p q := by
  by_cases hk : p = k
  · obtain ⟨x, hx⟩ := hz hk.symm
    exact ⟨x, by rw [hk, State.setPort_self, hx]⟩
  · obtain ⟨x, hx⟩ := h
    exact ⟨x, by rw [State.setPort_other _ _ _ _ hk, hx]⟩

theorem State.Rests.setEngine (h : s.Rests p q) (e : Fin 4) (g : Engine) : (s.setEngine e g).Rests p q := h

/-- What the port has of `q`. -/
theorem State.Rests.port_eq (h : s.Rests p q) {k : Fin 8} (hk : k = p) : ∃ x, s.port k = { q with txn := x } := by
  rw [hk]
  exact h

variable {e : Fin 4} {r : Run} {st : PortStep}

theorem State.Rests.startTransfer (h : s.Rests p q) : (s.startTransfer e st).Rests p q := by
  unfold State.startTransfer
  rw [Port.startOrdinary_eq]
  refine State.Rests.setEngine (s := s.setPort st.port _) (h.setPort fun hk => ?_) _ _
  obtain ⟨x, hx⟩ := h.port_eq hk
  rw [hx]
  exact ⟨_, rfl⟩

theorem State.Rests.beginPortStep (hq : q.Down) (h : s.Rests p q) : (s.beginPortStep e r st).1.Rests p q := by
  have hdown : st.port = p → (s.port st.port).answer = .portDown := fun hk => by
    obtain ⟨x, hx⟩ := h.port_eq hk
    rw [hx]
    exact Port.answer_down hq.notUp hq.notRetraining
  unfold State.beginPortStep
  dsimp only
  split
  · next hans => exact h.setPort fun hk => nomatch (hdown hk).symm.trans hans
  · next hans => exact h.setPort fun hk => nomatch (hdown hk).symm.trans hans
  · exact h

theorem State.Rests.checkSubAddress (h : s.Rests p q) : (s.checkSubAddress e st).1.Rests p q := by
  unfold State.checkSubAddress
  split
  · exact h
  · exact h.startTransfer

theorem State.Rests.grantHead (hq : q.Down) (h : s.Rests p q) (k : Fin 8) : (s.grantHead k).1.Rests p q := by
  unfold State.grantHead
  dsimp only
  split
  · exact h
  · next w ws hw =>
    refine h.setPort fun hk => ?_
    obtain ⟨x, hx⟩ := h.port_eq hk
    rw [hx] at hw
    exact nomatch hq.noWaiters.symm.trans hw

theorem State.Rests.releaseGrant (hq : q.Down) (h : s.Rests p q) (k : Fin 8) : (s.releaseGrant k).1.Rests p q := by
  have hup : k = p → (s.port k).state ≠ .up := fun hk => by
    obtain ⟨x, hx⟩ := h.port_eq hk
    rw [hx]
    exact hq.notUp
  unfold State.releaseGrant
  dsimp only
  split
  · next hst =>
    split
    · exact (h.setPort fun hk => absurd hst (hup hk)).grantHead hq k
    · exact h.setPort fun hk => absurd hst (hup hk)
  · refine h.setPort fun hk => ?_
    obtain ⟨x, hx⟩ := h.port_eq hk
    rw [hx, ← hq.noHolder]
    exact ⟨x, rfl⟩

theorem State.Rests.hostGranted (hq : q.Down) (h : s.Rests p q) (k : Fin 8) : (s.hostGranted k).1.Rests p q := by
  have hnone : k = p → (s.port k).access = none := fun hk => by
    obtain ⟨x, hx⟩ := h.port_eq hk
    rw [hx]
    exact hq.noAccess
  unfold State.hostGranted
  dsimp only
  split
  · exact h
  · next a ha =>
    split
    · exact h.setPort fun hk => nomatch (hnone hk).symm.trans ha
    · exact h.setPort fun hk => nomatch (hnone hk).symm.trans ha

theorem State.Rests.resume (h : s.Rests p q) (x : Resume) : (s.resume e r x).1.Rests p q := by
  unfold State.resume
  split
  · exact h
  · dsimp only
    split
    · exact h
    · split
      · exact State.Rests.startTransfer (s := s.setRun e _) h
      · exact h
  · exact h
  · exact State.Rests.of_ports h State.afterFault_ports
  · exact h
  · exact h
  · exact h

theorem State.Rests.beginStep (hq : q.Down) (h : s.Rests p q) : (s.beginStep e r).1.Rests p q := by
  unfold State.beginStep
  split
  · exact h.beginPortStep hq
  · exact h.of_ports State.commitRecord_ports
  · exact h
  · exact h
  · exact h

theorem State.Rests.withRun {f : Run → State × List Act} (h : s.Rests p q) (hf : ∀ r, (f r).1.Rests p q) :
    (s.withRun e f).st.Rests p q := by
  unfold State.withRun
  split
  · exact h
  · exact hf _

/-- No action wakes a port that is down. -/
theorem act_rests (hq : q.Down) (a : Act) (s : State) (h : s.Rests p q) : (act a s).st.Rests p q := by
  cases a with
  | arrive => exact h.of_ports (State.arrive_ports ..)
  | commitBegin e =>
    refine h.withRun fun r => ?_
    split
    · exact h.of_ports State.commitRecord_ports
    · exact h
  | step e => exact h.withRun fun r => h.beginStep hq
  | next e => exact h.withRun fun r => h.of_ports State.nextStep_ports
  | granted e =>
    refine h.withRun fun r => ?_
    split
    · exact h.checkSubAddress
    · exact h
  | resume e x => exact h.withRun fun r => h.resume x
  | faultStep e reason => exact h.withRun fun r => h.of_ports State.postStepFault_ports
  | commitFault e reason => exact h.withRun fun r => h.of_ports State.commitSamples_ports
  | portDown e => exact h
  | withdrawn e => exact h.of_ports State.grantWithdrawn_ports
  | release e =>
    unfold act
    dsimp only
    split
    · exact h
    · exact h.releaseGrant hq _
  | releasePort k => exact h.releaseGrant hq k
  | hostGranted k => exact h.hostGranted hq k
  | hostDown tag => exact h
  | finish e => exact h.withRun fun r => h.of_ports State.commitRunEnd_ports
  | fail e reason => exact h.withRun fun r => h.of_ports State.commitRunEnd_ports
  | stallFailed e => exact h.withRun fun r => h
  | stop e => exact h.withRun fun r => h
  | stopped e => exact h.withRun fun r => h
  | endReport e o => exact h.of_ports (State.endReport_ports o)
  | idle e => exact h.of_ports State.becomeIdle_ports
  | take => exact h.of_ports State.handOut_ports
  | clearCheck => exact h.of_ports State.clearRings_ports
  | portNotice k => exact h

theorem event_rests (hq : q.Down) {acts : List Act} (h : s.Rests p q) : (event (s, acts)).Rests p q :=
  event_keeps (act_rests hq) h

end

/-! ## A port left by host accesses alone -/

/-- An action that concerns a port's host accesses and notices alone. -/
def Act.hostOnly : Act → Bool
  | .hostDown _ | .portNotice _ => true
  | _ => false

theorem act_hostOnly {a : Act} (ha : a.hostOnly = true) (s : State) :
    ∃ t, act a s = .just t ∧ t.ports = s.ports := by
  cases a with
  | hostDown tag => exact ⟨_, rfl, rfl⟩
  | portNotice p => exact ⟨_, rfl, rfl⟩
  | _ => exact absurd ha Bool.false_ne_true

theorem carryOut_hostOnly : ∀ (fuel : Nat) (acts : List Act) (x : Moment), (∀ a ∈ acts, a.hostOnly = true) →
    (carryOut fuel acts x).st.ports = x.st.ports ∧ (carryOut fuel acts x).last = x.last
  | 0, [], _, _ => ⟨rfl, rfl⟩
  | _ + 1, [], _, _ => ⟨rfl, rfl⟩
  | 0, _ :: _, _, _ => ⟨rfl, rfl⟩
  | fuel + 1, a :: rest, x, h => by
    have ha := h a List.mem_cons_self
    have hbegins : a.begins = false := by
      cases a with
      | commitBegin e => exact absurd ha Bool.false_ne_true
      | _ => rfl
    obtain ⟨t, hact, hports⟩ := act_hostOnly ha x.st
    have hrest := carryOut_hostOnly fuel rest ⟨t, x.last, x.begins⟩ fun b hb => h b (List.mem_cons_of_mem a hb)
    rw [carryOut_cons _ _ _ _ hbegins, hact]
    simp only [Eff.just, List.nil_append, List.append_nil]
    exact ⟨hrest.1.trans hports, hrest.2⟩

/-- An event of such actions leaves the ports alone, however many there are. -/
theorem event_hostOnly {s : State} {acts : List Act} (h : ∀ a ∈ acts, a.hostOnly = true) :
    (event (s, acts)).ports = s.ports := by
  obtain ⟨hports, hlast⟩ := carryOut_hostOnly Config.eventFuel acts (Moment.start s) h
  have hevent : event (s, acts) = settle Config.settleFuel (carryOut Config.eventFuel acts (Moment.start s)) := rfl
  rw [hevent]
  generalize carryOut Config.eventFuel acts (Moment.start s) = x at hports hlast ⊢
  obtain ⟨t, last, begins⟩ := x
  obtain rfl : last = [] := hlast
  rw [settle_nil]
  exact hports

/-- What a port without engines at it is left by. -/
theorem Port.downActs_hostOnly {q : Port} (hh : ∀ e, q.holder ≠ some (.engine e)) (hw : ∀ w ∈ q.waiters, w.who = .host) :
    ∀ a ∈ q.downActs, a.hostOnly = true := by
  have htags : ∀ a ∈ q.accessTag.map Act.hostDown, a.hostOnly = true := fun a ha => by
    obtain ⟨tag, -, rfl⟩ := List.mem_map.mp ha
    rfl
  intro a ha
  unfold Port.downActs at ha
  dsimp only at ha
  obtain ha | ha := List.mem_append.mp ha
  · obtain ⟨who, hwho, ha⟩ := List.mem_flatMap.mp ha
    cases who with
    | engine e => exact absurd (Option.mem_toList.mp hwho) (hh e)
    | host => exact htags a ha
  · obtain ⟨w, hmem, ha⟩ := List.mem_flatMap.mp ha
    rw [hw w hmem] at ha
    exact htags a ha

end Sys2Proof.Machine
end

section
/-! PROOFS. What a port's holder and its waiters are handed (R129 to R131): the drain's end, grants from the head of the
wait list, and PnOC and PnATN (R105, R108, R109, R113). -/

namespace Sys2Proof.Machine

-- One proof after the other, as in the tests: many at once would each hold a thread.
set_option Elab.async false

/-! ## Handing out PORT_DOWN (R131) -/

section
variable {s : State} {p : Fin 8} {q : Port} {a : HostAccess} {e : Fin 4} {rank : Nat}

theorem Port.downActs_host (hh : q.holder = some .host) (hw : q.waiters = []) (ha : q.access = some a) :
    q.downActs = [.hostDown a.tag] := by
  unfold Port.downActs Port.accessTag
  rw [hh, hw, ha]
  rfl

theorem Port.downActs_engine_host (hh : q.holder = some (.engine e)) (hw : q.waiters = [⟨.host, rank⟩])
    (ha : q.access = some a) : q.downActs = [.withdrawn e, .hostDown a.tag] := by
  unfold Port.downActs Port.accessTag
  rw [hh, hw, ha]
  rfl

theorem Port.downActs_host_engine (hh : q.holder = some .host) (hw : q.waiters = [⟨.engine e, rank⟩])
    (ha : q.access = some a) : q.downActs = [.hostDown a.tag, .portDown e] := by
  unfold Port.downActs Port.accessTag
  rw [hh, hw, ha]
  rfl

theorem Port.downActs_waiting_host (hh : q.holder = none) (hw : q.waiters = [⟨.host, rank⟩])
    (ha : q.access = some a) : q.downActs = [.hostDown a.tag] := by
  unfold Port.downActs Port.accessTag
  rw [hh, hw, ha]
  rfl

theorem Port.downActs_waiting_engine (hh : q.holder = none) (hw : q.waiters = [⟨.engine e, rank⟩]) :
    q.downActs = [.portDown e] := by
  unfold Port.downActs
  rw [hh, hw]
  rfl

theorem does_hostDown (s : State) (tag : Byte) :
    Does [.hostDown tag] s (s.placeReply tag 0x42#8 [0x17#8, 0x00#8]) [] 1 0 := .just rfl rfl

/-- What a STALLED holder whose grant is withdrawn keeps in mind (R75). -/
def Run.lost (r : Run) (x : Resume) : Run := { r with portLost := match x with | .midStep _ => true | _ => r.portLost }

/-- The grant withdrawn from a STALLED engine: in mid-step only port lost (R75). -/
theorem does_withdrawn_stalled {r : Run} {x : Resume} (hx : (s.engine e).state = .stalled x)
    (hr : (s.engine e).run = some r) : Does [.withdrawn e] s (s.setRun e (r.lost x)) [] 1 0 := by
  have hsame : s.setRun e r = s := by
    rw [State.setRun_eq_atRun hx]
    exact State.atRun_eq_self hx hr
  have hwithdrawn : s.grantWithdrawn e = (s.setRun e (r.lost x), []) := by
    unfold State.grantWithdrawn
    rw [hr]
    dsimp only
    rw [hx]
    cases x with
    | midStep n => rfl
    | _ => exact congrArg (·, []) hsame.symm
  exact .andThen rfl (congrArg Eff.andThen hwithdrawn) (.nil _)

/-! ## The drain's end (R105) -/

/-- What the profile copy does in DRAINING, where it moves no sequence (Table 7-3). -/
theorem Port.copyIfPending_draining (hst : q.state = .draining) : q.copyIfPending = { q with
    active := if q.commitPending then q.staged else q.active, commitPending := false } := by
  have hcopy : q.copy = { q with active := q.staged, commitPending := false } := by
    by_cases hrate : q.staged.rate = q.active.rate
    · exact Port.copy_of_same hrate
    · rw [Port.copy_of_changed hrate]
      unfold Port.rateChanged
      rw [show q.copied.state = .draining from hst]
      rfl
  unfold Port.copyIfPending
  by_cases hc : q.commitPending = true
  · rw [if_pos hc, if_pos hc, hcopy]
  · rw [if_neg hc, if_neg hc, ← Bool.eq_false_iff.mpr hc]

/-- A drained port: STOPPING, its grant withdrawn, its pending commit copied (R105, R131). -/
def Port.drained (q : Port) : Port := { q with
  state := .stopping, phase := some 1000, attempts := 0, txn := none, quiet := none, holder := none
  waiters := [], access := none, commitPending := false
  active := if q.commitPending then q.staged else q.active }

theorem Port.drained_eq (hst : q.state = .draining) : q.vacate.copyIfPending.enterStopping = q.drained := by
  rw [Port.copyIfPending_draining (q := q.vacate) hst]
  rfl

theorem Port.drained_down (q : Port) : q.drained.Down := ⟨nofun, nofun, rfl, rfl, rfl⟩

theorem State.drained_eq (hst : (s.port p).state = .draining) :
    s.drained p = (s.setPort p (s.port p).drained, (s.port p).downActs) := by
  unfold State.drained
  dsimp only
  rw [Port.drained_eq hst]

/-- A port at rest in STOPPING has no clock (Table 5-2). -/
theorem State.Rests.clockRate_none (h : s.Rests p q) (hst : q.state = .stopping ∨ q.state = .fault) :
    s.clockRate p = none := by
  obtain ⟨x, hx⟩ := h
  have hstate : (s.port p).state = q.state := by rw [hx]
  rw [State.clockRate_eq, hstate]
  obtain hst | hst := hst <;> rw [hst] <;> exact if_neg (by rintro ⟨-, h⟩; simp at h)

/-! ## Grants from the head of the wait list (R129) -/

theorem State.grantHead_host {ws : List Waiter} (hw : (s.port p).waiters = ⟨.host, rank⟩ :: ws) :
    s.grantHead p = (s.setPort p { s.port p with holder := some .host, waiters := ws }, [.hostGranted p]) := by
  unfold State.grantHead
  dsimp only
  rw [hw]

theorem State.grantHead_engine {ws : List Waiter} (hw : (s.port p).waiters = ⟨.engine e, rank⟩ :: ws) :
    s.grantHead p = (s.setPort p { s.port p with holder := some (.engine e), waiters := ws }, [.granted e]) := by
  unfold State.grantHead
  dsimp only
  rw [hw]

/-- A release at an UP port without a pending commit serves the head of the list. -/
theorem State.releaseGrant_up (hst : (s.port p).state = .up) (hc : (s.port p).commitPending = false) :
    s.releaseGrant p = (s.setPort p (s.port p).freed).grantHead p := by
  have hcopy : ({ s.port p with holder := none } : Port).copyIfPending = (s.port p).freed := Port.copyIfPending_of_not hc
  unfold State.releaseGrant
  dsimp only
  rw [hst]
  dsimp only
  rw [← hst, hcopy, show (s.port p).freed.state = .up from hst]

end

/-- Given the grant at the head of the wait list, an engine starts its first transfer (R70, R71). -/
theorem does_granted_head {s : State} {e : Fin 4} {r : Run} {st : PortStep} {q : Port} {d : Identity}
    (hrun : s.Executes e r (.port st)) (hid : q.identity = some d) (hsub : (st.sub : Nat) < d.subCount) :
    Does [.granted e] (s.setPort st.port q) ((s.setPort st.port { q with
      txn := some (q.ordinary (.engine e) st.fn st.sub) }).setEngine e { s.engine e with state := .transact }) [] 1 0 := by
  obtain ⟨hr, hst⟩ := hrun
  have hserved : ¬ ((s.setPort st.port q).port st.port).subCount ≤ st.sub := by
    rw [State.setPort_self, Port.subCount_of_some hid]
    exact Nat.not_le.mpr hsub
  have hgranted := does_granted (s := s.setPort st.port q) (e := e) (x := (s.engine e).state) (r := r) hst hserved
  have hself : (s.setPort st.port q).atRun e (s.engine e).state r = s.setPort st.port q := State.atRun_eq_self rfl hr
  rw [hself, State.setPort_self, State.setPort_twice] at hgranted
  have hengine : ({ s.engine e with state := .transact, run := some r } : Engine)
      = { s.engine e with state := .transact } := by rw [← hr]
  rw [← hengine]
  exact hgranted

theorem exec_grant {s : State} {p : Fin 8} (hreset : s.inReset = false) (hst : (s.port p).state = .up)
    (hh : (s.port p).holder = none) (hc : (s.port p).commitPending = false) :
    exec (.grant p) s = .next (event (s.grantHead p)) := by
  refine congrArg Host.Outcome.next ((awake_eq hreset).trans ?_)
  unfold grant
  dsimp only
  rw [if_pos ⟨hst, by rw [hh]; rfl, by rw [hc]; rfl⟩]

/-- The end of a draining holder's transaction, by what was heard (R105, R111, R124). -/
theorem exec_drained {s : State} {p : Fin 8} {t : Transaction} {c : Instr} {tally : Nat} (hreset : s.inReset = false)
    (hst : (s.port p).state = .draining) (ht : (s.port p).txn = some t) (hreq : t.requester.isSome = true)
    (hc : (∃ word, c = .probeResponse p word false ∧ word.msb = true ∧ judge word ≠ .silent ∧ tally = 0)
      ∨ ((c = .responseTimeout p ∨ ∃ word, c = .probeResponse p word false ∧ word.msb = true ∧ judge word = .silent)
          ∧ tally = min ((s.port p).tally + 1) 255)) :
    exec c s = .next (event (s.setPort p { s.port p with tally := tally, txn := none }.drained, (s.port p).downActs)) := by
  have hend : ∀ (o : TxnOutcome) (v : Value), (s.port p).spent o = { s.port p with tally := tally, txn := none } →
      s.txnEnd p o v = (s.setPort p { s.port p with tally := tally, txn := none }.drained, (s.port p).downActs) := by
    intro o v hspent
    rw [State.txnEnd_draining ht hreq hst, hspent,
      State.drained_eq (by rw [State.setPort_self]; exact hst), State.setPort_self, State.setPort_twice]
    rfl
  have hsilent : tally = min ((s.port p).tally + 1) 255 →
      (s.port p).spent .silent = { s.port p with tally := tally, txn := none } := fun h => by rw [h]; rfl
  obtain ⟨word, rfl, hmsb, hjudge, rfl⟩ | ⟨rfl | ⟨word, rfl, hmsb, hjudge⟩, htally⟩ := hc
  · rw [exec_probeResponse hreset hmsb, hend _ _ (Port.spent_of_heard hjudge)]
  · rw [exec_responseTimeout hreset, hend _ _ (hsilent htally)]
  · rw [exec_probeResponse hreset hmsb, hend _ _ (by rw [hjudge]; exact hsilent htally)]

/-- A release at a port whose list an engine heads gives it the grant, and it starts its first transfer (R70, R71,
R129). -/
theorem does_releasePort_engine {s : State} {e : Fin 4} {r : Run} {st : PortStep} {q : Port} {d : Identity} {rank : Nat}
    {ws : List Waiter} (hst : q.state = .up) (hc : q.commitPending = false) (hw : q.waiters = ⟨.engine e, rank⟩ :: ws)
    (hrun : s.Executes e r (.port st)) (hid : q.identity = some d) (hsub : (st.sub : Nat) < d.subCount) :
    Does [.releasePort st.port] (s.setPort st.port q) ((s.setPort st.port { q with
      holder := some (.engine e), waiters := ws, txn := some (q.ordinary (.engine e) st.fn st.sub) }).setEngine e
        { s.engine e with state := .transact }) [] 2 0 := by
  have hport : (s.setPort st.port q).port st.port = q := State.setPort_self _ _ _
  have hfreed : (s.setPort st.port q.freed).port st.port = q.freed := State.setPort_self _ _ _
  have hrelease : (s.setPort st.port q).releaseGrant st.port
      = (s.setPort st.port { q with holder := some (.engine e), waiters := ws }, [.granted e]) := by
    rw [State.releaseGrant_up (by rw [hport]; exact hst) (by rw [hport]; exact hc), hport, State.setPort_twice,
      State.grantHead_engine (e := e) (rank := rank) (ws := ws) (by rw [hfreed]; exact hw), hfreed, State.setPort_twice]
    rfl
  exact .andThen rfl (congrArg Eff.andThen hrelease)
    (does_granted_head (q := { q with holder := some (.engine e), waiters := ws }) hrun hid hsub)

/-- Settles O53. -/
theorem grantsAndDrainsServeTheWaitList : Obligations.GrantsAndDrainsServeTheWaitList := by
  refine ⟨fun s p hreset hst htxn => ?_,
    fun s p a d rank ws hreset hst hh hc hw ha hid hsub hread => ?_,
    fun s p e r st d rank ws hreset hst hc hw hrun hp hid hsub => ?_,
    fun s p t c tally hreset hst ht hreq hcommand => ?_⟩
  · have hexec : exec (.drainEnd p) s = .next (event (s.setPort p (s.port p).drained, (s.port p).downActs)) := by
      refine congrArg Host.Outcome.next ((awake_eq hreset).trans ?_)
      unfold drainEnd
      dsimp only
      rw [if_pos ⟨hst, by rw [htxn]; rfl⟩, State.drained_eq hst]
    have hrests : (event (s.setPort p (s.port p).drained, (s.port p).downActs)).Rests p (s.port p).drained :=
      event_rests (Port.drained_down _) ⟨(s.port p).drained.txn, by rw [State.setPort_self]⟩
    obtain ⟨x, hx⟩ := id hrests
    refine ⟨_, hexec, ?_, ?_, ?_, hrests.clockRate_none (.inl rfl)⟩ <;> rw [hx] <;> rfl
  · have hport : (s.setPort p { s.port p with holder := some .host, waiters := ws }).port p
        = { s.port p with holder := some .host, waiters := ws } := State.setPort_self _ _ _
    have hgranted := State.hostGranted_of_lt (s := s.setPort p { s.port p with holder := some .host, waiters := ws })
      (by rw [hport]; exact ha) (by rw [hport]; exact hid) hsub
    have hdoes : Does [.hostGranted p] (s.setPort p { s.port p with holder := some .host, waiters := ws }) _ [] 1 0 :=
      .andThen rfl (congrArg Eff.andThen hgranted) (.nil _)
    rw [exec_grant hreset hst hh hc, State.grantHead_host hw, event_eq hdoes, hport, State.setPort_twice]
    unfold Port.ordinary
    rw [hread]
    rfl
  · subst hp
    intro given
    have hgiven : ∀ q : Port, (s.setPort st.port { { q with holder := some (.engine e), waiters := ws } with
        txn := some (({ q with holder := some (.engine e), waiters := ws } : Port).ordinary (.engine e) st.fn
          st.sub) }).setEngine e { s.engine e with state := .transact } = given q := fun q => by
      dsimp only [given]
      unfold Port.ordinary PortFn.line PortFn.operand
      cases st.fn <;> rfl
    refine ⟨fun hh => ?_, fun word t a hh ha ht hreq hmsb hjudge => ?_⟩
    · have hdoes := does_granted_head (q := { s.port st.port with holder := some (.engine e), waiters := ws }) hrun hid hsub
      rw [exec_grant hreset hst hh hc, State.grantHead_engine hw, event_eq hdoes, hgiven]
    · have hheard : TxnOutcome.busy ≠ .silent := nofun
      have hport : (s.heard st.port).port st.port = { s.port st.port with tally := 0, txn := none } := s.heard_port _
      have hanswered := State.hostOutcome_eq (s := s.heard st.port) (p := st.port) (a := a) (o := .busy)
        (v := responseData word) (by rw [hport]; exact ha)
      rw [hport, if_neg (show ¬ TxnOutcome.busy = TxnOutcome.data from nofun)] at hanswered
      have hdoes := does_releasePort_engine (s := s.placeReply a.tag 0x42#8 (0x00#8 :: 0x01#8 :: bytesBE 6 s.timeBase.toNat
        ++ [0x00#8, 0x00#8, 0x00#8])) (q := { s.port st.port with tally := 0, txn := none, access := none }) (ws := ws)
        hst hc hw hrun hid hsub
      rw [exec_probeResponse hreset hmsb, hjudge, State.txnEnd_host ht hreq hst (.inl hheard), Port.spent_of_heard hheard,
        show s.setPort st.port { s.port st.port with txn := none, tally := 0 } = s.heard st.port from rfl, hanswered]
      have hstate := congrArg (fun u : State => u.placeReply a.tag 0x42#8 (0x00#8 :: 0x01#8 :: bytesBE 6 s.timeBase.toNat
        ++ [0x00#8, 0x00#8, 0x00#8])) (State.setPort_twice s st.port { s.port st.port with tally := 0, txn := none }
          { s.port st.port with tally := 0, txn := none, access := none })
      have hevent := (congrArg (fun u => event (u, [.releasePort st.port])) hstate).trans (event_eq hdoes)
      rw [← hgiven]
      exact congrArg Host.Outcome.next hevent
  · intro stopped portDown
    have hstopped : s.setPort p { s.port p with tally := tally, txn := none }.drained = stopped := rfl
    rw [exec_drained hreset hst ht hreq hcommand, hstopped]
    refine ⟨fun a hh ha hw => ?_, fun e r st d htol => ⟨fun hh hx hw => ?_, fun a rank hh hx hw ha => ?_,
      fun a rank hh ha hw => ?_⟩⟩
    · rw [Port.downActs_host hh hw ha, event_eq (does_hostDown _ _)]
    · have htol' : stopped.Tolerates e p r st d := tolerates_setPort _ htol
      rw [Port.downActs_of_holder hh hw, event_eq (does_withdrawn htol' (by rw [State.setPort_self]; nofun) (.inl hx))]
    · have htol' : stopped.Tolerates e p r st d := tolerates_setPort _ htol
      rw [Port.downActs_engine_host hh hw ha,
        event_eq ((does_withdrawn htol' (by rw [State.setPort_self]; nofun) (.inl hx)).cons (does_hostDown _ _))]
    · have htol' : (portDown a stopped).Tolerates e p r st d := tolerates_setPort _ htol
      have hport : ((portDown a stopped).port p).holder ≠ some (.engine e) := by
        rw [show (portDown a stopped).port p = stopped.port p from rfl, State.setPort_self]
        nofun
      rw [Port.downActs_host_engine hh hw ha, event_eq ((does_hostDown _ _).cons (does_portDown htol' hport))]

end Sys2Proof.Machine
end

section
/-! PROOFS. PnOC and PnATN (R108, R109, R113), and PORT-POWER by the port's state (R97, R98, R105, R110). -/

namespace Sys2Proof.Machine

-- One proof after the other, as in the tests: many at once would each hold a thread.
set_option Elab.async false

/-! ## PnOC (R108, R109) -/

/-- What the profile copy does in FAULT, where it moves no sequence (Table 7-3). -/
theorem Port.copyIfPending_fault {q : Port} (hst : q.state = .fault) : q.copyIfPending = { q with
    active := if q.commitPending then q.staged else q.active, commitPending := false } := by
  have hcopy : q.copy = { q with active := q.staged, commitPending := false } := by
    by_cases hrate : q.staged.rate = q.active.rate
    · exact Port.copy_of_same hrate
    · exact (Port.copy_of_changed hrate).trans (Port.rateChanged_unmoved (q := q.copied) (.inr (.inr (.inr hst))))
  unfold Port.copyIfPending
  by_cases hc : q.commitPending = true
  · rw [if_pos hc, if_pos hc, hcopy]
  · rw [if_neg hc, if_neg hc, ← Bool.eq_false_iff.mpr hc]

/-- A port in FAULT for an overcurrent, its pending commit copied (R108, R109, R131). -/
def Port.overcurrent (q : Port) : Port := { q with
  state := .fault, supply := false, phase := none, attempts := 0, faultCause := some .overcurrent, txn := none
  quiet := none, holder := none, waiters := [], access := none, ocLine := true, commitPending := false
  active := if q.commitPending then q.staged else q.active }

/-- ... and with no commit pending. -/
theorem Port.overcurrent_eq {q : Port} (hc : q.commitPending = false) : q.overcurrent = { q with
    state := .fault, supply := false, phase := none, attempts := 0, faultCause := some .overcurrent, txn := none
    quiet := none, holder := none, waiters := [], access := none, ocLine := true } := by
  unfold Port.overcurrent
  rw [hc, if_neg Bool.false_ne_true, ← hc]

theorem Port.overcurrent_down (q : Port) : q.overcurrent.Down := ⟨nofun, nofun, rfl, rfl, rfl⟩

section
variable {s : State} {p : Fin 8}

theorem exec_overcurrent_active (hreset : s.inReset = false) (hsupply : (s.port p).supply = true) :
    exec (.overcurrent p true) s
      = .next (event (s.setPort p (s.port p).overcurrent, (s.port p).downActs ++ [.portNotice p])) := by
  have hport : (s.setPort p { s.port p with ocLine := true }).port p = { s.port p with ocLine := true } :=
    State.setPort_self _ _ _
  have hactive : (true && s.pwrActive p) = true := by
    unfold State.pwrActive
    rw [hreset, hsupply]
    rfl
  have hcopy : (({ s.port p with ocLine := true }.enterFault .overcurrent).vacate).copyIfPending
      = (s.port p).overcurrent := Port.copyIfPending_fault rfl
  refine congrArg Host.Outcome.next ?_
  unfold overcurrent
  dsimp only
  rw [if_pos hactive]
  unfold State.portFault
  dsimp only
  rw [hport, hcopy, State.setPort_twice]
  rfl

/-- A level on PnOC that faults nothing (R109, R117). -/
theorem exec_overcurrent_level {b : Bool} (h : (b && s.pwrActive p) = false) :
    exec (.overcurrent p b) s = .next (s.setPort p { s.port p with ocLine := b }) := by
  refine congrArg Host.Outcome.next ?_
  unfold overcurrent
  dsimp only
  rw [if_neg (by rw [h]; exact Bool.false_ne_true)]

/-- The fault by PnOC with what the port's holder and waiters are handed, and its notice (R108, R114). -/
theorem exec_overcurrent_does {t : State} {c : Nat} (hreset : s.inReset = false) (hsupply : (s.port p).supply = true)
    (h : Does (s.port p).downActs (s.setPort p (s.port p).overcurrent) t [] c 0)
    (hstate : (t.port p).state = .fault) (hcause : (t.port p).faultCause = some .overcurrent)
    (hc : 1 + c ≤ 1048576 := by decide) :
    exec (.overcurrent p true) s = .next (t.post .portState (byte p) 0#32 0x0801#16) := by
  have hcode : pair (t.port p).state.code (faultCode (t.port p).faultCause) = 0x0801#16 := by
    rw [hstate, hcause]
    decide
  rw [exec_overcurrent_active hreset hsupply, event_portNotice h hcode hc]

end

/-- Settles O47. -/
theorem portLinesActByState : Obligations.PortLinesActByState := by
  refine ⟨fun s p => ⟨fun h => ?_, exec_overcurrent_level rfl, fun hreset hsupply hh hw hc => ?_, fun hreset hsupply => ?_⟩,
    fun s p hreset => ⟨fun d hst hid hatn hunbound => ?_, fun h => ?_, ?_⟩,
    fun s p hreset hsupply hc => ?_⟩
  · refine exec_overcurrent_level ?_
    unfold State.pwrActive
    obtain h | h := h <;> rw [h] <;> simp
  · have hnone : Does (s.port p).downActs (s.setPort p (s.port p).overcurrent) (s.setPort p (s.port p).overcurrent) [] 0 0 := by
      rw [Port.downActs_of_nobody hh hw]
      exact .nil _
    rw [exec_overcurrent_does hreset hsupply hnone (by rw [State.setPort_self]; rfl) (by rw [State.setPort_self]; rfl)]
    have hport : (s.port p).overcurrent = { s.port p with
        state := .fault, supply := false, phase := none, attempts := 0, faultCause := some .overcurrent, txn := none
        quiet := none, access := none, ocLine := true } := by
      rw [Port.overcurrent_eq hc, ← hh, ← hw]
    rw [hport]
  · have hrests : (event (s.setPort p (s.port p).overcurrent, (s.port p).downActs ++ [.portNotice p])).Rests p
        (s.port p).overcurrent :=
      event_rests (Port.overcurrent_down _) ⟨(s.port p).overcurrent.txn, by rw [State.setPort_self]⟩
    have htxn : (∀ e, (s.port p).holder ≠ some (.engine e)) → (∀ w ∈ (s.port p).waiters, w.who = .host) →
        ((event (s.setPort p (s.port p).overcurrent, (s.port p).downActs ++ [.portNotice p])).port p).txn = none := by
      intro hh hw
      have hports := event_hostOnly (s := s.setPort p (s.port p).overcurrent)
        (acts := (s.port p).downActs ++ [.portNotice p]) fun a ha => by
          obtain ha | ha := List.mem_append.mp ha
          · exact Port.downActs_hostOnly hh hw a ha
          · rw [List.mem_singleton.mp ha]
            rfl
      have hsame := congrArg (fun v : Vector Port 8 => v[p].txn) hports
      exact hsame.trans (congrArg Port.txn (State.setPort_self s p (s.port p).overcurrent))
    obtain ⟨x, hx⟩ := hrests
    refine ⟨_, exec_overcurrent_active hreset hsupply, by rw [hx]; rfl, ?_, by rw [hx]; rfl, by rw [hx]; rfl, htxn,
      by rw [hx]; rfl, by rw [hx]; rfl, by rw [hx]; rfl⟩
    unfold State.pwrActive
    rw [hx]
    exact Bool.and_false _
  · have hheeds : (s.port p).heedsAttention = true := by
      unfold Port.heedsAttention
      rw [hst, hid]
      exact hatn
    have hnone : ∀ t : State, t.plans = s.plans → t.arrivals (.attn p) t.timeBase = [] := fun t ht =>
      State.Unbound.arrivals (s := t) (fun k => by unfold State.plan; rw [ht]; exact hunbound k) _
    refine congrArg Host.Outcome.next ((awake_eq hreset).trans ?_)
    unfold attentionEdge
    rw [if_pos (by rw [hheeds]; rfl)]
    dsimp only
    rw [hnone _ (by split <;> rfl), event_nil]
  · have hheeds : (s.port p).heedsAttention = false := by
      unfold Port.heedsAttention
      obtain h | h := h
      · rw [beq_false_of_ne h]
        rfl
      · have hany : ((s.port p).identity.any fun d => d.atn) = false := by
          cases hid : (s.port p).identity with
          | none => rfl
          | some d => exact h d hid
        rw [hany, Bool.and_false]
    refine congrArg Host.Outcome.next ((awake_eq hreset).trans ?_)
    unfold attentionEdge
    rw [if_neg (by rw [hheeds]; exact Bool.false_ne_true)]
  · exact congrArg Host.Outcome.next (awake_eq hreset)
  · intro down noted
    have hdown : s.setPort p (s.port p).overcurrent = down := congrArg (s.setPort p) (Port.overcurrent_eq hc)
    have hport : down.port p = (s.port p).overcurrent := by rw [← hdown, State.setPort_self]
    have hexec : ∀ (t : State) (c : Nat), Does (s.port p).downActs down t [] c 0 → t.port p = down.port p →
        1 + c ≤ 1048576 → exec (.overcurrent p true) s = .next (noted t) := fun t c h ht hle => by
      rw [← hdown] at h
      exact exec_overcurrent_does hreset hsupply h (by rw [ht, hport]; rfl) (by rw [ht, hport]; rfl) hle
    have hholder : ∀ e, (down.port p).holder ≠ some (.engine e) := fun e => by rw [hport]; nofun
    refine ⟨fun a rank ha h => ?_, fun e r st d rank htol h => ?_, fun e r x hh hw hx hr => ?_⟩
    · refine hexec _ 1 ?_ rfl (by decide)
      obtain ⟨hh, hw⟩ | ⟨hh, hw⟩ := h
      · rw [Port.downActs_host hh hw ha]
        exact does_hostDown _ _
      · rw [Port.downActs_waiting_host hh hw ha]
        exact does_hostDown _ _
    · have htol' : down.Tolerates e p r st d := tolerates_setPort _ htol
      refine hexec _ 7 ?_ rfl (by decide)
      obtain ⟨hh, hw⟩ | ⟨hh, hw, hx⟩ := h
      · rw [Port.downActs_waiting_engine hh hw]
        exact does_portDown htol' (hholder e)
      · rw [Port.downActs_of_holder hh hw]
        exact does_withdrawn htol' (hholder e) hx
    · have hdoes := does_withdrawn_stalled (s := down) (e := e) hx hr
      rw [← Port.downActs_of_holder hh hw] at hdoes
      exact (hexec _ 1 hdoes rfl (by decide)).trans (by cases x <;> rfl)

end Sys2Proof.Machine
end

section
/-! PROOFS. PORT-POWER by the port's state (R97, R98, R105, R110, R131, Table 5-4). -/

namespace Sys2Proof.Machine

-- One proof after the other, as in the tests: many at once would each hold a thread.
set_option Elab.async false

/-- A reply placed for any request, and then the answer to the one just admitted. -/
theorem State.admit_replies {s : State} {tag kind other : Byte} {k : Byte} {b body : List Byte}
    (hfresh : ∀ o ∈ s.link.outstanding, o.tag ≠ tag) :
    ((s.admitted tag kind).placeReply other k b).placeReply tag kind body
      = (s.placeReply other k b).answered tag kind body := by
  by_cases hne : other = tag
  · subst hne
    have hplaced : ∀ l : List OutEntry, (∀ o ∈ l, o.tag ≠ other) →
        l.map (fun (o : OutEntry) => if o.tag = other then { o with stage := .placed } else o) = l := fun l hl =>
      (List.map_congr_left fun o ho => if_neg (hl o ho)).trans (List.map_id' l)
    have hsame := hplaced _ hfresh
    have hmap : ((s.link.outstanding ++ [(⟨other, kind, .withOwner⟩ : OutEntry)]).map
          (fun (o : OutEntry) => if o.tag = other then { o with stage := .placed } else o)).map
          (fun (o : OutEntry) => if o.tag = other then { o with stage := .placed } else o)
        = s.link.outstanding.map (fun (o : OutEntry) => if o.tag = other then { o with stage := .placed } else o)
          ++ [(⟨other, kind, .placed⟩ : OutEntry)] := by
      rw [List.map_append, List.map_append, hsame, hsame]
      simp
    exact congrArg (fun l : List OutEntry => { s with link := { s.link with
      replies := (s.link.replies ++ [(⟨other, replyKind k, b, false⟩ : Reply)])
        ++ [(⟨other, replyKind kind, body, false⟩ : Reply)], outstanding := l } }) hmap
  · exact State.admit_placeReply_placeReply hfresh hne

section
variable {s t : State} {p : Fin 8} {tag port : Byte} {q : Port}

/-! ## ON (R97, R99) -/

theorem exec_powerOn {code : Byte} (h : s.Accepts tag) (hp : port.toNat = p) (hlink : t.link = s.link)
    (hon : (s.admitted tag 0x40#8).powerOn tag p = (t.admitted tag 0x40#8).replyOk tag 0x40#8 [code]) :
    exec (.portPowerOn tag port) s = .next (t.answered tag 0x40#8 [0x00#8, code]) := by
  refine congrArg Host.Outcome.next (h.receive_answered (t := t) rfl hlink ?_)
  rw [ownPortPower_on, State.withPort_of_eq hp]
  exact hon

theorem State.powerOn_off (hst : (s.port p).state = .off) : s.powerOn tag p = (event (s.powerUp p)).replyPower tag p := by
  unfold State.powerOn
  rw [hst]

theorem State.powerOn_up (hst : (s.port p).state = .powering ∨ (s.port p).state = .clocking
    ∨ (s.port p).state = .identifying ∨ (s.port p).state = .up ∨ (s.port p).state = .retraining) :
    s.powerOn tag p = s.replyPower tag p := by
  unfold State.powerOn
  obtain h | h | h | h | h := hst <;> rw [h]

theorem State.powerOn_down (hst : (s.port p).state = .draining ∨ (s.port p).state = .stopping
    ∨ (s.port p).state = .fault) : s.powerOn tag p = s.replyNot tag 0x40#8 .badState := by
  unfold State.powerOn
  obtain h | h | h := hst <;> rw [h]

/-! ## OFF (R98, R105, R110) -/

theorem exec_powerOff {code : Byte} (h : s.Accepts tag) (hp : port.toNat = p) (hlink : t.link = s.link)
    (hevent : event ((s.admitted tag 0x40#8).powerDown p) = t.admitted tag 0x40#8)
    (hcode : (t.port p).state.code = code) :
    exec (.portPowerOff tag port) s = .next (t.answered tag 0x40#8 [0x00#8, code]) := by
  refine congrArg Host.Outcome.next (h.receive_answered (t := t) rfl hlink ?_)
  rw [ownPortPower_off, State.withPort_of_eq hp, hevent, ← hcode]
  rfl

theorem State.powerDown_stays (hst : (s.port p).state = .off ∨ (s.port p).state = .draining
    ∨ (s.port p).state = .stopping) : s.powerDown p = (s, []) := by
  unfold State.powerDown
  dsimp only
  obtain h | h | h := hst <;> rw [h]

theorem State.powerDown_bringUp (hst : (s.port p).state = .powering ∨ (s.port p).state = .clocking
    ∨ (s.port p).state = .identifying) : s.powerDown p = (s.setPort p (s.port p).enterStopping, []) := by
  unfold State.powerDown
  dsimp only
  obtain h | h | h := hst <;> rw [h]

theorem State.powerDown_fault (hst : (s.port p).state = .fault) :
    s.powerDown p = ((s.setPort p (s.port p).enterOff).postPortState p, []) := by
  unfold State.powerDown
  dsimp only
  rw [hst]

theorem State.powerDown_retraining (hst : (s.port p).state = .retraining) : s.powerDown p = s.stopPort p := by
  unfold State.powerDown
  dsimp only
  rw [hst]

theorem State.powerDown_up (hst : (s.port p).state = .up) :
    s.powerDown p = if (s.port p).holder.isSome then s.startDrain p else s.stopPort p := by
  unfold State.powerDown
  dsimp only
  rw [hst]

/-- A port STOPPING, its grant withdrawn and its wait list emptied (R98, R131). -/
def Port.stopped (q : Port) : Port := { q with
  state := .stopping, phase := some 1000, attempts := 0, txn := none, quiet := none, holder := none
  waiters := [], access := none }

theorem State.stopPort_eq : s.stopPort p = (s.setPort p (s.port p).stopped, (s.port p).downActs) := rfl

/-- A drain with no transaction to wait for (R105). -/
theorem State.startDrain_now (htxn : (s.port p).txn = none) :
    s.startDrain p = (s.setPort p { s.port p with state := .draining }.drained, (s.port p).downActs) := by
  have hport : (s.setPort p { s.port p with state := .draining }).port p = { s.port p with state := .draining } :=
    State.setPort_self _ _ _
  unfold State.startDrain
  dsimp only
  rw [if_pos (by rw [htxn]; rfl), State.drained_eq (by rw [hport]), hport, State.setPort_twice]
  rfl

theorem Port.drained_stopped (hc : q.commitPending = false) : { q with state := .draining }.drained = q.stopped := by
  unfold Port.drained Port.stopped
  dsimp only
  rw [hc, if_neg Bool.false_ne_true, ← hc]

/-- PORT-POWER OFF at a port without a transaction to wait for: STOPPING at once (R98, R105). -/
theorem State.powerDown_stops (hst : (s.port p).state = .retraining ∨ ((s.port p).state = .up ∧ (s.port p).txn = none)
      ∨ ((s.port p).state = .up ∧ (s.port p).holder = none)) :
    ∃ z, s.powerDown p = (s.setPort p z, (s.port p).downActs) ∧ z.Down ∧ z.state = .stopping ∧ z.phase = some 1000
      ∧ z.txn = none ∧ ((s.port p).holder = none ∨ (s.port p).commitPending = false → z = (s.port p).stopped) := by
  have hstops : s.powerDown p = s.stopPort p → ∃ z, s.powerDown p = (s.setPort p z, (s.port p).downActs) ∧ z.Down
      ∧ z.state = .stopping ∧ z.phase = some 1000 ∧ z.txn = none
      ∧ ((s.port p).holder = none ∨ (s.port p).commitPending = false → z = (s.port p).stopped) := fun h =>
    ⟨_, h.trans State.stopPort_eq, ⟨nofun, nofun, rfl, rfl, rfl⟩, rfl, rfl, rfl, fun _ => rfl⟩
  by_cases hup : (s.port p).state = .up
  · by_cases hh : (s.port p).holder = none
    · refine hstops ((State.powerDown_up hup).trans (if_neg ?_))
      rw [hh]
      exact Bool.false_ne_true
    · have htxn : (s.port p).txn = none := by
        obtain h | ⟨-, h⟩ | ⟨-, h⟩ := hst
        · exact nomatch hup.symm.trans h
        · exact h
        · exact absurd h hh
      have hdrain := (State.powerDown_up hup).trans (if_pos (Option.isSome_iff_ne_none.mpr hh))
      exact ⟨_, hdrain.trans (State.startDrain_now htxn), Port.drained_down _, rfl, rfl, rfl,
        fun h => Port.drained_stopped (h.resolve_left hh)⟩
  · refine hstops (State.powerDown_retraining ?_)
    obtain h | ⟨h, -⟩ | ⟨h, -⟩ := hst
    · exact h
    · exact absurd h hup
    · exact absurd h hup

end

/-- PORT-POWER ON with PnOC already asserted: FAULT as soon as the supply is on (R99, R109). -/
theorem State.powerOn_overcurrent {s : State} {p : Fin 8} {tag : Byte} (hst : (s.port p).state = .off)
    (hoc : (s.port p).ocLine = true) (hh : (s.port p).holder = none) (hw : (s.port p).waiters = [])
    (hc : (s.port p).commitPending = false) :
    s.powerOn tag p = ((s.setPort p { s.port p with
      state := .fault, supply := false, phase := none, attempts := 0, tally := 0, faultCause := some .overcurrent
      txn := none, quiet := none, access := none }).post .portState (byte p) 0#32 0x0801#16).replyOk tag 0x40#8
        [0x08#8] := by
  have hport : (s.setPort p (s.port p).enterPowering).port p = (s.port p).enterPowering := State.setPort_self _ _ _
  have hcode : 0x08#8 ++ faultCode (some FaultCause.overcurrent) = 0x0801#16 := by decide
  have hup : s.powerUp p = (s.setPort p (s.port p).enterPowering).portFault p .overcurrent := by
    unfold State.powerUp
    dsimp only
    rw [if_pos hoc]
  rw [State.powerOn_off hst, hup, event_portFault _ (by rw [hport]; exact hh) (by rw [hport]; exact hw)
    (by rw [hport]; exact hc), hport, State.setPort_twice, hcode]
  unfold State.replyPower
  rw [State.post_get_port, State.setPort_self]
  rfl

/-- Settles O44. -/
theorem portPowerByState : Obligations.PortPowerByState := by
  refine ⟨fun s tag port p h hp => ⟨fun hst hoc => ?_, fun hst => ?_, fun hst => ?_, fun hst hoc hh hw hc => ?_⟩,
    fun s tag port p h hp => ⟨fun hst => ?_, fun hst => ?_, fun hst hh hw => ?_, fun hst hh htxn => ?_, fun hst => ?_,
      fun hst => ?_, fun a rank hst hh hw ha => ?_⟩,
    fun s tag port p e r h hp hc => ?_⟩
  · refine exec_powerOn (t := s.setPort p (s.port p).enterPowering) h hp rfl ?_
    have hup : (s.admitted tag 0x40#8).powerUp p
        = ((s.setPort p (s.port p).enterPowering).admitted tag 0x40#8, []) := by
      unfold State.powerUp
      dsimp only
      rw [State.admit_get_port, if_neg (by rw [hoc]; exact Bool.false_ne_true)]
      rfl
    rw [State.powerOn_off (s := s.admitted tag 0x40#8) hst, hup, event_nil]
    unfold State.replyPower
    rw [State.admit_get_port, State.setPort_self]
    rfl
  · exact exec_powerOn (t := s) h hp rfl (State.powerOn_up (s := s.admitted tag 0x40#8) hst)
  · refine congrArg Host.Outcome.next (h.receive_not .badState 0x00#8 rfl ?_)
    rw [ownPortPower_on, State.withPort_of_eq hp]
    exact State.powerOn_down (s := s.admitted tag 0x40#8) hst
  · exact exec_powerOn h hp rfl (State.powerOn_overcurrent (s := s.admitted tag 0x40#8) hst hoc hh hw hc)
  · refine exec_powerOff (t := s) h hp rfl ?_ rfl
    rw [State.powerDown_stays (s := s.admitted tag 0x40#8) hst, event_nil]
  · refine exec_powerOff (t := s.setPort p (s.port p).enterStopping) h hp rfl ?_ (by rw [State.setPort_self]; rfl)
    rw [State.powerDown_bringUp (s := s.admitted tag 0x40#8) hst, event_nil]
    rfl
  · obtain ⟨z, hdown, -, -, -, -, hz⟩ := State.powerDown_stops (s := s.admitted tag 0x40#8) (.inr (.inr ⟨hst, hh⟩))
    have hstopped : (s.port p).stopped = { s.port p with
        state := .stopping, phase := some 1000, attempts := 0, txn := none, quiet := none, access := none } := by
      unfold Port.stopped
      rw [← hh, ← hw]
    rw [hz (.inl hh), State.admit_get_port, hstopped, Port.downActs_of_nobody hh hw] at hdown
    refine exec_powerOff h hp rfl ?_ (by rw [State.setPort_self]; rfl)
    rw [hdown, event_nil]
    rfl
  · refine exec_powerOff (t := s.setPort p { s.port p with state := .draining }) h hp rfl ?_
      (by rw [State.setPort_self]; rfl)
    have hdrain : (s.admitted tag 0x40#8).startDrain p
        = ((s.setPort p { s.port p with state := .draining }).admitted tag 0x40#8, []) := by
      unfold State.startDrain
      dsimp only
      rw [State.admit_get_port, if_neg (by rw [Option.isNone_iff_eq_none]; exact Option.isSome_iff_ne_none.mp htxn)]
      rfl
    rw [State.powerDown_up (s := s.admitted tag 0x40#8) hst, State.admit_get_port, if_pos hh, hdrain, event_nil]
  · have hcode : pair PortState.off.code (faultCode none) = 0x0000#16 := by decide
    refine exec_powerOff (t := (s.setPort p (s.port p).enterOff).post .portState (byte p) 0#32 0x0000#16) h hp rfl ?_
      (by rw [State.post_get_port, State.setPort_self]; rfl)
    rw [State.powerDown_fault (s := s.admitted tag 0x40#8) hst, event_nil, State.admit_get_port,
      State.postPortState_setPort, ← hcode]
    rfl
  · obtain ⟨z, hdown, hquiet, hstate, hphase, htxn, -⟩ := State.powerDown_stops (s := s.admitted tag 0x40#8) hst
    have hrests : (event ((s.admitted tag 0x40#8).powerDown p)).Rests p z := by
      rw [hdown]
      exact event_rests hquiet ⟨z.txn, by rw [State.setPort_self]⟩
    have hnone : (∀ e, (s.port p).holder ≠ some (.engine e)) → (∀ w ∈ (s.port p).waiters, w.who = .host) →
        ((event ((s.admitted tag 0x40#8).powerDown p)).port p).txn = none := by
      intro hh hw
      have hports := event_hostOnly (s := (s.admitted tag 0x40#8).setPort p z) (acts := (s.port p).downActs)
        (Port.downActs_hostOnly hh hw)
      have hsame := congrArg (fun v : Vector Port 8 => v[p].txn) hports
      rw [hdown]
      exact hsame.trans ((congrArg Port.txn (State.setPort_self (s.admitted tag 0x40#8) p z)).trans htxn)
    have hexec : exec (.portPowerOff tag port) s = .next ((event ((s.admitted tag 0x40#8).powerDown p)).replyPower tag p) := by
      refine congrArg Host.Outcome.next ((h.receive_eq rfl).trans ?_)
      rw [ownPortPower_off, State.withPort_of_eq hp]
    generalize event ((s.admitted tag 0x40#8).powerDown p) = t at hrests hnone hexec
    obtain ⟨x, hx⟩ := id hrests
    have hclock : (t.replyPower tag p).clockRate p = none :=
      State.Rests.clockRate_none (s := t.replyPower tag p) hrests (.inl hstate)
    have hlast : (t.replyPower tag p).link.replies.getLast? = some ⟨tag, 0xC0#8, [0x00#8, 0x07#8], false⟩ := by
      unfold State.replyPower
      rw [hx, hstate]
      exact List.getLast?_concat
    have hport : (t.replyPower tag p).port p = { z with txn := x } := hx
    have htxn' : (∀ e, (s.port p).holder ≠ some (.engine e)) → (∀ w ∈ (s.port p).waiters, w.who = .host) →
        ((t.replyPower tag p).port p).txn = none := hnone
    refine ⟨_, hexec, ?_, ?_, ?_, ?_, ?_, htxn', hclock, hlast⟩ <;> rw [hport]
    · exact hstate
    · exact hphase
    · exact hquiet.noHolder
    · exact hquiet.noWaiters
    · exact hquiet.noAccess
  · have hstops : (s.port p).state = .retraining ∨ ((s.port p).state = .up ∧ (s.port p).txn = none)
        ∨ ((s.port p).state = .up ∧ (s.port p).holder = none) := by tauto
    obtain ⟨z, hdown, -, -, -, -, hz⟩ := State.powerDown_stops (s := s.admitted tag 0x40#8) hstops
    obtain ⟨⟨-, -, -, hfresh, -⟩, -⟩ := id h
    have hstopped : (s.port p).stopped = { s.port p with
        state := .stopping, phase := some 1000, attempts := 0, txn := none, quiet := none, access := none
        waiters := [] } := by
      unfold Port.stopped
      rw [← hh]
    rw [hz (.inl hh), State.admit_get_port, hstopped, Port.downActs_waiting_host hh hw ha] at hdown
    refine congrArg Host.Outcome.next ((h.receive_eq rfl).trans ?_)
    rw [ownPortPower_off, State.withPort_of_eq hp, hdown, event_eq (does_hostDown _ _)]
    unfold State.replyPower
    rw [State.placeReply_get_port, State.setPort_self]
    exact State.admit_replies (s := s.setPort p _) hfresh
  · intro stopped
    have hevent : ∀ {t : State} {n : Nat}, (s.port p).state = .retraining ∨ ((s.port p).state = .up ∧ (s.port p).txn = none)
          ∨ ((s.port p).state = .up ∧ (s.port p).holder = none) →
        Does (s.port p).downActs (stopped.admitted tag 0x40#8) (t.admitted tag 0x40#8) [] n 0 → t.port p = stopped.port p →
        t.link = s.link → n ≤ 1048576 →
        exec (.portPowerOff tag port) s = .next (t.answered tag 0x40#8 [0x00#8, 0x07#8]) := by
      intro t n hst hdoes hport hlink hn
      obtain ⟨z, hdown, -, -, -, -, hz⟩ := State.powerDown_stops (s := s.admitted tag 0x40#8) hst
      rw [hz (.inr hc)] at hdown
      refine exec_powerOff h hp hlink ?_ (by rw [hport, State.setPort_self]; rfl)
      rw [hdown]
      exact event_eq hdoes hn
    have hholder : ((stopped.admitted tag 0x40#8).port p).holder ≠ some (.engine e) := by
      rw [State.admit_get_port, State.setPort_self]
      nofun
    refine ⟨fun st d rank htol hcase => ?_, fun x hst hh htxn hw hx hr => ?_⟩
    · have htol' : stopped.Tolerates e p r st d := tolerates_setPort _ htol
      have hdown := does_portDown (s := stopped.admitted tag 0x40#8) htol' hholder
      obtain ⟨hst, hh, hw⟩ | ⟨hst, hh, htxn, hw, hx⟩ := hcase
      · refine hevent (t := stopped.pastPortDown e r d) (n := 7) (by tauto) ?_ rfl rfl (by decide)
        rw [Port.downActs_waiting_engine hh hw]
        exact hdown
      · refine hevent (t := stopped.pastPortDown e r d) (n := 7) (.inr (.inl ⟨hst, htxn⟩)) ?_ rfl rfl (by decide)
        rw [Port.downActs_of_holder hh hw]
        exact does_withdrawn (s := stopped.admitted tag 0x40#8) htol' hholder (.inr hx)
    · have hdoes := does_withdrawn_stalled (s := stopped.admitted tag 0x40#8) (e := e) hx hr
      rw [← Port.downActs_of_holder hh hw] at hdoes
      refine (hevent (t := stopped.setRun e (r.lost x)) (.inr (.inl ⟨hst, htxn⟩)) hdoes rfl rfl (by decide)).trans ?_
      cases x <;> rfl

end Sys2Proof.Machine
end

section
/-! PROOFS. Firings (R37 to R39, R53, R56 to R58, R113): what the arrivals at the bound plans leave with no engine IDLE,
and DONE at the end of a run (R42, R60, R85, R88). -/

namespace Sys2Proof.Machine

-- One proof after the other, as in the tests: many at once would each hold a thread.
set_option Elab.async false

/-! ## One arrival with no engine IDLE (R37 to R39) -/

/-- What an arrival that finds no engine IDLE makes of its plan (R38, R39). -/
def Plan.arrived (pl : Plan) : Plan :=
  match pl.arrival with
  | .ignored => pl
  | .queued => { pl with runStatus := .queued, missCount := 0 }
  | .held => { pl with held := true }
  | .missed => { pl with missCount := min (pl.missCount + 1) 65535 }

/-- What it leaves in the state (R37 to R39). -/
def State.arrived (s : State) (source : Source) (time : Time) (p : Fin 32) : State :=
  match (s.plan p).arrival with
  | .ignored => s
  | .queued => s.requested p source time
  | .held => s.setPlan p { s.plan p with held := true }
  | .missed => s.miss p source

section
variable {s : State} {p : Fin 32} {source : Source} {time : Time}

theorem State.arrive_arrived (hbusy : s.AllBusy) : s.arrive p source time = .just (s.arrived source time p) := by
  unfold State.arrived
  cases h : (s.plan p).arrival with
  | ignored => exact State.arrive_ignored h
  | queued => exact State.arrive_busy h hbusy
  | held => exact State.arrive_held h
  | missed => exact State.arrive_missed h

theorem State.miss_get {β : Type} {f : State → β} (hpost : ∀ (s : State) k j a b, f (s.post k j a b) = f s) :
    f (s.miss p source) = f (s.setPlan p { s.plan p with missCount := min ((s.plan p).missCount + 1) 65535 }) := by
  unfold State.miss
  dsimp only
  split
  · exact hpost _ _ _ _ _
  · rfl

/-- An arrival touches its own plan, the Run Queue and the notices. -/
theorem State.arrived_plan (k : Fin 32) :
    (s.arrived source time p).plan k = if k = p then (s.plan p).arrived else s.plan k := by
  unfold State.arrived Plan.arrived
  cases h : (s.plan p).arrival with
  | ignored =>
    by_cases hk : k = p
    · rw [if_pos hk, hk]
    · rw [if_neg hk]
  | queued => exact State.setPlan_get { s with runQueue := _ } p k _
  | held => exact State.setPlan_get s p k _
  | missed => exact (State.miss_get (f := (·.plan k)) fun _ _ _ _ _ => rfl).trans (State.setPlan_get s p k _)

theorem State.arrived_get {β : Type} {f : State → β} (hpost : ∀ (s : State) k j a b, f (s.post k j a b) = f s)
    (hset : ∀ (s : State) queue k pl, f ({ s with runQueue := queue }.setPlan k pl) = f s) :
    f (s.arrived source time p) = f s := by
  unfold State.arrived
  cases h : (s.plan p).arrival with
  | ignored => rfl
  | queued => exact hset s _ _ _
  | held => exact hset s s.runQueue _ _
  | missed => exact (State.miss_get hpost).trans (hset s s.runQueue _ _)

theorem State.arrived_runQueue : (s.arrived source time p).runQueue =
    if (s.plan p).arrival = .queued then insertRequest (s.requestOf p source time) s.runQueue else s.runQueue := by
  unfold State.arrived
  cases h : (s.plan p).arrival with
  | queued => rw [if_pos rfl]; rfl
  | ignored => rw [if_neg nofun]
  | held => rw [if_neg nofun]; rfl
  | missed => rw [if_neg nofun]; exact State.miss_get (f := State.runQueue) fun _ _ _ _ _ => rfl

end

/-! ## A firing (R58) -/

section
variable {s : State} {source : Source} {time : Time}

/-- What the arrivals at a list of plans leave. -/
def State.reached (s : State) (source : Source) (time : Time) (l : List (Fin 32)) : State :=
  l.foldl (fun u p => u.arrived source time p) s

theorem State.reached_get {β : Type} {f : State → β} (hpost : ∀ (s : State) k j a b, f (s.post k j a b) = f s)
    (hset : ∀ (s : State) queue k pl, f ({ s with runQueue := queue }.setPlan k pl) = f s) (l : List (Fin 32)) :
    f (s.reached source time l) = f s := foldl_keeps (fun _ _ => State.arrived_get hpost hset) _ _

theorem State.AllBusy.arrived {p : Fin 32} (h : s.AllBusy) : (s.arrived source time p).AllBusy := fun e => by
  rw [State.arrived_get (f := (·.engine e)) (fun _ _ _ _ _ => rfl) fun _ _ _ _ => rfl]
  exact h e

theorem does_arrivals (hbusy : s.AllBusy) (l : List (Fin 32)) :
    Does (l.map fun p => .arrive p source time) s (s.reached source time l) [] l.length 0 := by
  induction l generalizing s with
  | nil => exact .nil s
  | cons p l ih =>
    have hone : Does [.arrive p source time] s (s.arrived source time p) [] 1 0 := .just rfl (State.arrive_arrived hbusy)
    exact hone.cons (ih (State.AllBusy.arrived hbusy))

/-- Each plan is reached once, and no other is. -/
theorem State.reached_plan {l : List (Fin 32)} (hl : l.Nodup) (k : Fin 32) :
    (s.reached source time l).plan k = if k ∈ l then (s.plan k).arrived else s.plan k := by
  induction l generalizing s with
  | nil => rfl
  | cons p l ih =>
    obtain ⟨hp, hl⟩ := List.nodup_cons.mp hl
    have hstep : (s.reached source time (p :: l)).plan k
        = if k ∈ l then ((s.arrived source time p).plan k).arrived else (s.arrived source time p).plan k := ih hl
    rw [hstep, State.arrived_plan]
    by_cases hk : k = p
    · subst hk
      rw [if_neg hp, if_pos rfl, if_pos List.mem_cons_self]
    · rw [if_neg hk]
      simp only [List.mem_cons, hk, false_or]

/-- The requests that wait go on waiting. -/
theorem State.reached_queue {l : List (Fin 32)} {q : RunRequest} (h : q ∈ s.runQueue) :
    q ∈ (s.reached source time l).runQueue := by
  induction l generalizing s with
  | nil => exact h
  | cons p l ih =>
    refine ih (s := s.arrived source time p) ?_
    rw [State.arrived_runQueue]
    split
    · exact (insertRequest_perm _ _).mem_iff.mpr (List.mem_cons_of_mem _ h)
    · exact h

/-- A plan that queues a run has its request in the queue (R38). -/
theorem State.reached_request {l : List (Fin 32)} (hl : l.Nodup) {k : Fin 32} (hk : k ∈ l)
    (harrival : (s.plan k).arrival = .queued) :
    s.requestOf k source time ∈ (s.reached source time l).runQueue := by
  induction l generalizing s with
  | nil => exact absurd hk List.not_mem_nil
  | cons p l ih =>
    obtain ⟨hp, hl⟩ := List.nodup_cons.mp hl
    by_cases hkp : k = p
    · subst hkp
      refine State.reached_queue (s := s.arrived source time k) ?_
      rw [State.arrived_runQueue, if_pos harrival]
      exact (insertRequest_perm _ _).mem_iff.mpr List.mem_cons_self
    · have hplan : (s.arrived source time p).plan k = s.plan k := by rw [State.arrived_plan, if_neg hkp]
      have hrequest : (s.arrived source time p).requestOf k source time = s.requestOf k source time := by
        unfold State.requestOf
        rw [hplan, State.arrived_get (f := State.timeBase) (fun _ _ _ _ _ => rfl) fun _ _ _ _ => rfl]
      have hrest := ih (s := s.arrived source time p) hl ((List.mem_cons.mp hk).resolve_left hkp)
        (by rw [hplan]; exact harrival)
      rw [hrequest] at hrest
      exact hrest

/-- The plans a source is bound to. -/
def State.boundTo (s : State) (source : Source) : List (Fin 32) :=
  (List.finRange 32).filter fun p => (s.plan p).attrs.binding.source == some source

theorem State.mem_boundTo {p : Fin 32} : p ∈ s.boundTo source ↔ (s.plan p).attrs.binding.source = some source := by
  unfold State.boundTo
  simp

theorem State.boundTo_nodup : (s.boundTo source).Nodup := (List.nodup_finRange 32).filter _

theorem State.boundTo_length : (s.boundTo source).length ≤ 32 :=
  (List.length_filter_le _ _).trans (List.length_finRange).le

end

/-! ## What becomes of each plan -/

theorem Plan.arrived_ignored {pl : Plan} (h : pl.state ≠ .armed) : pl.arrived = pl := by
  unfold Plan.arrived
  rw [Plan.arrival_ignored h]

theorem Plan.arrived_queued {pl : Plan} (ha : pl.state = .armed) (hs : pl.runStatus = .idle) :
    pl.arrived = { pl with runStatus := .queued, missCount := 0 } := by
  unfold Plan.arrived
  rw [Plan.arrival_queued ha hs]

theorem Plan.arrived_running {pl : Plan} (ha : pl.state = .armed) (hs : pl.runStatus ≠ .idle) :
    pl.arrived = if pl.attrs.overlap = .hold ∧ pl.held = false then { pl with held := true }
      else { pl with missCount := min (pl.missCount + 1) 65535 } := by
  unfold Plan.arrived
  by_cases h : pl.attrs.overlap = .hold ∧ pl.held = false
  · rw [if_pos h, Plan.arrival_held ha hs h.1 h.2]
  · have hmiss : pl.attrs.overlap = .miss ∨ pl.held = true := by
      cases ho : pl.attrs.overlap with
      | miss => exact .inl rfl
      | hold => exact .inr (by rw [← Bool.not_eq_false]; exact fun hh => h ⟨ho, hh⟩)
    rw [if_neg h, Plan.arrival_missed ha hs hmiss]

/-- An arrival leaves a plan's steps and attributes alone. -/
theorem Plan.arrived_attrs (pl : Plan) : pl.arrived.attrs = pl.attrs := by
  unfold Plan.arrived
  cases pl.arrival <;> rfl

theorem Plan.arrived_steps (pl : Plan) : pl.arrived.steps = pl.steps := by
  unfold Plan.arrived
  cases pl.arrival <;> rfl

section
variable {s u : State} {source : Source} {p : Fin 32}

/-- A plan bound elsewhere, or not ARMED, is not changed (R37, R58). -/
theorem State.reached_unchanged (time : Time)
    (h : (s.plan p).attrs.binding.source ≠ some source ∨ (s.plan p).state ≠ .armed) :
    (s.reached source time (s.boundTo source)).plan p = s.plan p := by
  rw [State.reached_plan State.boundTo_nodup]
  split
  · next hmem => exact Plan.arrived_ignored (h.resolve_left (not_not_intro (State.mem_boundTo.mp hmem)))
  · rfl

theorem State.reached_bound (time : Time) (h : (s.plan p).attrs.binding.source = some source) :
    (s.reached source time (s.boundTo source)).plan p = (s.plan p).arrived := by
  rw [State.reached_plan State.boundTo_nodup, if_pos (State.mem_boundTo.mpr h)]

/-- A firing with no engine IDLE (R58). -/
theorem event_fire (hbusy : u.AllBusy) (time : Time) :
    event (u, u.arrivals source time) = u.reached source time (u.boundTo source) :=
  event_eq (does_arrivals (source := source) (time := time) hbusy (u.boundTo source))
    (State.boundTo_length.trans (by decide))

end

/-- The commands that fire a source, and the state they fire it in (R53, R56, R113). -/
theorem exec_fires {s : State} {c : Instr} {source : Source} (hreset : s.inReset = false)
    (hc : (∃ n rising, c = .trgEdge n rising ∧ (s.input n).accepts rising = true ∧ source = .ext n)
      ∨ (∃ n, c = .cadenceExpiry n ∧ (s.cadence n).countdown.isSome = true ∧ source = .cadence n)
      ∨ (∃ p, c = .attentionEdge p true ∧ (s.port p).heedsAttention = true ∧ source = .attn p)) :
    ∃ u, exec c s = .next (event (u, u.arrivals source u.timeBase)) ∧ u.plans = s.plans ∧ u.engines = s.engines
      ∧ u.timeBase = s.timeBase := by
  obtain ⟨n, rising, rfl, haccepts, rfl⟩ | ⟨n, rfl, hon, rfl⟩ | ⟨p, rfl, hheeds, rfl⟩ := hc
  · refine ⟨s.setInput n { s.input n with timer := if (s.input n).holdoff = 0 then none else some (s.input n).holdoff },
      congrArg Host.Outcome.next ((awake_eq hreset).trans ?_), rfl, rfl, rfl⟩
    unfold trgEdge
    dsimp only
    rw [if_pos haccepts]
    rfl
  · refine ⟨s.setCadence n { s.cadence n with countdown := some (s.cadence n).period },
      congrArg Host.Outcome.next ((awake_eq hreset).trans ?_), rfl, rfl, rfl⟩
    unfold cadenceExpiry State.cadenceEnd
    dsimp only
    rw [if_pos hon]
    rfl
  · refine ⟨if (s.port p).active.attention then s.post .probeAttention (byte p) 0#32 0#16 else s,
      congrArg Host.Outcome.next ((awake_eq hreset).trans ?_), by split <;> rfl, by split <;> rfl, by split <;> rfl⟩
    unfold attentionEdge
    rw [if_pos (by rw [hheeds]; rfl)]

/-! ## DONE at the end of a run (R42, R57, R60, R85) -/

section
variable {s : State} {e : Fin 4} {source : Source} {time : Time}

theorem insertRequest_behind {x q : RunRequest} {l : List RunRequest} (hp : q.priority ≤ x.priority)
    (ht : x.queueTime ≤ q.queueTime) : insertRequest q (x :: l) = x :: insertRequest q l := by
  have hahead : x.ahead q = true := by
    unfold RunRequest.ahead
    by_cases hlt : q.priority < x.priority
    · simp [hlt]
    · have heq : x.priority = q.priority := le_antisymm (not_lt.mp hlt) hp
      simp [heq, ht]
  exact if_pos hahead

/-- Requests of no higher priority join behind the head (R59). -/
theorem State.reached_head {x : RunRequest} {l : List (Fin 32)} {rest : List RunRequest}
    (hp : ∀ p ∈ l, (s.plan p).attrs.priority ≤ x.priority) (ht : x.queueTime ≤ s.timeBase)
    (hq : s.runQueue = x :: rest) : ∃ rest', (s.reached source time l).runQueue = x :: rest' := by
  induction l generalizing s rest with
  | nil => exact ⟨rest, hq⟩
  | cons p l ih =>
    have hattrs : ∀ k, ((s.arrived source time p).plan k).attrs = (s.plan k).attrs := fun k => by
      rw [State.arrived_plan]
      split
      · next hk => rw [Plan.arrived_attrs, hk]
      · rfl
    have htime : (s.arrived source time p).timeBase = s.timeBase :=
      State.arrived_get (fun _ _ _ _ _ => rfl) fun _ _ _ _ => rfl
    have hqueue : ∃ rest', (s.arrived source time p).runQueue = x :: rest' := by
      rw [State.arrived_runQueue, hq]
      split
      · exact ⟨_, insertRequest_behind (hp p List.mem_cons_self) ht⟩
      · exact ⟨rest, rfl⟩
    obtain ⟨rest', hrest⟩ := hqueue
    exact ih (s := s.arrived source time p) (fun k hk => by rw [hattrs]; exact hp k (List.mem_cons_of_mem p hk))
      (by rw [htime]; exact ht) hrest

/-- The report of a run without a held trigger fires DONE (R42, R57). -/
theorem endReport_done {x : EngineState} {r : Run} (hheld : (s.plan r.plan).held = false) :
    (s.atRun e x r).endReport e .done = ⟨(s.reported r.plan).atRun e x r,
      ((s.reported r.plan).atRun e x r).arrivals (.done r.plan) s.timeBase, [], [.idle e]⟩ := by
  have hnot : ¬ ((s.plan r.plan).state = .armed ∧ (s.plan r.plan).held) := fun h => by
    rw [hheld] at h
    exact Bool.false_ne_true h.2
  unfold State.endReport
  rw [State.atRun_run]
  dsimp only
  rw [show (s.atRun e x r).plan r.plan = s.plan r.plan from rfl, if_neg hnot]
  rfl

theorem State.nowIdle_get {β : Type} {f : State → β} (hreply : ∀ (s : State) tag k b, f (s.placeReply tag k b) = f s) :
    f (s.nowIdle e) = f (s.setEngine e ⟨.idle, none, []⟩) :=
  foldl_keeps (g := fun st t => st.replyOk t 0x38#8 []) (fun _ _ => hreply _ _ _ _) _ _

/-- A hand-out that leaves no engine IDLE (R60). -/
theorem State.handOut_taken {t : State} {acts : List Act} (h : s.takeHead = (t, acts)) (ht : t.idleEngine = none) :
    s.handOut = (t, acts) := by
  have hstay : t.takeHead = (t, []) := State.takeHead_none (.inr ht)
  unfold State.handOut
  rw [show List.finRange 4 = [0, 1, 2, 3] from rfl]
  simp only [List.foldl_cons, List.foldl_nil, h, hstay, List.append_nil, List.nil_append]

theorem State.handed_get_plan {q : RunRequest} {rest : List RunRequest} {p : Fin 32} (hp : p ≠ q.plan) :
    (s.handed q rest).plan p = s.plan p := State.setPlan_other { s with runQueue := rest } q.plan p _ hp

/-- The close of an event whose engine becomes IDLE and takes the head of the queue, its step 0 a WAIT: the other plans
and the rest of the queue are left as they are (R60, R67, R88). -/
theorem settle_idle_take {q : RunRequest} {rest : List RunRequest} {d n : Nat} (hqueue : s.runQueue = q :: rest)
    (hclear : s.clear = none) (hbusy : ∀ f : Fin 4, f ≠ e → (s.engine f).state ≠ .idle)
    (hwait : (s.plan q.plan).steps[0]? = some (.wait d)) :
    ∃ u, settle Config.settleFuel ⟨s, [.idle e], n + 1⟩ = u ∧ (∀ p, p ≠ q.plan → u.plan p = s.plan p)
      ∧ u.runQueue = rest := by
  have hengine : ∀ f, (s.nowIdle e).engine f = (s.setEngine e ⟨.idle, none, []⟩).engine f := fun f =>
    State.nowIdle_get (f := (·.engine f)) fun _ _ _ _ => rfl
  have hplan : ∀ p, (s.nowIdle e).plan p = s.plan p := fun p =>
    State.nowIdle_get (f := (·.plan p)) fun _ _ _ _ => rfl
  have hqueue' : (s.nowIdle e).runQueue = q :: rest := by rw [State.nowIdle_runQueue, hqueue]
  have hclear' : (s.nowIdle e).clear = none := by rw [State.nowIdle_clear, hclear]
  have hself : ((s.nowIdle e).engine e).state = .idle := by rw [hengine, State.setEngine_self]
  have hother : ∀ f : Fin 4, f ≠ e → ((s.nowIdle e).engine f).state ≠ .idle := fun f hf => by
    rw [hengine, State.setEngine_other _ _ _ _ hf]
    exact hbusy f hf
  have hact := act_idle s e
  generalize s.nowIdle e = v at hplan hqueue' hclear' hself hother hact
  have hidle : v.idleEngine = some e := State.idleEngine_eq_some hself fun f hf => hother f (Fin.ne_of_lt hf)
  have hbusy' : ((v.handed q rest).atRun e (.starting v.timeBase) (q.run ((v.plan q.plan).runNumber + 1))).AllBusy :=
    fun f => by
      by_cases hf : f = e
      · rw [hf, State.atRun_state]
        nofun
      · rw [show ((v.handed q rest).atRun e (.starting v.timeBase) (q.run ((v.plan q.plan).runNumber + 1))).engine f
            = v.engine f from State.setEngine_other (v.handed q rest) _ _ _ hf]
        exact hother f hf
  have htake := State.handOut_taken (State.takeHead_of hqueue' hidle) (idleEngine_none_iff.mpr hbusy')
  generalize hr : q.run ((v.plan q.plan).runNumber + 1) = r at htake
  have hrplan : r.plan = q.plan := hr ▸ rfl
  have hstep : ((v.handed q rest).plan r.plan).steps[r.stepIndex]? = some (.wait d) := by
    rw [hrplan, State.handed_plan, show r.stepIndex = 0 from hr ▸ rfl]
    dsimp only
    rw [hplan]
    exact hwait
  have hgets : (∀ p, p ≠ q.plan → ((v.handed q rest).beginning e r v.timeBase).1.plan p = s.plan p)
      ∧ ((v.handed q rest).beginning e r v.timeBase).1.runQueue = rest
      ∧ ((v.handed q rest).beginning e r v.timeBase).1.clear = none :=
    ⟨fun p hp => (State.beginning_plan _ p).trans ((State.handed_get_plan hp).trans (hplan p)),
      State.beginning_get (f := State.runQueue) (fun _ _ => rfl) _,
      (State.beginning_get (f := State.clear) (fun _ _ => rfl) _).trans hclear'⟩
  have hbegins : ∃ c x, Does [.commitBegin e] ((v.handed q rest).atRun e (.starting v.timeBase) r)
      (((v.handed q rest).beginning e r v.timeBase).1.atRun e x r) [] c 1 ∧ c ≤ 3 := by
    by_cases hend : ((v.handed q rest).beginning e r v.timeBase).2 = .stalled
    · exact ⟨1, _, does_begin_stalls hend, by decide⟩
    · exact ⟨3, _, does_begin_wait hstep hend, le_rfl⟩
  obtain ⟨c, x, hdoes, hc⟩ := hbegins
  generalize ((v.handed q rest).beginning e r v.timeBase).1 = w at hgets hdoes
  obtain ⟨hplans, hrest, hnone⟩ := hgets
  have hfuel : Config.settleFuel = (Config.settleFuel - 3) + 1 + 1 + 1 := rfl
  have htaken : act .take v = ⟨(v.handed q rest).atRun e (.starting v.timeBase) r, [], [.commitBegin e], []⟩ :=
    congrArg Eff.thenLater htake
  refine ⟨w.atRun e x r, ?_, hplans, hrest⟩
  rw [hfuel, settle_one hact, List.nil_append, settle_of_does htaken hdoes (hc.trans (by decide)),
    show ([.clearCheck] ++ [] ++ [] : List Act) = [.clearCheck] from rfl,
    settle_one (act_clearCheck_none (s := w.atRun e x r) hnone)]
  exact settle_nil _ _ _

end

theorem TrigInput.accepts_eq_true (x : TrigInput) (rising : Bool) : x.accepts rising = true ↔
    x.enabled = true ∧ x.timer = none ∧ x.edge = if rising then .rising else .falling := by
  unfold TrigInput.accepts
  simp only [Bool.and_eq_true, Option.isNone_iff_eq_none, beq_iff_eq, and_assoc]

theorem Port.heedsAttention_iff (q : Port) :
    q.heedsAttention = true ↔ q.state = .up ∧ ∃ d, q.identity = some d ∧ d.atn = true := by
  unfold Port.heedsAttention
  simp only [Bool.and_eq_true, beq_iff_eq, Option.any_eq_true]

/-- A run that has reported, its engine still to become IDLE (R42, R88). -/
def State.afterReport (s : State) (e : Fin 4) (r : Run) : State := (s.reported r.plan).atRun e .ending r

section
variable {s : State} {e : Fin 4} {r : Run}

theorem State.afterReport_plan {p : Fin 32} (hp : p ≠ r.plan) : (s.afterReport e r).plan p = s.plan p :=
  State.setPlan_other s r.plan p _ hp

theorem State.afterReport_attrs (p : Fin 32) : ((s.afterReport e r).plan p).attrs = (s.plan p).attrs := by
  by_cases hp : p = r.plan
  · rw [hp]
    change ((s.reported r.plan).plan r.plan).attrs = _
    rw [State.reported_plan]
  · rw [State.afterReport_plan hp]

theorem State.afterReport_engine {f : Fin 4} (hf : f ≠ e) : (s.afterReport e r).engine f = s.engine f :=
  State.setEngine_other (s.reported r.plan) e f _ hf

theorem State.afterReport_self : ((s.afterReport e r).engine e).state = .ending := State.atRun_state

theorem State.afterReport_runQueue : (s.afterReport e r).runQueue = s.runQueue := rfl

theorem State.afterReport_clear : (s.afterReport e r).clear = s.clear := rfl

theorem State.afterReport_timeBase : (s.afterReport e r).timeBase = s.timeBase := rfl

end

/-- A run's normal end with the firing of its DONE, while its engine goes on to the head of the queue: what is left of
the plans and the queue, but for the two plans whose runs change hands (R42, R57, R60, R85, R88). -/
theorem exec_waitExpiry_done {s : State} {e : Fin 4} {run : Run} {n d : Nat} {x : RunRequest}
    (hreset : s.inReset = false) (hx : (s.engine e).state = .waiting n) (hrun : (s.engine e).run = some run)
    (hlast : (s.plan run.plan).steps.length = run.stepIndex + 1) (hplaced : (s.ending e run.pastLast none).2 ≠ .stalled)
    (hheld : (s.plan run.plan).held = false) (hbusy : ∀ f : Fin 4, f ≠ e → (s.engine f).state ≠ .idle)
    (hclear : s.clear = none) (hqueue : s.runQueue = [x]) (hne : x.plan ≠ run.plan) (htime : x.queueTime ≤ s.timeBase)
    (hwait : (s.plan x.plan).steps[0]? = some (.wait d))
    (hpriority : ∀ p : Fin 32, (s.plan p).attrs.binding.source = some (.done run.plan) →
      (s.plan p).attrs.priority ≤ x.priority) :
    ∃ u t : State, exec (.waitExpiry e) s = .next t ∧ (∀ p, p ≠ run.plan → u.plan p = s.plan p) ∧ u.timeBase = s.timeBase
      ∧ (∀ p, p ≠ x.plan → t.plan p = (u.reached (.done run.plan) s.timeBase (u.boundTo (.done run.plan))).plan p)
      ∧ ∃ rest, (u.reached (.done run.plan) s.timeBase (u.boundTo (.done run.plan))).runQueue = x :: rest
          ∧ t.runQueue = rest := by
  have hreport : ((s.ended e run).atRun e .ending run.pastLast).endReport e .done
      = ⟨(s.ended e run).afterReport e run.pastLast, ((s.ended e run).afterReport e run.pastLast).arrivals
          (.done run.plan) s.timeBase, [], [.idle e]⟩ := by
    rw [endReport_done (by rw [State.ended_plan]; exact hheld), State.ended_timeBase]
    rfl
  have hplan : ∀ p, p ≠ run.plan → ((s.ended e run).afterReport e run.pastLast).plan p = s.plan p := fun p hp =>
    (State.afterReport_plan (r := run.pastLast) hp).trans (State.ended_plan p)
  have hattrs : ∀ p, (((s.ended e run).afterReport e run.pastLast).plan p).attrs = (s.plan p).attrs := fun p => by
    rw [State.afterReport_attrs, State.ended_plan]
  have hengine : ∀ f, f ≠ e → ((s.ended e run).afterReport e run.pastLast).engine f = s.engine f := fun f hf =>
    (State.afterReport_engine hf).trans (State.ended_engine f)
  have hself : (((s.ended e run).afterReport e run.pastLast).engine e).state = .ending := State.afterReport_self
  have hqueue' : ((s.ended e run).afterReport e run.pastLast).runQueue = [x] := by
    rw [State.afterReport_runQueue, State.ended_runQueue, hqueue]
  have hclear' : ((s.ended e run).afterReport e run.pastLast).clear = none := by
    rw [State.afterReport_clear, State.ended_clear, hclear]
  have htime' : ((s.ended e run).afterReport e run.pastLast).timeBase = s.timeBase := by
    rw [State.afterReport_timeBase, State.ended_timeBase]
  generalize (s.ended e run).afterReport e run.pastLast = u at *
  have hbusy' : u.AllBusy := fun f => by
    by_cases hf : f = e
    · rw [hf, hself]
      nofun
    · rw [hengine f hf]
      exact hbusy f hf
  have harrivals := does_arrivals (source := .done run.plan) (time := s.timeBase) hbusy' (u.boundTo (.done run.plan))
  have hdoes := does_next_last (x := .waiting n) hlast (does_finish rfl hplaced hreport harrivals)
  rw [State.atRun_eq_self hx hrun] at hdoes
  obtain ⟨rest, hrest⟩ := State.reached_head (source := .done run.plan) (time := s.timeBase) (x := x)
    (l := u.boundTo (.done run.plan)) (fun p hp => by
      have hbound := State.mem_boundTo.mp hp
      rw [hattrs] at hbound ⊢
      exact hpriority p hbound) (by rw [htime']; exact htime) hqueue'
  have hwait' : ((u.reached (.done run.plan) s.timeBase (u.boundTo (.done run.plan))).plan x.plan).steps[0]?
      = some (.wait d) := by
    rw [State.reached_plan State.boundTo_nodup]
    split
    · rw [Plan.arrived_steps, hplan _ hne]
      exact hwait
    · rw [hplan _ hne]
      exact hwait
  have hlen : (u.boundTo (.done run.plan)).length + 1 + 1 + 1 + 1 ≤ 1048576 := by
    have := State.boundTo_length (s := u) (source := .done run.plan)
    omega
  obtain ⟨t, hsettle, hplans, hleft⟩ := settle_idle_take (e := e) (n := 63) hrest
    ((State.reached_get (f := State.clear) (fun _ _ _ _ _ => rfl) (fun _ _ _ _ => rfl) _).trans hclear')
    (fun f hf => by
      rw [State.reached_get (f := (·.engine f)) (fun _ _ _ _ _ => rfl) (fun _ _ _ _ => rfl), hengine f hf]
      exact hbusy f hf) hwait'
  refine ⟨u, t, ?_, hplan, htime', hplans, rest, hrest, hleft⟩
  refine (exec_waitExpiry hreset hx).trans (congrArg Host.Outcome.next ((event_of_does hdoes hlen (by decide)).trans ?_))
  exact hsettle

/-- Settles O35. -/
theorem firingReachesEveryBoundPlan : Obligations.FiringReachesEveryBoundPlan := by
  refine ⟨fun s c source hreset hbusy hc => ?_,
    fun s e run st n d x hreset hx hrun hlast hplaced hheld hbusy hclear hqueue hne hqueued htime hwait hpriority => ?_,
    fun b => ?_, TrigInput.accepts_eq_true, Port.heedsAttention_iff⟩
  · obtain ⟨u, hexec, hplans, hengines, htime⟩ := exec_fires hreset hc
    have hplan : ∀ p, u.plan p = s.plan p := fun p => congrArg (fun v : Vector Plan 32 => v[p]) hplans
    have hbusy' : u.AllBusy := fun e =>
      (congrArg (fun v : Vector Engine 4 => v[e].state) hengines : (u.engine e).state = (s.engine e).state) ▸ hbusy e
    rw [event_fire hbusy'] at hexec
    refine ⟨_, hexec, fun p => ?_⟩
    rw [← htime, ← hplan p]
    refine ⟨fun h => State.reached_unchanged _ (.inl h), fun h => State.reached_unchanged _ (.inr h),
      fun hbound harmed hstatus => ?_, fun hbound harmed hidle => ⟨?_, ?_⟩⟩
    · rw [State.reached_bound _ hbound, Plan.arrived_running harmed hstatus]
    · rw [State.reached_bound _ hbound, Plan.arrived_queued harmed hidle]
    · exact State.reached_request State.boundTo_nodup (State.mem_boundTo.mpr hbound) (Plan.arrival_queued harmed hidle)
  · obtain ⟨u, t, hexec, hplan, htime', hplans, rest, hrest, hleft⟩ :=
      exec_waitExpiry_done hreset hx hrun.1 hlast hplaced hheld hbusy hclear hqueue hne htime hwait hpriority
    refine ⟨t, hexec, fun p hp hpx => ?_⟩
    rw [hplans p hpx, ← htime', ← hplan p hp]
    refine ⟨fun h => State.reached_unchanged _ (.inl h), fun h => State.reached_unchanged _ (.inr h),
      fun hbound harmed hidle => ⟨?_, ?_⟩⟩
    · rw [State.reached_bound _ hbound, Plan.arrived_queued harmed hidle]
    · have hmem := State.reached_request (source := .done run.plan) (time := u.timeBase) State.boundTo_nodup
        (State.mem_boundTo.mpr hbound) (Plan.arrival_queued harmed hidle)
      rw [← htime'] at hrest
      rw [hrest] at hmem
      rw [hleft]
      exact (List.mem_cons.mp hmem).resolve_left fun h => hpx (congrArg RunRequest.plan h)
  · cases b <;> rfl

end Sys2Proof.Machine
end

section
/-! PROOFS. CLEAR-ACQUISITION and the acquisition clear (R24, R43, R45, R63, R90, R93, R163). -/

namespace Sys2Proof.Machine

-- One proof after the other, as in the tests: many at once would each hold a thread.
set_option Elab.async false

section
variable {s : State} {c : Clear} {e : Fin 4} {r : Run} {tag : Byte}

/-! ## The acquisition clear (R24) -/

/-- The rings emptied, and the clear's reply due (R24). -/
def State.emptied (s : State) (c : Clear) : State :=
  { s with rings := s.rings.map fun o => o.map Ring.cleared, clear := some { c with placed := true } }

theorem State.allIdle_iff : s.allIdle = true ↔ ∀ e : Fin 4, (s.engine e).state = .idle := by
  unfold State.allIdle
  simp only [List.all_eq_true, List.mem_finRange, true_imp_iff, beq_iff_eq]

theorem State.clearRings_due (hclear : s.clear = some c) (hplaced : c.placed = false)
    (hidle : ∀ e : Fin 4, (s.engine e).state = .idle) :
    s.clearRings = (s.abortStreams.emptied c).replyOk c.tag 0x39#8 [byte c.removed, byte c.aborted] := by
  have hgo : ¬ (c.placed || !s.allIdle) = true := by
    rw [hplaced, State.allIdle_iff.mpr hidle]
    exact Bool.false_ne_true
  unfold State.clearRings
  rw [hclear]
  exact if_neg hgo

theorem State.clearRings_busy (hbusy : (s.engine e).state ≠ .idle) : s.clearRings = s := by
  have hall : s.allIdle = false := Bool.eq_false_iff.mpr fun h => hbusy (State.allIdle_iff.mp h e)
  unfold State.clearRings
  cases s.clear with
  | none => rfl
  | some c => exact if_pos (by rw [hall]; exact Bool.or_true _)

theorem State.abortStreams_nil (h : s.streams = []) : s.abortStreams = s := by
  unfold State.abortStreams
  rw [h]
  rfl

/-- A segment handed back is emptied like any other. -/
theorem Ring.cleared_unclaimed (r : Ring) (i : Nat) : (r.unclaimed i).cleared = r.cleared := by
  have hsegments : (r.segments.set i { r.seg i with state := (r.seg i).state.beforeRead }).map (fun _ => Segment.empty)
      = r.segments.map fun _ => Segment.empty := by
    rw [List.map_const', List.map_const', List.length_set]
  exact congrArg (fun l => ({ r.cleared with segments := l } : Ring)) hsegments

theorem State.emptied_unclaim (k : Fin 4) (i : Nat) : (s.unclaim k i).emptied c = s.emptied c := by
  cases hr : s.ring k with
  | none =>
    unfold State.unclaim
    rw [hr]
  | some r =>
    have hrings : (s.rings.set k (some (r.unclaimed i))).map (fun o => o.map Ring.cleared)
        = s.rings.map fun o => o.map Ring.cleared := by
      have hself : (s.rings.map fun o => o.map Ring.cleared)[k] = some r.cleared :=
        (Vector.getElem_map (xs := s.rings) (i := k) (fun o => o.map Ring.cleared) k.isLt).trans
          (congrArg (fun o => o.map Ring.cleared) hr)
      rw [Vector.map_set, Option.map_some, Ring.cleared_unclaimed, ← hself]
      exact Vector.set_getElem_self k.isLt
    rw [State.unclaim_of_some hr]
    exact congrArg (fun v => ({ s.emptied c with rings := v } : State)) hrings

/-- The one open stream aborted, and all emptied (R24, R163). -/
theorem State.emptied_abortStreams {st : Stream} (h : s.streams = [st]) :
    s.abortStreams.emptied c = ({ s.emptied c with
      streams := []
      link := { s.link with lastServed := if s.link.lastServed = some st.tag then none else s.link.lastServed }
      }).placeReply st.tag 0x50#8 ([0x1A#8, 0x00#8] ++ bytesBE 4 st.seqNo.toNat ++ bytesBE 2 st.nextChunk) := by
  have hdrop : s.streams.filter (fun x => x.tag != st.tag) = [] := by
    rw [h, List.filter_cons_of_neg (by simp)]
    rfl
  have hcomm : (s.abortStream st).emptied c = (((s.unclaim st.ring st.segment).emptied c).dropStream st.tag).placeReply
      st.tag 0x50#8 ([Status.aborted.code, 0x00#8] ++ bytesBE 4 st.seqNo.toNat ++ bytesBE 2 st.nextChunk) := rfl
  unfold State.abortStreams
  rw [h, List.foldl_cons, List.foldl_nil, hcomm, State.emptied_unclaim]
  unfold State.dropStream
  rw [show (s.emptied c).streams = s.streams from rfl, hdrop]
  rfl

/-! ## CLEAR-ACQUISITION (R93) -/

/-- The state in which CLEAR-ACQUISITION aborts the runs: plans disarmed, the Run Queue emptied (R45, R63). -/
def State.unqueued (s : State) (tag : Byte) : State :=
  { s.runQueue.foldl (fun st q => st.removeQueued q.plan .clear) s.disarmAll with
    clear := some ⟨tag, s.runQueue.length, s.runsOnEngines, false⟩ }

theorem ownClearAcquisition_eq (h : s.clear = none) : ownClearAcquisition tag s
    = event ((s.unqueued tag).abortAll.1, (s.unqueued tag).abortAll.2 ++ [.clearCheck]) := by
  unfold ownClearAcquisition
  rw [h]
  rfl

/-- With no request queued, the plans are disarmed and the runs counted (R45, R93). -/
def State.clearing (s : State) (tag : Byte) (aborted : Nat) : State :=
  { s.disarmAll with clear := some ⟨tag, 0, aborted, false⟩ }

theorem State.unqueued_empty (h : s.runQueue = []) : s.unqueued tag = s.clearing tag s.runsOnEngines := by
  unfold State.unqueued
  rw [h]
  rfl

theorem exec_clearAcquisition {t : State} (h : s.Accepts tag)
    (ho : ownClearAcquisition tag (s.admitted tag 0x39#8) = t) : exec (.clearAcquisition tag) s = .next t :=
  congrArg Host.Outcome.next ((h.receive_eq rfl).trans ho)

/-- One engine's part in the abort of all. -/
def abortNext (x : State × List Act) (e : Fin 4) : State × List Act :=
  ((x.1.abortEngine e .clear).1, x.2 ++ (x.1.abortEngine e .clear).2)

theorem State.abortAll_eq : s.abortAll = (List.finRange 4).foldl abortNext (s, []) := rfl

theorem abortNext_none {acts : List Act} (h : (s.engine e).run = none) : abortNext (s, acts) e = (s, acts) := by
  have hnone : s.abortEngine e .clear = (s, []) := by
    unfold State.abortEngine
    rw [h]
  unfold abortNext
  rw [hnone, List.append_nil]

theorem abortNext_foldl_none {acts : List Act} {l : List (Fin 4)} (h : ∀ f ∈ l, (s.engine f).run = none) :
    l.foldl abortNext (s, acts) = (s, acts) := by
  induction l with
  | nil => rfl
  | cons f l ih =>
    rw [List.foldl_cons, abortNext_none (h f (List.mem_cons_self ..))]
    exact ih fun g hg => h g (List.mem_cons_of_mem _ hg)

theorem State.abortAll_none (h : ∀ f : Fin 4, (s.engine f).run = none) : s.abortAll = (s, []) :=
  abortNext_foldl_none fun f _ => h f

/-- Only one engine has a run. -/
theorem State.abortAll_one {t : State} {acts : List Act} (h : ∀ f : Fin 4, f ≠ e → (s.engine f).run = none)
    (ht : s.abortEngine e .clear = (t, acts)) (hkeep : ∀ f : Fin 4, f ≠ e → t.engine f = s.engine f) :
    s.abortAll = (t, acts) := by
  obtain ⟨before, after, hsplit⟩ := List.append_of_mem (List.mem_finRange e)
  have hnodup := List.nodup_finRange 4
  rw [hsplit] at hnodup
  obtain ⟨-, hafter, hdisjoint⟩ := List.nodup_append.mp hnodup
  have hone : abortNext (s, []) e = (t, acts) := by
    unfold abortNext
    rw [ht, List.nil_append]
  rw [State.abortAll_eq, hsplit, List.foldl_append,
    abortNext_foldl_none fun f hf => h f (hdisjoint f hf e (List.mem_cons_self ..)), List.foldl_cons, hone]
  refine abortNext_foldl_none fun f hf => ?_
  have hne : f ≠ e := fun hfe => (List.nodup_cons.mp hafter).1 (hfe ▸ hf)
  rw [hkeep f hne, h f hne]

theorem State.runsOnEngines_none (h : ∀ f : Fin 4, (s.engine f).run = none) : s.runsOnEngines = 0 := by
  unfold State.runsOnEngines
  simp only [h]
  rfl

theorem State.runsOnEngines_one (h : ∀ f : Fin 4, f ≠ e → (s.engine f).run = none) (hr : (s.engine e).run = some r) :
    s.runsOnEngines = 1 := by
  have hone : ∀ e : Fin 4, ((List.finRange 4).filter fun f => f == e).length = 1 := by decide
  have hpred : (fun f => (s.engine f).run.isSome) = fun f : Fin 4 => f == e := by
    funext f
    by_cases hf : f = e
    · rw [hf, hr, beq_self_eq_true]
      rfl
    · rw [h f hf, beq_eq_false_iff_ne.mpr hf]
      rfl
  unfold State.runsOnEngines
  rw [hpred, hone]

theorem event_clearCheck : event (s, [.clearCheck]) = s.clearRings := event_eq (.just rfl rfl)

/-- With no run anywhere the rings are emptied at once (R24, R93). -/
theorem ownClearAcquisition_idle (hclear : s.clear = none) (hqueue : s.runQueue = [])
    (hidle : ∀ f : Fin 4, (s.engine f).state = .idle ∧ (s.engine f).run = none) :
    ownClearAcquisition tag s
      = ((s.clearing tag 0).abortStreams.emptied ⟨tag, 0, 0, false⟩).replyOk tag 0x39#8 [0x00#8, 0x00#8] := by
  rw [ownClearAcquisition_eq hclear, State.unqueued_empty hqueue, State.runsOnEngines_none fun f => (hidle f).2,
    State.abortAll_none (s := s.clearing tag 0) fun f => (hidle f).2, List.nil_append, event_clearCheck,
    State.clearRings_due (s := s.clearing tag 0) rfl rfl fun f => (hidle f).1]
  rfl

/-! ## Runs that stop at once -/

/-- The close of an event in which the last engine becomes IDLE: the rings are emptied (R24, R60). -/
theorem settle_idle_clears {n : Nat} (hqueue : s.runQueue = []) :
    settle Config.settleFuel ⟨s, [.idle e], n⟩ = (s.nowIdle e).clearRings := by
  have hqueue' : (s.nowIdle e).runQueue = [] := by rw [State.nowIdle_runQueue, hqueue]
  have hfuel : Config.settleFuel = (Config.settleFuel - 3) + 1 + 1 + 1 := rfl
  rw [hfuel, settle_one (act_idle s e), List.nil_append, settle_one (act_take_empty hqueue'), List.append_nil,
    settle_one (t := (s.nowIdle e).clearRings) (last := []) rfl]
  exact settle_nil _ _ _

theorem act_clearCheck_busy (hbusy : (s.engine e).state ≠ .idle) : act .clearCheck s = .just s :=
  congrArg Eff.just (State.clearRings_busy hbusy)

/-- What an aborted run leaves, its engine IDLE again (R91). -/
def State.cleared (s : State) (e : Fin 4) (r : Run) : State := (s.abortedRun r .clear).setEngine e ⟨.idle, none, []⟩

theorem State.cleared_engine (f : Fin 4) :
    (s.cleared e r).engine f = if f = e then ⟨.idle, none, []⟩ else s.engine f := by
  unfold State.cleared
  by_cases hf : f = e
  · rw [hf, if_pos rfl]
    exact State.setEngine_self (s.abortedRun r .clear) _ _
  · rw [if_neg hf]
    exact State.setEngine_other (s.abortedRun r .clear) _ _ _ hf

/-- The event in which the only run stops, and the rings are emptied (R24, R91). -/
theorem event_clear_stops (hheld : s.heldPort e = none)
    (htags : (s.engine e).abortTags = []) (hqueue : s.runQueue = []) (hclear : s.clear = some c)
    (hplaced : c.placed = false) (hothers : ∀ f : Fin 4, f ≠ e → (s.engine f).state = .idle)
    (hstreams : s.streams = []) :
    event (s.aborting e r .clear, [.stop e, .clearCheck])
      = ((s.cleared e r).emptied c).replyOk c.tag 0x39#8 [byte c.removed, byte c.aborted] := by
  have hunheld : ((s.setPlan r.plan { s.plan r.plan with held := false }).plan r.plan).held = false :=
    congrArg Plan.held (State.setPlan_self _ _ _)
  have hstop := does_stop (s := s.setPlan r.plan { s.plan r.plan with held := false })
    (t := s.setPlan r.plan { s.plan r.plan with held := false }) (e := e) (x := (s.engine e).state)
    (r := r.abortedBy .clear) (cause := .clear) rfl hunheld (does_release_none hheld)
  have hsame : (s.setPlan r.plan { s.plan r.plan with held := false }).abortedRun (r.abortedBy .clear) .clear
      = s.abortedRun r .clear := State.abortedRun_unheld
  rw [hsame] at hstop
  have hbusy : (((s.abortedRun r .clear).atRun e .ending (r.abortedBy .clear).emptied).engine e).state ≠ .idle := by
    rw [State.atRun_state]
    nofun
  have hcheck : Does [.clearCheck] _ _ [] 1 0 := .just rfl (act_clearCheck_busy hbusy)
  have htags' : (((s.abortedRun r .clear).atRun e .ending (r.abortedBy .clear).emptied).engine e).abortTags = [] :=
    (congrArg Engine.abortTags State.atRun_engine).trans htags
  have hidle : ∀ f : Fin 4, ((s.cleared e r).engine f).state = .idle := fun f => by
    rw [State.cleared_engine]
    split
    · rfl
    · next hf => exact hothers f hf
  have hnow : ((s.abortedRun r .clear).atRun e .ending (r.abortedBy .clear).emptied).nowIdle e = s.cleared e r := by
    rw [State.nowIdle_of_noTags htags', State.atRun_setEngine]
    rfl
  have hevent := event_of_does (hstop.cons hcheck) (by decide) (by decide)
  rw [List.append_nil, settle_idle_clears (s := (s.abortedRun r .clear).atRun e .ending _) hqueue, hnow,
    State.clearRings_due (s := s.cleared e r) hclear hplaced hidle,
    State.abortStreams_nil (s := s.cleared e r) hstreams] at hevent
  exact hevent

theorem State.disarmAll_plan (p : Fin 32) : s.disarmAll.plan p
    = if (s.plan p).state = .armed then { s.plan p with state := .ready, held := false } else s.plan p :=
  (Vector.getElem_map (xs := s.plans) (i := p) (fun pl : Plan =>
    if pl.state = .armed then { pl with state := .ready, held := false } else pl) p.isLt :)

/-- The only run, in a WAIT step, stops at once (R90, R91, R93). -/
theorem ownClearAcquisition_stops {n : Nat} (hclear : s.clear = none) (hqueue : s.runQueue = []) (hstreams : s.streams = [])
    (hx : (s.engine e).state = .waiting n) (hr : (s.engine e).run = some r) (hnew : r.abortCause = none)
    (htags : (s.engine e).abortTags = []) (hheld : s.heldPort e = none)
    (hothers : ∀ f : Fin 4, f ≠ e → (s.engine f).state = .idle ∧ (s.engine f).run = none) :
    ownClearAcquisition tag s
      = (((s.clearing tag 1).cleared e r).emptied ⟨tag, 0, 1, false⟩).replyOk tag 0x39#8 [byte 0, byte 1] := by
  have hnone : ∀ f : Fin 4, f ≠ e → (s.engine f).run = none := fun f hf => (hothers f hf).2
  have habort : (s.clearing tag 1).abortAll = ((s.clearing tag 1).aborting e r .clear, [.stop e]) :=
    State.abortAll_one (s := s.clearing tag 1) hnone
      (State.abortEngine_stops (s := s.clearing tag 1) hr hnew (.inl ⟨n, hx⟩))
      fun f hf => State.setEngine_other _ _ _ _ hf
  rw [ownClearAcquisition_eq hclear, State.unqueued_empty hqueue, State.runsOnEngines_one hnone hr, habort]
  exact event_clear_stops (s := s.clearing tag 1) hheld htags hqueue rfl rfl (fun f hf => (hothers f hf).1) hstreams

/-- What a run stopped by a CLEAR-ACQUISITION leaves, its plan disarmed before (R45, R91). -/
theorem State.cleared_clearing : (s.clearing tag 1).cleared e r
    = (({ s with
        clear := some ⟨tag, 0, 1, false⟩
        plans := s.disarmAll.plans.set r.plan { s.disarmAll.plan r.plan with runStatus := .idle, held := false }
        notices := s.notices.post .runAborted (byte r.plan) s.timeBase (BitVec.ofNat 32 r.remaining)
          (0x03#8 ++ byte r.stepIndex) } : State).setEngine e ⟨.idle, none, []⟩) := rfl

/-! ## Runs in TRANSACT -/

/-- The removal of the requests queued, head first (R43, R63). -/
structure State.Unqueues (s : State) (l : List RunRequest) (t : State) : Prop where
  frame : t = { s with runQueue := t.runQueue, plans := t.plans, notices := t.notices }
  queue : t.runQueue = s.runQueue.filter fun q => l.all fun x => q.plan != x.plan
  notices : t.notices = l.foldl
    (fun (q : NoticeQueue) x => q.post .runAborted (byte x.plan) s.timeBase 0#32 0x03FF#16) s.notices
  plan : ∀ p, t.plan p = if ∃ q ∈ l, q.plan = p then { s.plan p with runStatus := .idle, held := false } else s.plan p

theorem State.removeQueued_clear (p : Fin 32) : s.removeQueued p .clear =
    ({ s with runQueue := s.runQueue.filter fun q => q.plan != p }.setPlan p { s.plan p with
      runStatus := .idle, held := false }).post .runAborted (byte p) 0#32 0x03FF#16 := by
  have hcode : pair AbortCause.clear.code 0xFF#8 = 0x03FF#16 := by decide
  unfold State.removeQueued
  rw [hcode]

theorem State.removeQueued_clear_plan (p x : Fin 32) : (s.removeQueued x .clear).plan p
    = if x = p then { s.plan p with runStatus := .idle, held := false } else s.plan p := by
  rw [State.removeQueued_clear, State.post_get_plan]
  by_cases h : x = p
  · rw [h, if_pos rfl, State.setPlan_self]
  · rw [if_neg h, State.setPlan_other _ _ _ _ (Ne.symm h)]
    rfl

theorem State.unqueues (l : List RunRequest) (s : State) :
    s.Unqueues l (l.foldl (fun st q => st.removeQueued q.plan .clear) s) := by
  induction l generalizing s with
  | nil =>
    refine ⟨rfl, ?_, rfl, fun p => (if_neg ?_).symm⟩
    · exact (List.filter_eq_self.mpr fun _ _ => rfl).symm
    · rintro ⟨q, hq, -⟩
      exact List.not_mem_nil hq
  | cons x l ih =>
    obtain ⟨frame, queue, notices, plan⟩ := ih (s.removeQueued x.plan .clear)
    have hfirst : s.removeQueued x.plan .clear = { s with
      runQueue := s.runQueue.filter fun q => q.plan != x.plan
      plans := (s.removeQueued x.plan .clear).plans
      notices := s.notices.post .runAborted (byte x.plan) s.timeBase 0#32 0x03FF#16 } := State.removeQueued_clear x.plan
    rw [List.foldl_cons]
    refine ⟨?_, ?_, ?_, fun p => ?_⟩
    · exact frame
    · rw [queue, hfirst, List.filter_filter]
      refine List.filter_congr fun q _ => ?_
      rw [List.all_cons, Bool.and_comm]
    · rw [notices, hfirst]
      rfl
    · rw [plan, State.removeQueued_clear_plan]
      by_cases hx : x.plan = p
      · rw [if_pos hx, if_pos (⟨x, List.mem_cons_self .., hx⟩ : ∃ q ∈ x :: l, q.plan = p), ite_self]
      · rw [if_neg hx]
        simp only [List.mem_cons, exists_eq_or_imp, hx, false_or]

/-- An engine under an abort (R90). -/
def Engine.aborted (x : Engine) : Engine := { x with run := x.run.map fun r => r.abortedBy .clear }

/-- The abort of engines that are IDLE or in TRANSACT: their runs take the cause, and held flags go (R90). -/
structure State.Aborts (s : State) (l : List (Fin 4)) (t : State) : Prop where
  frame : t = { s with engines := t.engines, plans := t.plans }
  engine : ∀ f, t.engine f = if f ∈ l then (s.engine f).aborted else s.engine f
  plan : ∀ p, t.plan p = s.plan p ∨ t.plan p = { s.plan p with held := false }

/-- The engine is IDLE without a run, or in TRANSACT with one that no abort has reached. -/
def Engine.Transacts (x : Engine) : Prop :=
  (x.state = .idle ∧ x.run = none) ∨ (x.state = .transact ∧ ∃ r, x.run = some r ∧ r.abortCause = none)

theorem State.aborts_one (h : (s.engine e).Transacts) {acts : List Act} :
    ∃ t, abortNext (s, acts) e = (t, acts) ∧ s.Aborts [e] t := by
  obtain ⟨-, hnone⟩ | ⟨hx, r, hr, hnew⟩ := h
  · refine ⟨s, abortNext_none hnone, rfl, fun f => ?_, fun p => .inl rfl⟩
    split
    · next hf =>
      rw [List.mem_singleton.mp hf]
      unfold Engine.aborted
      rw [hnone]
      cases hg : s.engine e
      rw [hg] at hnone
      exact congrArg (fun o => (⟨_, o, _⟩ : Engine)) hnone
    · rfl
  · refine ⟨s.aborting e r .clear, ?_, rfl, fun f => ?_, fun p => ?_⟩
    · unfold abortNext
      rw [State.abortEngine_transact hr hnew hx, List.append_nil]
    · rw [State.aborting_eq]
      by_cases hf : f = e
      · rw [hf, if_pos (List.mem_singleton_self e)]
        refine (State.setEngine_self _ _ _).trans ?_
        unfold Engine.aborted
        rw [hr]
        rfl
      · rw [if_neg (fun h => hf (List.mem_singleton.mp h))]
        exact State.setEngine_other _ _ _ _ hf
    · by_cases hp : p = r.plan
      · rw [hp]
        exact .inr (State.setPlan_self _ _ _)
      · exact .inl (State.setPlan_other _ _ _ _ hp)

theorem State.aborts_all {l : List (Fin 4)} (hl : l.Nodup) {s : State} {acts : List Act}
    (h : ∀ f ∈ l, (s.engine f).Transacts) : ∃ t, l.foldl abortNext (s, acts) = (t, acts) ∧ s.Aborts l t := by
  induction l generalizing s with
  | nil => exact ⟨s, rfl, rfl, fun f => (if_neg List.not_mem_nil).symm, fun p => .inl rfl⟩
  | cons e l ih =>
    obtain ⟨hnotin, hl⟩ := List.nodup_cons.mp hl
    obtain ⟨u, hu, uframe, uengine, uplan⟩ := State.aborts_one (acts := acts) (h e (List.mem_cons_self ..))
    have hother : ∀ f, f ≠ e → u.engine f = s.engine f := fun f hf => by
      rw [uengine, if_neg (fun h => hf (List.mem_singleton.mp h))]
    obtain ⟨t, ht, tframe, tengine, tplan⟩ := ih (s := u) hl fun f hf => by
      rw [hother f fun hfe => hnotin (hfe ▸ hf)]
      exact h f (List.mem_cons_of_mem _ hf)
    refine ⟨t, by rw [List.foldl_cons, hu, ht], ?_, fun f => ?_, fun p => ?_⟩
    · exact tframe.trans (congrArg (fun v : State => { v with engines := t.engines, plans := t.plans }) uframe)
    · rw [tengine]
      by_cases hf : f = e
      · rw [hf, if_neg hnotin, if_pos (List.mem_cons_self ..), uengine, if_pos (List.mem_singleton_self e)]
      · rw [hother f hf]
        simp only [List.mem_cons, hf, false_or]
    · obtain ht | ht := tplan p <;> obtain hu | hu := uplan p
      · exact .inl (ht.trans hu)
      · exact .inr (ht.trans hu)
      · exact .inr (ht.trans (congrArg (fun x : Plan => { x with held := false }) hu))
      · exact .inr (ht.trans (congrArg (fun x : Plan => { x with held := false }) hu))

/-- The engines' runs are counted at admission (R93). -/
theorem State.runsOnEngines_eq : s.runsOnEngines = (List.finRange 4).countP fun e => (s.engine e).run.isSome :=
  List.countP_eq_length_filter.symm

theorem State.engines_of {f : Engine → Engine} {t : State} (h : ∀ e : Fin 4, t.engine e = f (s.engine e)) :
    t.engines = s.engines.map f :=
  Vector.ext fun i hi => (h ⟨i, hi⟩).trans (Vector.getElem_map (xs := s.engines) f hi).symm

/-- The plans after a CLEAR-ACQUISITION that waits for its runs: disarmed, and no request of theirs queued (R45, R63). -/
theorem Plan.cleared_fields {a b : Plan} (p : Prop) [Decidable p]
    (h : b = (if p then { (if a.state = .armed then { a with state := .ready, held := false } else a) with
        runStatus := .idle, held := false } else if a.state = .armed then { a with state := .ready, held := false } else a)
      ∨ b = { (if p then { (if a.state = .armed then { a with state := .ready, held := false } else a) with
        runStatus := .idle, held := false } else if a.state = .armed then { a with state := .ready, held := false } else a)
          with held := false }) :
    b.state = (if a.state = .armed then { a with state := .ready, held := false } else a).state
      ∧ (a.state = .armed → b.held = false) ∧ (p → b.runStatus = .idle) ∧ (¬ p → b.runStatus = a.runStatus)
      ∧ b.attrs = a.attrs ∧ b.steps = a.steps ∧ b.runNumber = a.runNumber ∧ b.missCount = a.missCount := by
  by_cases hp : p <;> by_cases ha : a.state = .armed <;> simp only [hp, ha, if_true, if_false] at h ⊢ <;>
    obtain rfl | rfl := h <;> simp

theorem ownClearAcquisition_transacting (hclear : s.clear = none)
    (h : ∀ e : Fin 4, (s.engine e).Transacts) (hbusy : ∃ e : Fin 4, (s.engine e).state = .transact) :
    ∃ t, ownClearAcquisition tag s = t
      ∧ t = { s with
          runQueue := t.runQueue, clear := t.clear, engines := t.engines, notices := t.notices, plans := t.plans }
      ∧ t.runQueue = []
      ∧ t.clear = some ⟨tag, s.runQueue.length, (List.finRange 4).countP fun e => (s.engine e).run.isSome, false⟩
      ∧ t.notices = s.runQueue.foldl
          (fun (q : NoticeQueue) x => q.post .runAborted (byte x.plan) s.timeBase 0#32 0x03FF#16) s.notices
      ∧ t.engines = s.engines.map Engine.aborted
      ∧ ∀ p, (t.plan p).state
            = (if (s.plan p).state = .armed then { s.plan p with state := .ready, held := false } else s.plan p).state
          ∧ ((s.plan p).state = .armed → (t.plan p).held = false)
          ∧ ((∃ q ∈ s.runQueue, q.plan = p) → (t.plan p).runStatus = .idle)
          ∧ ((¬ ∃ q ∈ s.runQueue, q.plan = p) → (t.plan p).runStatus = (s.plan p).runStatus)
          ∧ (t.plan p).attrs = (s.plan p).attrs ∧ (t.plan p).steps = (s.plan p).steps
          ∧ (t.plan p).runNumber = (s.plan p).runNumber ∧ (t.plan p).missCount = (s.plan p).missCount := by
  obtain ⟨uframe, uqueue, unotices, uplan⟩ := State.unqueues s.runQueue s.disarmAll
  have hengine : ∀ e, (s.unqueued tag).engine e = s.engine e := fun e =>
    (congrArg (fun v : State => v.engine e) uframe :)
  obtain ⟨t, ht, tframe, tengine, tplan⟩ := State.aborts_all (acts := []) (List.nodup_finRange 4) (s := s.unqueued tag)
    fun f _ => by rw [hengine]; exact h f
  have haborted : ∀ e : Fin 4, t.engine e = (s.engine e).aborted := fun e => by
    rw [tengine, if_pos (List.mem_finRange e), hengine]
  have hown : ownClearAcquisition tag s = t := by
    obtain ⟨e, he⟩ := hbusy
    have hstate : (t.engine e).state ≠ .idle := by
      rw [haborted, show (s.engine e).aborted.state = (s.engine e).state from rfl, he]
      nofun
    rw [ownClearAcquisition_eq hclear, State.abortAll_eq, ht, List.nil_append, event_clearCheck,
      State.clearRings_busy hstate]
  refine ⟨t, hown, ?_, ?_, ?_, ?_, State.engines_of haborted, fun p => ?_⟩
  · have hqueue : t.runQueue = (s.unqueued tag).runQueue := (congrArg State.runQueue tframe :)
    have hclear : t.clear = (s.unqueued tag).clear := (congrArg State.clear tframe :)
    have hnotices : t.notices = (s.unqueued tag).notices := (congrArg State.notices tframe :)
    rw [hqueue, hclear, hnotices]
    exact tframe.trans (congrArg (fun v : State => { v with
      clear := (s.unqueued tag).clear, engines := t.engines, plans := t.plans }) uframe)
  · rw [congrArg State.runQueue tframe]
    refine uqueue.trans (List.filter_eq_nil_iff.mpr fun q hq hall => ?_)
    simpa using List.all_eq_true.mp hall q hq
  · rw [congrArg State.clear tframe, ← State.runsOnEngines_eq]
    rfl
  · exact (congrArg State.notices tframe).trans unotices
  · refine Plan.cleared_fields _ ?_
    rw [← State.disarmAll_plan, ← uplan]
    exact tplan p

end

/-- Settles O43. -/
theorem clearAcquisitionEmptiesTheRings : Obligations.ClearAcquisitionEmptiesTheRings := by
  refine ⟨fun s tag h => ⟨fun hclear => ?_, fun hclear hqueue hidle hstreams => ?_⟩,
    fun s tag h hclear => ⟨fun st hqueue hidle hstreams => ?_,
      fun e r n hqueue hstreams hx hr hnew htags hheld hothers => ?_, fun hengines hbusy => ?_⟩,
    fun s c hreset hclear hplaced hstreams => ⟨fun ⟨e, he⟩ => ?_, fun hidle => ?_⟩⟩
  · refine congrArg Host.Outcome.next (h.receive_not .badState 0x00#8 rfl ?_)
    unfold ownClearAcquisition
    exact if_pos hclear
  · refine congrArg Host.Outcome.next (h.receive_answered rfl rfl ?_)
    rw [ownClearAcquisition_idle (s := s.admitted tag 0x39#8) hclear hqueue hidle,
      State.abortStreams_nil (s := (s.admitted tag 0x39#8).clearing tag 0) hstreams]
    rfl
  · obtain ⟨⟨-, -, -, hfresh, -⟩, -⟩ := id h
    refine exec_clearAcquisition h ?_
    rw [ownClearAcquisition_idle (s := s.admitted tag 0x39#8) hclear hqueue hidle,
      State.emptied_abortStreams (s := (s.admitted tag 0x39#8).clearing tag 0) hstreams]
    exact State.admit_replies (s := { s.disarmAll.emptied ⟨tag, 0, 0, false⟩ with
      streams := []
      link := { s.link with lastServed := if s.link.lastServed = some st.tag then none else s.link.lastServed } }) hfresh
  · refine congrArg Host.Outcome.next (h.receive_answered rfl rfl ?_)
    rw [ownClearAcquisition_stops (s := s.admitted tag 0x39#8) hclear hqueue hstreams hx hr hnew htags hheld hothers,
      State.cleared_clearing (s := s.admitted tag 0x39#8), State.disarmAll_plan]
    rfl
  · obtain ⟨t, ht, hframe, hqueue, hclear', hnotices, hengines', hplans⟩ := ownClearAcquisition_transacting
      (s := s.admitted tag 0x39#8) (tag := tag) hclear hengines hbusy
    refine ⟨t, exec_clearAcquisition h ht, hqueue, (congrArg State.rings hframe :), (congrArg State.streams hframe :),
      (congrArg State.link hframe :), hclear', hengines', hnotices, fun p => ?_⟩
    obtain ⟨hstate, hheld, hqueued, hother, hrest⟩ := hplans p
    exact ⟨hstate, hheld, hqueued, fun hall => hother fun ⟨q, hq, hp⟩ => hall q hq hp, hrest⟩
  · refine congrArg Host.Outcome.next ((awake_eq hreset).trans (event_clearCheck.trans (State.clearRings_busy he)))
  · refine congrArg Host.Outcome.next ((awake_eq hreset).trans (event_clearCheck.trans ?_))
    rw [State.clearRings_due hclear hplaced hidle, State.abortStreams_nil hstreams]
    rfl

end Sys2Proof.Machine
end

section
/-! PROOFS. The transmitter: what it takes next, a data frame, the end of a stream and of a frame (R155 to R158, R178,
R179, R194, R196 to R198). -/

namespace Sys2Proof.Machine

-- One proof after the other, as in the tests: many at once would each hold a thread.
set_option Elab.async false

section
variable {s t : State} {st : Stream} {r : Ring}

/-! ## The take by rank (R196) -/

theorem exec_transmitterTake (hreset : s.inReset = false) : exec .transmitterTake s = .next (event s.take) :=
  congrArg Host.Outcome.next (awake_eq hreset)

theorem exec_transmitterTake_of (hreset : s.inReset = false) (h : s.take = (t, [])) :
    exec .transmitterTake s = .next t := by
  rw [exec_transmitterTake hreset, h]
  exact congrArg Host.Outcome.next (event_eq (.nil t))

/-- Nothing of higher rank than the reply list is there. -/
def Link.UpToReplies (l : Link) : Prop := l.transmitter = none ∧ l.rejects = [] ∧ l.announcePending = false

theorem State.take_reject {j : FrameReject} {js : List FrameReject} (hidle : s.link.transmitter = none)
    (h : s.link.rejects = j :: js) : s.take =
      ({ s with link := { s.link with rejects := js } }.send 0x00#8 0xFE#8 [j.reason.code, j.tag] .other, []) := by
  unfold State.take
  rw [hidle, h]
  rfl

theorem State.take_announce (hidle : s.link.transmitter = none) (hrejects : s.link.rejects = [])
    (h : s.link.announcePending = true) : s.take =
      ({ s with link := { s.link with announcePending := false } }.send 0x00#8 0xF8#8 s.announceBody .other, []) := by
  unfold State.take
  rw [hidle, hrejects, h]
  rfl

theorem State.take_reply {x : Reply} {xs : List Reply} (hlink : s.link.UpToReplies) (h : s.link.replies = x :: xs) :
    s.take = (s.takeReply x xs, []) := by
  obtain ⟨hidle, hrejects, hannounce⟩ := hlink
  unfold State.take
  rw [hidle, hrejects, hannounce, h]
  rfl

theorem State.take_notice (hlink : s.link.UpToReplies) (hreplies : s.link.replies = []) (h : s.notices.offering = true) :
    s.take = (s.takeNotice, []) := by
  obtain ⟨hidle, hrejects, hannounce⟩ := hlink
  unfold State.take
  rw [hidle, hrejects, hannounce, hreplies, h]
  rfl

/-- With nothing of higher rank, a data frame is taken, if a stream offers one. -/
theorem State.take_data (hlink : s.link.UpToReplies) (hreplies : s.link.replies = []) (h : s.notices.offering = false) :
    s.take = s.takeData := by
  obtain ⟨hidle, hrejects, hannounce⟩ := hlink
  unfold State.take
  rw [hidle, hrejects, hannounce, hreplies, h]
  rfl

/-! ## Data frames (R155, R156, R197) -/

theorem State.nextStream_of_none (h : s.link.lastServed = none) :
    s.nextStream = s.streams.find? fun x => decide (x.nextChunk < x.frameCount) := by
  unfold State.nextStream
  rw [h]

/-- The rotation begins behind the stream served last and ends with it. -/
theorem State.nextStream_of_some {before after : List Stream} (h : s.link.lastServed = some st.tag)
    (hs : s.streams = before ++ st :: after) (hbefore : ∀ y ∈ before, y.tag ≠ st.tag) :
    s.nextStream = (after ++ before ++ [st]).find? fun y => decide (y.nextChunk < y.frameCount) := by
  have hdrop : (before ++ st :: after).dropWhile (fun y => y.tag != st.tag) = st :: after := by
    rw [List.dropWhile_append_of_pos fun y hy => bne_iff_ne.mpr (hbefore y hy), List.dropWhile_cons_of_neg (by simp)]
  have hrotated : after ++ (before ++ st :: after) = after ++ before ++ [st] ++ after := by simp
  unfold State.nextStream
  rw [h, hs]
  dsimp only
  rw [hdrop, List.drop_one, List.tail_cons, hrotated, List.find?_append]
  cases hfind : (after ++ before ++ [st]).find? (fun y => decide (y.nextChunk < y.frameCount)) with
  | some y => rfl
  | none =>
    rw [Option.none_or]
    refine List.find?_eq_none.mpr fun y hy => List.find?_eq_none.mp hfind y ?_
    rw [List.append_assoc]
    exact List.mem_append_left _ hy

theorem State.nextStream_nil (h : s.streams = []) : s.nextStream = none := by
  unfold State.nextStream
  rw [h]
  cases s.link.lastServed <;> rfl

/-- The body of the stream's next data frame (R155). -/
def State.chunkBody (s : State) (st : Stream) (r : Ring) : List Byte :=
  bytesBE 2 st.nextChunk ++ (Memory.readWords s.mem (r.segBase st.segment + 60 * st.nextChunk)
    (min 60 (st.words - 60 * st.nextChunk))).flatMap fun w => bytesBE 4 w.toNat

/-- The stream with one more frame taken. -/
def Stream.served (st : Stream) : Stream := { st with nextChunk := st.nextChunk + 1 }

/-- The state with the stream's next data frame being sent. -/
def State.sendingData (s : State) (st : Stream) (r : Ring) : State :=
  { s with
    streams := s.streams.map fun x => if x.tag = st.tag then st.served else x
    link := { s.link with
      lastServed := some st.tag
      transmitter := some ⟨frameBytes st.tag 0xF0#8 (s.chunkBody st r), .other⟩ } }

theorem State.takeData_eq (h : s.nextStream = some st) (hr : s.ring st.ring = some r) :
    s.takeData = if st.nextChunk + 1 < st.frameCount then (s.sendingData st r, [])
      else (s.sendingData st r).streamEnd st.served := by
  have hwords : s.chunkWords st = Memory.readWords s.mem (r.segBase st.segment + 60 * st.nextChunk)
      (min 60 (st.words - 60 * st.nextChunk)) := by
    unfold State.chunkWords
    rw [hr]
    rfl
  unfold State.takeData
  rw [h]
  dsimp only
  rw [hwords]
  rfl

/-! ## The end of a stream (R157, R158) -/

/-- The stream's reply placed, its record removed (R157). -/
def State.streamClosed (s : State) (st : Stream) (g : Segment) : State :=
  (s.dropStream st.tag).replyOk st.tag 0x50#8 (Segment.bytes st.segment g ++ bytesBE 2 st.frameCount)

theorem State.streamEnd_read (hr : s.ring st.ring = some r) (hauto : r.autoRelease = false) :
    s.streamEnd st = ((s.setRing st.ring (some (r.setSeg st.segment { r.seg st.segment with state := .read }))).streamClosed
      st { r.seg st.segment with state := .read }, []) := by
  unfold State.streamEnd
  rw [hr]
  dsimp only
  rw [hauto]
  rfl

theorem State.streamEnd_free {u : State} {acts : List Act} (hr : s.ring st.ring = some r) (hauto : r.autoRelease = true)
    (hwake : (s.setRing st.ring (some (r.setSeg st.segment .empty))).wake st.ring = (u, acts)) :
    s.streamEnd st = (u.streamClosed st { r.seg st.segment with state := .free }, acts) := by
  unfold State.streamEnd State.freeSegment
  rw [hr]
  dsimp only
  rw [hauto, if_pos rfl, if_pos rfl, hwake]
  rfl

/-- The state with the stream's last data frame being sent, its reply placed and its record removed. -/
def State.dataEnded (s : State) (st : Stream) (r : Ring) (g : Segment) : State :=
  { s with
    streams := s.streams.filter fun x => x.tag != st.tag
    link := { s.link with
      lastServed := none
      transmitter := some ⟨frameBytes st.tag 0xF0#8 (s.chunkBody st r), .other⟩
      replies := [⟨st.tag, 0xD0#8, 0x00#8 :: Segment.bytes st.segment g ++ bytesBE 2 st.frameCount, false⟩]
      outstanding := s.link.outstanding.map fun o => if o.tag = st.tag then { o with stage := .placed } else o } }

theorem State.sendingData_closed {g : Segment} (hreplies : s.link.replies = []) :
    (s.sendingData st r).streamClosed st.served g = s.dataEnded st r g := by
  have hstreams : (s.streams.map fun x => if x.tag = st.tag then st.served else x).filter (fun x => x.tag != st.tag)
      = s.streams.filter fun x => x.tag != st.tag := by
    generalize s.streams = l
    induction l with
    | nil => rfl
    | cons x l ih =>
      by_cases hx : x.tag = st.tag
      · rw [List.map_cons, if_pos hx, List.filter_cons_of_neg (by simp [Stream.served]),
          List.filter_cons_of_neg (by simp [hx]), ih]
      · rw [List.map_cons, if_neg hx, List.filter_cons_of_pos (by simp [hx]), List.filter_cons_of_pos (by simp [hx]), ih]
  have hserved : (if (s.sendingData st r).link.lastServed = some st.served.tag then none
      else (s.sendingData st r).link.lastServed) = none := if_pos rfl
  have hplaced : (s.sendingData st r).link.replies = [] := hreplies
  unfold State.streamClosed State.dropStream
  rw [hserved]
  unfold State.replyOk State.placeReply
  dsimp only
  rw [hplaced, List.nil_append]
  exact congrArg (fun l => ({ s.dataEnded st r g with streams := l } : State)) hstreams

theorem State.setRing_streamClosed {k : Fin 4} {o : Option Ring} {g : Segment} :
    (s.setRing k o).streamClosed st g = (s.streamClosed st g).setRing k o := rfl

theorem State.withWords_streamClosed {n : Nat} {ws : List Word} {g : Segment} :
    (s.withWords n ws).streamClosed st g = (s.streamClosed st g).withWords n ws := rfl

/-- The take of the last data frame of the stream served next. -/
theorem exec_transmitterTake_last (hreset : s.inReset = false) (hlink : s.link.UpToReplies) (hreplies : s.link.replies = [])
    (hoffer : s.notices.offering = false) (hnext : s.nextStream = some st) (hlast : st.nextChunk + 1 = st.frameCount)
    (hr : s.ring st.ring = some r) {u : State} {acts : List Act}
    (hend : (s.sendingData st r).streamEnd st.served = (u, acts)) :
    exec .transmitterTake s = .next (event (u, acts)) := by
  rw [exec_transmitterTake hreset, State.take_data hlink hreplies hoffer, State.takeData_eq hnext hr,
    if_neg (by rw [hlast]; exact Nat.lt_irrefl _), hend]

/-- A segment freed leaves no segment FILLING where none was. -/
theorem Ring.filling_setSeg_empty {i : Nat} (h : r.filling = none) : (r.setSeg i .empty).filling = none := by
  refine Ring.filling_eq_none.mpr fun j hj => ?_
  rw [Ring.seg_setSeg]
  split
  · nofun
  · exact Ring.filling_eq_none.mp h j hj

/-- The stalled record placed by the stream's end, and its engine gone on to a WAIT step (R14, R21, R78). -/
theorem event_streamEnd_wakes {x : StallEntry} {run : Run} {now : PlanStep} {d : Nat} (hreplies : s.link.replies = [])
    (hr : s.ring st.ring = some r) (hauto : r.autoRelease = true) (hlist : r.stallList = [x]) (hseal : x.sealOnEnd = false)
    (hfilling : r.filling = none) (hawaited : r.awaited = st.segment) (hlt : st.segment < r.segments.length)
    (hstate : (s.engine x.engine).state = .stalled .stamp) (hrun : s.Executes x.engine run now)
    (hwait : (s.plan run.plan).steps[run.stepIndex + 1]? = some (.wait d)) :
    ∃ u acts, (s.sendingData st r).streamEnd st.served = (u, acts) ∧ event (u, acts)
      = ((((s.dataEnded st r { r.seg st.segment with state := .free }).setRing st.ring (some (r.filledAnew x.record))).withWords
          (r.segBase st.segment) x.record.words).inWait x.engine run d) := by
  have hfree : (r.setSeg r.awaited .empty).seg r.awaited = .empty :=
    (Ring.seg_setSeg _ _ _).trans (if_pos ⟨rfl, by rw [hawaited]; exact hlt⟩)
  have hnone : (r.setSeg r.awaited .empty).filling = none := Ring.filling_setSeg_empty hfilling
  have hwake := State.wake_one (s := (s.sendingData st r).setRing st.ring (some (r.setSeg r.awaited .empty)))
    (r := r.setSeg r.awaited .empty) (State.setRing_self _ _ _) hlist hseal hnone
    (by rw [show (r.setSeg r.awaited .empty).awaited = r.awaited from rfl, hawaited]; exact (List.length_set).symm ▸ hlt)
    (congrArg Segment.state hfree) hstate
  rw [State.woken_of_empty hfree, hawaited] at hwake
  have hclosed : (((s.sendingData st r).setRing st.ring (some (r.filledAnew x.record))).withWords (r.segBase st.segment)
      x.record.words).streamClosed st.served { r.seg st.segment with state := .free }
      = ((s.dataEnded st r { r.seg st.segment with state := .free }).setRing st.ring (some (r.filledAnew x.record))).withWords
          (r.segBase st.segment) x.record.words := by
    rw [State.withWords_streamClosed, State.setRing_streamClosed, State.sendingData_closed hreplies]
  have hend := State.streamEnd_free (s := s.sendingData st r) (st := st.served) hr hauto hwake
  refine ⟨_, _, hend.trans (congrArg (·, _) hclosed), ?_⟩
  clear hend hclosed hwake hnone hfree
  generalize hv : ((s.dataEnded st r { r.seg st.segment with state := .free }).setRing st.ring
    (some (r.filledAnew x.record))).withWords (r.segBase st.segment) x.record.words = v
  have hengine : (v.engine x.engine).run = some run := hv ▸ hrun.1
  have hplan : (v.plan run.plan).steps[run.stepIndex + 1]? = some (.wait d) := hv ▸ hwait
  have hdoes : Does [.resume x.engine .stamp] v (v.inWait x.engine run d) [] 3 0 :=
    .andThen rfl (act_resume .stamp hengine) (does_next_wait hengine hplan)
  exact event_eq hdoes

/-! ## The end of a frame (R196, R198) -/

/-- The end of a frame that does not end in a reset includes the take of the next one. -/
theorem exec_txdFrameEnd {f : TxFrame} (hreset : s.inReset = false) (hends : s.endsInReset = false)
    (hsending : s.link.transmitter = some f) :
    exec .txdFrameEnd s = .next (event (s.frameSent f.what).take) := by
  refine congrArg Host.Outcome.next ((awake_eq hreset).trans ?_)
  unfold txdFrameEnd
  rw [hsending]
  exact if_neg (by rw [hends]; exact Bool.false_ne_true)

/-- Nothing to send: the transmitter stays IDLE. -/
theorem State.take_nothing (hlink : s.link.UpToReplies) (hreplies : s.link.replies = []) (h : s.notices.offering = false)
    (hnext : s.nextStream = none) : s.take = (s, []) := by
  rw [State.take_data hlink hreplies h]
  unfold State.takeData
  rw [hnext]

end

/-- Settles O17. -/
theorem transmitterTakesByRankAndFreesTags : Obligations.TransmitterTakesByRankAndFreesTags := by
  refine ⟨fun s hreset hidle => ⟨fun j js h => ?_, fun hrejects h => ?_, fun hrejects hannounce x xs h => ?_,
      fun hrejects hannounce hreplies h => ?_⟩,
    fun s st r hreset hidle hrejects hannounce hreplies hoffer hnext hmore hr => ?_,
    fun s tag bytes hreset hpending hsending hrejects hannounce hreplies hoffer hstreams hclear => ?_,
    fun s bytes hreset hends => ⟨fun hsending => ?_, fun tag hsending => ?_⟩,
    fun s st r hreset hidle hrejects hannounce hreplies hoffer hnext hlast hr => ⟨fun hauto => ?_, fun hauto hlist => ?_,
      fun x run now d hauto hlist hseal hfilling hawaited hlt hstate hrun hwait => ?_⟩,
    fun s => ⟨?_, State.nextStream_of_none, fun before x after => State.nextStream_of_some⟩⟩
  · exact exec_transmitterTake_of hreset (State.take_reject hidle h)
  · exact exec_transmitterTake_of hreset (State.take_announce hidle hrejects h)
  · rw [exec_transmitterTake_of hreset (State.take_reply ⟨hidle, hrejects, hannounce⟩ h)]
    unfold State.takeReply
    cases x.refusal <;> rfl
  · exact exec_transmitterTake_of hreset (State.take_notice ⟨hidle, hrejects, hannounce⟩ hreplies h)
  · refine exec_transmitterTake_of hreset ?_
    rw [State.take_data ⟨hidle, hrejects, hannounce⟩ hreplies hoffer, State.takeData_eq hnext hr, if_pos hmore]
    rfl
  · have hends : s.endsInReset = false := by
      unfold State.endsInReset
      rw [hpending]
      rfl
    have hsent : s.frameSent (.finalReply tag) = { s with link := { s.link with
        transmitter := none
        outstanding := s.link.outstanding.filter fun o => o.tag != tag } } := by
      unfold State.frameSent State.replySent
      dsimp only
      rw [hclear]
      rfl
    have hnone := State.take_nothing (s := { s with link := { s.link with
      transmitter := none
      outstanding := s.link.outstanding.filter fun o => o.tag != tag } }) ⟨rfl, hrejects, hannounce⟩ hreplies hoffer
      (State.nextStream_nil hstreams)
    rw [exec_txdFrameEnd hreset hends hsending, hsent, hnone]
    exact congrArg Host.Outcome.next (event_eq (.nil _))
  · rw [exec_txdFrameEnd hreset hends hsending]
    exact (exec_transmitterTake (s := s.frameSent .other) hreset).symm
  · rw [exec_txdFrameEnd hreset hends hsending]
    exact (exec_transmitterTake (s := s.frameSent (.finalReply tag)) hreset).symm
  · have hend := State.streamEnd_read (s := s.sendingData st r) (st := st.served) hr hauto
    rw [State.setRing_streamClosed, State.sendingData_closed hreplies] at hend
    rw [exec_transmitterTake_last hreset ⟨hidle, hrejects, hannounce⟩ hreplies hoffer hnext hlast hr hend]
    exact congrArg Host.Outcome.next (event_eq (.nil _))
  · have hquiet := State.wake_quiet (s := (s.sendingData st r).setRing st.ring (some (r.setSeg st.segment .empty)))
      (State.setRing_self _ _ _) (.inl hlist)
    have hend := State.streamEnd_free (s := s.sendingData st r) (st := st.served) hr hauto hquiet
    rw [State.setRing_streamClosed, State.sendingData_closed hreplies] at hend
    rw [exec_transmitterTake_last hreset ⟨hidle, hrejects, hannounce⟩ hreplies hoffer hnext hlast hr hend]
    exact congrArg Host.Outcome.next (event_eq (.nil _))
  · obtain ⟨u, acts, hend, hevent⟩ := event_streamEnd_wakes hreplies hr hauto hlist hseal hfilling hawaited hlt hstate hrun
      hwait
    rw [exec_transmitterTake_last hreset ⟨hidle, hrejects, hannounce⟩ hreplies hoffer hnext hlast hr hend, hevent]
    unfold Ring.filledAnew
    rw [hawaited]
    rfl
  · exact NoticeQueue.offering_iff

end Sys2Proof.Machine
end

section
/-! PROOFS. A frame being sent goes on being sent through an event (R196): no action touches the transmitter, and a take
finds it SENDING. -/

namespace Sys2Proof.Machine

-- One proof after the other, as in the tests: many at once would each hold a thread.
set_option Elab.async false

/-- `t` has the transmitter that `s` has. -/
def State.SameFrame (s t : State) : Prop := t.link.transmitter = s.link.transmitter

section
variable {s t u : State} {e : Fin 4} {p : Fin 8} {r : Run}

theorem State.SameFrame.trans (h : s.SameFrame t) (k : t.SameFrame u) : s.SameFrame u := Eq.trans k h

theorem State.takeHead_sameFrame : s.SameFrame s.takeHead.1 := by
  unfold State.takeHead
  split <;> rfl

theorem State.handOut_sameFrame : s.SameFrame s.handOut.1 := by
  unfold State.handOut State.SameFrame
  rw [show List.finRange 4 = [0, 1, 2, 3] from rfl]
  simp only [List.foldl_cons, List.foldl_nil]
  exact ((State.takeHead_sameFrame.trans State.takeHead_sameFrame).trans State.takeHead_sameFrame).trans
    State.takeHead_sameFrame

theorem State.queueRun_sameFrame (k : Fin 32) (source : Source) (time : Time) :
    s.SameFrame (s.queueRun k source time).1 := State.takeHead_sameFrame

theorem State.arrive_sameFrame (k : Fin 32) (source : Source) (time : Time) : s.SameFrame (s.arrive k source time).st := by
  unfold State.arrive
  split
  · rfl
  · exact State.queueRun_sameFrame ..
  · rfl
  · show s.SameFrame (s.miss k source)
    unfold State.miss
    dsimp only
    split <;> rfl

theorem State.commitRecord_sameFrame {time : Time} {body : RecordBody} {b : Bool} {nx : Resume} :
    s.SameFrame (s.commitRecord e r time body b nx).1 := by
  have hcommit := State.commit_get (s := s) (f := fun u => u.link.transmitter) (fun _ _ => rfl) (s.plan r.plan).attrs.ring e
    ⟨r.plan, r.stepIndex, time, body⟩ b
  unfold State.commitRecord
  dsimp only
  split
  · exact hcommit
  · exact hcommit
  · exact hcommit

theorem State.commitSamples_sameFrame {nx : Nat → Resume} : s.SameFrame (s.commitSamples e r nx).1 := by
  unfold State.commitSamples
  split
  · rfl
  · exact State.commitRecord_sameFrame (s := s.setRun e { r with builder := [] })

theorem State.commitRunEnd_sameFrame {reason : Option Reason} : s.SameFrame (s.commitRunEnd e r reason).1 :=
  State.commitRecord_sameFrame (s := (s.setRun e r).setEngineState e .ending)

theorem State.beginPortStep_sameFrame {st : PortStep} : s.SameFrame (s.beginPortStep e r st).1 := by
  unfold State.beginPortStep
  dsimp only
  split <;> rfl

theorem State.beginStep_sameFrame : s.SameFrame (s.beginStep e r).1 := by
  unfold State.beginStep
  split
  · exact State.beginPortStep_sameFrame
  · exact State.commitRecord_sameFrame
  · rfl
  · rfl
  · rfl

theorem State.nextStep_sameFrame : s.SameFrame (s.nextStep e r).1 := by
  unfold State.nextStep
  split <;> rfl

theorem State.checkSubAddress_sameFrame {st : PortStep} : s.SameFrame (s.checkSubAddress e st).1 := by
  unfold State.checkSubAddress
  split <;> rfl

theorem State.postStepFault_sameFrame {reason : Reason} : s.SameFrame (s.postStepFault r reason) := by
  unfold State.postStepFault
  split
  · split <;> rfl
  · rfl

theorem State.afterFault_sameFrame {reason : Reason} : s.SameFrame (s.afterFault e r reason).1 := by
  unfold State.afterFault
  split <;> rfl

theorem State.resume_sameFrame {x : Resume} : s.SameFrame (s.resume e r x).1 := by
  unfold State.resume
  split
  · rfl
  · dsimp only
    split
    · rfl
    · split <;> rfl
  · rfl
  · exact State.afterFault_sameFrame (s := s.setRun e _)
  · rfl
  · rfl
  · rfl

theorem State.grantWithdrawn_sameFrame : s.SameFrame (s.grantWithdrawn e).1 := by
  unfold State.grantWithdrawn
  split
  · rfl
  · split <;> rfl

theorem State.grantHead_sameFrame : s.SameFrame (s.grantHead p).1 := by
  unfold State.grantHead
  dsimp only
  split <;> rfl

theorem State.releaseGrant_sameFrame : s.SameFrame (s.releaseGrant p).1 := by
  unfold State.releaseGrant
  dsimp only
  split
  · split
    · exact State.grantHead_sameFrame (s := s.setPort p _)
    · rfl
  · rfl

theorem State.hostGranted_sameFrame : s.SameFrame (s.hostGranted p).1 := by
  unfold State.hostGranted
  dsimp only
  split
  · rfl
  · split <;> rfl

theorem State.endReport_sameFrame (o : RunOutcome) : s.SameFrame (s.endReport e o).st := by
  unfold State.endReport
  split
  · rfl
  · dsimp only
    split
    · exact State.queueRun_sameFrame (s := s.setPlan _ _) ..
    · rfl

theorem State.becomeIdle_sameFrame : s.SameFrame (s.becomeIdle e).st :=
  foldl_keeps (f := fun u => u.link.transmitter) (g := fun st t => st.replyOk t 0x38#8 []) (fun _ _ => rfl) _
    (s.setEngine e ⟨.idle, none, []⟩)

theorem State.abortStream_sameFrame (st : Stream) : s.SameFrame (s.abortStream st) := by
  unfold State.abortStream
  rw [State.unclaim_rings]
  rfl

theorem State.clearRings_sameFrame : s.SameFrame s.clearRings := by
  unfold State.clearRings
  split
  · rfl
  · split
    · rfl
    · exact foldl_keeps (f := fun u => u.link.transmitter) (fun _ _ => State.abortStream_sameFrame _) _ s

theorem State.withRun_sameFrame {f : Run → State × List Act} (h : ∀ r, s.SameFrame (f r).1) :
    s.SameFrame (s.withRun e f).st := by
  unfold State.withRun
  split
  · rfl
  · exact h _

/-- No action touches the transmitter. -/
theorem act_sameFrame (a : Act) (s : State) : s.SameFrame (act a s).st := by
  cases a with
  | arrive k source time => exact State.arrive_sameFrame ..
  | commitBegin e =>
    refine State.withRun_sameFrame fun r => ?_
    split
    · exact State.commitRecord_sameFrame
    · rfl
  | step e => exact State.withRun_sameFrame fun r => State.beginStep_sameFrame
  | next e => exact State.withRun_sameFrame fun r => State.nextStep_sameFrame
  | granted e =>
    refine State.withRun_sameFrame fun r => ?_
    split
    · exact State.checkSubAddress_sameFrame
    · rfl
  | resume e x => exact State.withRun_sameFrame fun r => State.resume_sameFrame
  | faultStep e reason => exact State.withRun_sameFrame fun r => State.postStepFault_sameFrame
  | commitFault e reason => exact State.withRun_sameFrame fun r => State.commitSamples_sameFrame
  | portDown e => rfl
  | withdrawn e => exact State.grantWithdrawn_sameFrame
  | release e =>
    unfold act
    dsimp only
    split
    · rfl
    · exact State.releaseGrant_sameFrame
  | releasePort p => exact State.releaseGrant_sameFrame
  | hostGranted p => exact State.hostGranted_sameFrame
  | hostDown tag => rfl
  | finish e => exact State.withRun_sameFrame fun r => State.commitRunEnd_sameFrame
  | fail e reason => exact State.withRun_sameFrame fun r => State.commitRunEnd_sameFrame
  | stallFailed e => exact State.withRun_sameFrame fun r => rfl
  | stop e => exact State.withRun_sameFrame fun r => rfl
  | stopped e => exact State.withRun_sameFrame fun r => rfl
  | endReport e o => exact State.endReport_sameFrame o
  | idle e => exact State.becomeIdle_sameFrame
  | take => exact State.handOut_sameFrame
  | clearCheck => exact State.clearRings_sameFrame
  | portNotice p => rfl

theorem settle_sameFrame (fuel : Nat) (x : Moment) : x.st.SameFrame (settle fuel x) :=
  settle_keeps (P := fun u => x.st.SameFrame u) (fun a u h => h.trans (act_sameFrame a u)) fuel x rfl

/-- A transmitter that is SENDING takes nothing (R196). -/
theorem State.transmit_sending (h : s.link.transmitter.isSome = true) : s.transmit = s := by
  have htake : s.take = (s, []) := by
    unfold State.take
    exact if_pos h
  unfold State.transmit
  rw [htake]
  exact event_eq (.nil s)

/-- The close of a microsecond while a frame is being sent. -/
theorem settle_transmit (fuel : Nat) (x : Moment) (h : x.st.link.transmitter.isSome = true) :
    (settle fuel x).transmit = settle fuel x :=
  State.transmit_sending ((congrArg Option.isSome (settle_sameFrame fuel x)).trans h)

end

end Sys2Proof.Machine
end

section
/-! PROOFS. One microsecond (notes/assumptions/2): the timers that come to their end in it are those whose commands are due,
and a timer that does not leaves the state as it is. -/

namespace Sys2Proof.Machine

-- One proof after the other, as in the tests: many at once would each hold a thread.
set_option Elab.async false

/-! ## Which timers end -/

/-- The command of the timer that times the port's state (R99 to R106). -/
def Port.phaseCommands (q : Port) (p : Fin 8) : List Instr :=
  match q.state with
  | .powering => [.powerSettleExpiry p]
  | .clocking => [.clockSettleExpiry p]
  | .identifying => [.identifySpacingExpiry p]
  | .retraining => if q.attempts = 0 then [.retrainSettleExpiry p] else [.identifySpacingExpiry p]
  | .stopping => if q.supply then [.stopClockExpiry p] else [.dischargeExpiry p]
  | .off | .up | .draining | .fault => []

/-- Each timer that is at its end in `u` has a command of which `P` holds. -/
structure State.EndsOnly (u : State) (P : Instr → Prop) : Prop where
  gap : ∀ bytes, u.link.receiver = .frame bytes 0 → P .gapTimerExpiry
  input : ∀ n, (u.input n).timer = some 0 → P (.holdoffExpiry n)
  cadence : ∀ n, (u.cadence n).countdown = some 0 → P (.cadenceExpiry n)
  txn : ∀ p t, (u.port p).txn = some t → t.wordLeft = 0 → t.left = 0 → P (.responseTimeout p)
  quiet : ∀ p, (u.port p).quiet = some 0 → P (.quietPeriodEnd p)
  phase : ∀ p, (u.port p).phase = some 0 → ∀ c ∈ (u.port p).phaseCommands p, P c
  access : ∀ p a, (u.port p).access = some a → a.waitLeft = some 0 → P (.hostWaitLimitExpiry p)
  spacing : ∀ e, (u.engine e).state = .spacing 0 → P (.spacingExpiry e)
  waiting : ∀ e, (u.engine e).state = .waiting 0 → P (.waitExpiry e)
  stalled : ∀ e x, (u.engine e).state = .stalled x → u.stallEnded e = true → P (.stallTimerExpiry e)

section
variable {s u : State} {c : Instr}

/-- At most one microsecond is left. -/
def endsNow (t : Option Nat) : Bool := t.any fun n => decide (n ≤ 1)

theorem endsNow_iff {t : Option Nat} : endsNow t = true ↔ lessOne t = some 0 := by
  unfold endsNow lessOne
  cases t with
  | none => simp
  | some n => simp [Nat.sub_eq_zero_iff_le]

/-- The due commands of a port's timers. -/
def Port.due (q : Port) (p : Fin 8) : List Instr :=
  (if endsNow (q.txn.map fun t => t.wordLeft + t.left) then [Instr.responseTimeout p] else [])
  ++ (if endsNow q.quiet then [.quietPeriodEnd p] else [])
  ++ (if endsNow q.phase then q.phaseCommands p else [])
  ++ (if endsNow (q.access.bind fun a => a.waitLeft) then [.hostWaitLimitExpiry p] else [])

/-- A stalled record of the engine has at most one microsecond left. -/
def State.stallEnds (s : State) (e : Fin 4) : Bool :=
  (List.finRange 4).any fun k =>
    (s.ring k).any fun r => r.stallList.any fun x => x.engine == e && decide (x.timer ≤ 1)

/-- The due commands of an engine's timers. -/
def State.engineDue (s : State) (e : Fin 4) : List Instr :=
  match (s.engine e).state with
  | .spacing n => if n ≤ 1 then [.spacingExpiry e] else []
  | .waiting n => if n ≤ 1 then [.waitExpiry e] else []
  | .stalled _ => if s.stallEnds e then [.stallTimerExpiry e] else []
  | .idle | .starting _ | .awaitPort | .transact | .ending => []

/-- The due command of the gap timer. -/
def State.gapDue (s : State) : List Instr :=
  match s.link.receiver with
  | .frame _ gap => if gap ≤ 1 then [.gapTimerExpiry] else []
  | .hunt => []

theorem State.due_eq : s.due = s.gapDue
    ++ ((List.finRange 4).filter fun n => endsNow (s.input n).timer).map Instr.holdoffExpiry
    ++ ((List.finRange 4).filter fun n => endsNow (s.cadence n).countdown).map Instr.cadenceExpiry
    ++ ((List.finRange 8).flatMap fun p => (s.port p).due p)
    ++ ((List.finRange 4).flatMap s.engineDue) := rfl

theorem State.mem_gapDue : c ∈ s.gapDue ↔ (∃ bytes, s.elapse.link.receiver = .frame bytes 0) ∧ c = .gapTimerExpiry := by
  have helapse : s.elapse.link.receiver = s.link.receiver.elapse := rfl
  rw [helapse]
  unfold State.gapDue Receiver.elapse
  cases s.link.receiver with
  | hunt => simp
  | frame bytes gap => by_cases h : gap ≤ 1 <;> simp [h, Nat.sub_eq_zero_iff_le]

theorem elapse_input (n : Fin 4) : (s.elapse.input n).timer = lessOne (s.input n).timer :=
  (congrArg TrigInput.timer (Vector.getElem_map (xs := s.inputs) (i := n)
    (fun x : TrigInput => { x with timer := lessOne x.timer }) n.isLt :) :)

theorem elapse_cadence (n : Fin 4) : (s.elapse.cadence n).countdown = lessOne (s.cadence n).countdown :=
  (congrArg Cadence.countdown (Vector.getElem_map (xs := s.cadences) (i := n)
    (fun x : Cadence => { x with countdown := lessOne x.countdown }) n.isLt :) :)

theorem elapse_port (p : Fin 8) : s.elapse.port p = (s.port p).elapse :=
  Vector.getElem_map (xs := s.ports) (i := p) Port.elapse p.isLt

theorem elapse_ring (k : Fin 4) : s.elapse.ring k = (s.ring k).map Ring.elapse :=
  Vector.getElem_map (xs := s.rings) (i := k) (fun o : Option Ring => o.map Ring.elapse) k.isLt

theorem elapse_stallEnded (e : Fin 4) : s.elapse.stallEnded e = s.stallEnds e := by
  unfold State.stallEnded State.stallEnds
  congr 1
  funext k
  rw [elapse_ring]
  cases s.ring k with
  | none => rfl
  | some r =>
    simp only [Option.map_some, Option.any_some, Ring.elapse, List.any_map]
    congr 1
    funext x
    by_cases h : x.timer ≤ 1 <;> simp [h, Nat.sub_eq_zero_iff_le]

theorem Port.elapse_phaseCommands (q : Port) (p : Fin 8) : q.elapse.phaseCommands p = q.phaseCommands p := rfl

/-- A response timeout counts behind what is left of its request word (R123). -/
theorem endsNow_txn {o : Option Transaction} : endsNow (o.map fun t => t.wordLeft + t.left) = true ↔
    ∃ t, o.map Transaction.elapse = some t ∧ t.wordLeft = 0 ∧ t.left = 0 := by
  cases o with
  | none => simp [endsNow]
  | some t =>
    by_cases h : 0 < t.wordLeft
    · simp [endsNow, Transaction.elapse, h]
      omega
    · simp [endsNow, Transaction.elapse, h]
      omega

theorem endsNow_access {o : Option HostAccess} : endsNow (o.bind fun a => a.waitLeft) = true ↔
    ∃ a, (o.map fun a => { a with waitLeft := lessOne a.waitLeft }) = some a ∧ a.waitLeft = some 0 := by
  cases o with
  | none => simp [endsNow]
  | some a => simp [endsNow_iff]

/-- The due commands of a port, by what its timers are a microsecond on. -/
theorem Port.mem_due {q : Port} {p : Fin 8} : c ∈ q.due p ↔
    ((∃ t, q.elapse.txn = some t ∧ t.wordLeft = 0 ∧ t.left = 0) ∧ c = .responseTimeout p)
    ∨ (q.elapse.quiet = some 0 ∧ c = .quietPeriodEnd p)
    ∨ (q.elapse.phase = some 0 ∧ c ∈ q.elapse.phaseCommands p)
    ∨ ((∃ a, q.elapse.access = some a ∧ a.waitLeft = some 0) ∧ c = .hostWaitLimitExpiry p) := by
  have hif : ∀ (b : Bool) (l : List Instr), c ∈ (if b = true then l else []) ↔ b = true ∧ c ∈ l := fun b l => by
    cases b <;> simp
  unfold Port.due
  simp only [List.mem_append, hif, List.mem_singleton, or_assoc]
  rw [endsNow_txn, endsNow_access, endsNow_iff, endsNow_iff]
  rfl

theorem State.mem_engineDue {e : Fin 4} : c ∈ s.engineDue e ↔
    ((s.elapse.engine e).state = .spacing 0 ∧ c = .spacingExpiry e)
    ∨ ((s.elapse.engine e).state = .waiting 0 ∧ c = .waitExpiry e)
    ∨ ((∃ x, (s.elapse.engine e).state = .stalled x) ∧ s.elapse.stallEnded e = true ∧ c = .stallTimerExpiry e) := by
  rw [elapse_engine, elapse_stallEnded]
  unfold State.engineDue Engine.elapse
  cases hx : (s.engine e).state with
  | spacing n => by_cases h : n ≤ 1 <;> simp [h, Nat.sub_eq_zero_iff_le]
  | waiting n => by_cases h : n ≤ 1 <;> simp [h, Nat.sub_eq_zero_iff_le]
  | stalled x => cases h : s.stallEnds e <;> simp [hx]
  | idle => simp [hx]
  | starting time => simp [hx]
  | awaitPort => simp [hx]
  | transact => simp [hx]
  | ending => simp [hx]

/-- What is due, by the timers a microsecond on. -/
theorem State.mem_due : c ∈ s.due ↔
    ((∃ bytes, s.elapse.link.receiver = .frame bytes 0) ∧ c = .gapTimerExpiry)
    ∨ (∃ n, (s.elapse.input n).timer = some 0 ∧ c = .holdoffExpiry n)
    ∨ (∃ n, (s.elapse.cadence n).countdown = some 0 ∧ c = .cadenceExpiry n)
    ∨ (∃ p, c ∈ (s.port p).due p)
    ∨ ∃ e, c ∈ s.engineDue e := by
  rw [State.due_eq]
  simp only [List.mem_append, State.mem_gapDue, List.mem_map, List.mem_filter, List.mem_finRange, true_and,
    List.mem_flatMap, endsNow_iff, elapse_input, elapse_cadence, eq_comm (b := c), or_assoc]

theorem elapse_endsOnly : s.elapse.EndsOnly (· ∈ s.due) where
  gap bytes h := State.mem_due.mpr (.inl ⟨⟨bytes, h⟩, rfl⟩)
  input n h := State.mem_due.mpr (.inr (.inl ⟨n, h, rfl⟩))
  cadence n h := State.mem_due.mpr (.inr (.inr (.inl ⟨n, h, rfl⟩)))
  txn p t ht hw hl := State.mem_due.mpr (.inr (.inr (.inr (.inl ⟨p, Port.mem_due.mpr
    (.inl ⟨⟨t, by rw [← elapse_port]; exact ht, hw, hl⟩, rfl⟩)⟩))))
  quiet p h := State.mem_due.mpr (.inr (.inr (.inr (.inl ⟨p, Port.mem_due.mpr
    (.inr (.inl ⟨by rw [← elapse_port]; exact h, rfl⟩))⟩))))
  phase p h c hc := State.mem_due.mpr (.inr (.inr (.inr (.inl ⟨p, Port.mem_due.mpr
    (.inr (.inr (.inl (by rw [← elapse_port]; exact ⟨h, hc⟩))))⟩))))
  access p a ha hl := State.mem_due.mpr (.inr (.inr (.inr (.inl ⟨p, Port.mem_due.mpr
    (.inr (.inr (.inr ⟨⟨a, by rw [← elapse_port]; exact ha, hl⟩, rfl⟩)))⟩))))
  spacing e h := State.mem_due.mpr (.inr (.inr (.inr (.inr ⟨e, State.mem_engineDue.mpr (.inl ⟨h, rfl⟩)⟩))))
  waiting e h := State.mem_due.mpr (.inr (.inr (.inr (.inr ⟨e, State.mem_engineDue.mpr (.inr (.inl ⟨h, rfl⟩))⟩))))
  stalled e x h hs := State.mem_due.mpr (.inr (.inr (.inr (.inr ⟨e, State.mem_engineDue.mpr
    (.inr (.inr ⟨⟨x, h⟩, hs, rfl⟩))⟩))))

end

end Sys2Proof.Machine
end

section
/-! PROOFS. The expiries of one microsecond (notes/assumptions/2): where no timer ends nothing changes; where one does, the
expiries are that one's. -/

namespace Sys2Proof.Machine

-- One proof after the other, as in the tests: many at once would each hold a thread.
set_option Elab.async false

/-- The block whose timer a command ends. -/
inductive Clock where
  | gap
  | input (n : Fin 4)
  | cadence (n : Fin 4)
  | port (p : Fin 8)
  | engine (e : Fin 4)

def clockOf : Instr → Option Clock
  | .gapTimerExpiry => some .gap
  | .holdoffExpiry n => some (.input n)
  | .cadenceExpiry n => some (.cadence n)
  | .responseTimeout p | .quietPeriodEnd p | .powerSettleExpiry p | .clockSettleExpiry p | .retrainSettleExpiry p
  | .identifySpacingExpiry p | .stopClockExpiry p | .dischargeExpiry p | .hostWaitLimitExpiry p => some (.port p)
  | .spacingExpiry e | .waitExpiry e | .stallTimerExpiry e => some (.engine e)
  | _ => none

theorem clockOf_phaseCommands {q : Port} {p : Fin 8} {c : Instr} (h : c ∈ q.phaseCommands p) :
    clockOf c = some (.port p) := by
  unfold Port.phaseCommands at h
  repeat' split at h
  all_goals simp only [List.mem_singleton, List.not_mem_nil] at h
  all_goals rw [h]; rfl

/-! ## Blocks none of whose timers ends -/

/-- No timer of the port, which is port `p`, is at its end. -/
structure Port.Still (q : Port) (p : Fin 8) : Prop where
  txn : ∀ t, q.txn = some t → t.wordLeft = 0 → t.left ≠ 0
  quiet : q.quiet ≠ some 0
  phase : q.phase = some 0 → q.phaseCommands p = []
  access : ∀ a, q.access = some a → a.waitLeft ≠ some 0

/-- No timer of the engine is at its end, and it does not rest in STARTING. -/
structure State.StillEngine (s : State) (e : Fin 4) : Prop where
  spacing : (s.engine e).state ≠ .spacing 0
  waiting : (s.engine e).state ≠ .waiting 0
  stalled : ∀ x, (s.engine e).state = .stalled x → s.stallEnded e = false
  starting : ∀ n, (s.engine e).state ≠ .starting n

section
variable {u w : State} {c : Instr} {P : Instr → Prop} {p : Fin 8} {e : Fin 4}

theorem Port.still_of (h : u.EndsOnly P) (hno : ∀ c, P c → clockOf c ≠ some (.port p)) : (u.port p).Still p where
  txn t ht hw hl := hno _ (h.txn p t ht hw hl) rfl
  quiet hq := hno _ (h.quiet p hq) rfl
  phase hk := List.eq_nil_iff_forall_not_mem.mpr fun c hc => hno c (h.phase p hk c hc) (clockOf_phaseCommands hc)
  access a ha hl := hno _ (h.access p a ha hl) rfl

theorem State.stillEngine_of (h : u.EndsOnly P) (hno : ∀ c, P c → clockOf c ≠ some (.engine e))
    (hstarting : ∀ n, (u.engine e).state ≠ .starting n) : u.StillEngine e where
  spacing hx := hno _ (h.spacing e hx) rfl
  waiting hx := hno _ (h.waiting e hx) rfl
  stalled x hx := Bool.eq_false_iff.mpr fun hs => hno _ (h.stalled e x hx hs) rfl
  starting := hstarting

/-! ## What the expiries of such a block do: nothing -/

theorem expireGap_still (h : ∀ bytes, u.link.receiver ≠ .frame bytes 0) : expireGap u = u := by
  unfold expireGap
  split
  · next bytes hr => exact absurd hr (h bytes)
  · rfl

theorem expireInput_still {n : Fin 4} (h : (u.input n).timer ≠ some 0) : expireInput u n = u := by
  unfold expireInput
  split
  · next ht => exact absurd ht h
  · rfl

theorem expireCadence_still {n : Fin 4} (h : (u.cadence n).countdown ≠ some 0) : expireCadence n u = (u, []) := by
  unfold expireCadence
  split
  · next ht => exact absurd ht h
  · rfl

theorem expireTxn_still (h : ∀ t, (u.port p).txn = some t → t.wordLeft = 0 → t.left ≠ 0) : expireTxn p u = (u, []) := by
  unfold expireTxn
  split
  · next t ht => exact if_neg fun ⟨hw, hl⟩ => h t ht hw hl
  · rfl

theorem expireQuiet_still (h : (u.port p).quiet ≠ some 0) : expireQuiet u p = u := by
  unfold expireQuiet
  split
  · next hq => exact absurd hq h
  · rfl

/-- The phase timer's expiry is that of its command, if the port's state times anything. -/
theorem phaseEnd_cases (u : State) (p : Fin 8) :
    ((u.port p).phaseCommands p = [] ∧ phaseEnd u p = u)
    ∨ ∃ c f, (u.port p).phaseCommands p = [c] ∧ phaseEnd u p = f u ∧ exec c u = .next (awake f u) := by
  unfold Port.phaseCommands phaseEnd
  cases hst : (u.port p).state with
  | powering => exact .inr ⟨_, powerSettleExpiry p, rfl, rfl, rfl⟩
  | clocking => exact .inr ⟨_, clockSettleExpiry p, rfl, rfl, rfl⟩
  | identifying => exact .inr ⟨_, identifySpacingExpiry p, rfl, rfl, rfl⟩
  | retraining =>
    dsimp only
    split
    · exact .inr ⟨_, retrainSettleExpiry p, rfl, rfl, rfl⟩
    · exact .inr ⟨_, identifySpacingExpiry p, rfl, rfl, rfl⟩
  | stopping =>
    dsimp only
    split
    · exact .inr ⟨_, stopClockExpiry p, rfl, rfl, rfl⟩
    · exact .inr ⟨_, dischargeExpiry p, rfl, rfl, rfl⟩
  | off => exact .inl ⟨rfl, rfl⟩
  | up => exact .inl ⟨rfl, rfl⟩
  | draining => exact .inl ⟨rfl, rfl⟩
  | fault => exact .inl ⟨rfl, rfl⟩

theorem phaseEnd_of_nil (h : (u.port p).phaseCommands p = []) : phaseEnd u p = u := by
  obtain ⟨-, hu⟩ | ⟨c, f, hc, -⟩ := phaseEnd_cases u p
  · exact hu
  · exact absurd (hc.symm.trans h) (List.cons_ne_nil c [])

theorem exec_phaseEnd (hreset : u.inReset = false) (hc : c ∈ (u.port p).phaseCommands p) :
    exec c u = .next (phaseEnd u p) := by
  obtain ⟨hnil, -⟩ | ⟨d, f, hd, hend, hexec⟩ := phaseEnd_cases u p
  · exact absurd (hnil ▸ hc) List.not_mem_nil
  · rw [hd] at hc
    rw [List.mem_singleton.mp hc, hexec, awake_eq hreset, hend]

theorem expirePhase_still (h : (u.port p).phase = some 0 → (u.port p).phaseCommands p = []) : expirePhase u p = u := by
  unfold expirePhase
  split
  · next hk => exact phaseEnd_of_nil (h hk)
  · rfl

theorem expireHostWait_still (h : ∀ a, (u.port p).access = some a → a.waitLeft ≠ some 0) : expireHostWait u p = u := by
  unfold expireHostWait
  split
  · next ha => exact absurd rfl (h _ ha)
  · rfl

theorem expireEngine_still (h : u.StillEngine e) : expireEngine e u = (u, []) := by
  unfold expireEngine
  split
  · next hx => exact absurd hx h.spacing
  · next hx => exact absurd hx h.waiting
  · next x hx => rw [h.stalled x hx]; rfl
  · rfl

/-! ## The folds over the blocks -/

theorem Moment.also_nothing {x : Moment} {f : State → State × List Act} {t : State} (h : f x.st = (t, [])) :
    x.also f = { x with st := t } := by
  unfold Moment.also
  rw [h]
  exact carryOut_nil _ _

theorem Moment.also_still {x : Moment} {f : State → State × List Act} (h : f x.st = (x.st, [])) : x.also f = x :=
  Moment.also_nothing h

theorem foldl_still {α β : Type} {f : β → α → β} {b : β} {l : List α} (h : ∀ a ∈ l, f b a = b) : l.foldl f b = b := by
  induction l with
  | nil => rfl
  | cons a l ih =>
    rw [List.foldl_cons, h a (List.mem_cons_self ..)]
    exact ih fun x hx => h x (List.mem_cons_of_mem _ hx)

/-- Only one block changes anything. -/
theorem foldl_one {α β : Type} {f : β → α → β} {b d : β} {l : List α} {k : α} (hl : l.Nodup) (hk : k ∈ l)
    (hbefore : ∀ a ∈ l, a ≠ k → f b a = b) (hat : f b k = d) (hafter : ∀ a ∈ l, a ≠ k → f d a = d) : l.foldl f b = d := by
  obtain ⟨before, after, rfl⟩ := List.append_of_mem hk
  obtain ⟨-, hrest, hdisjoint⟩ := List.nodup_append.mp hl
  rw [List.foldl_append, foldl_still fun a ha => hbefore a (List.mem_append_left _ ha)
      (hdisjoint a ha k (List.mem_cons_self ..)), List.foldl_cons, hat]
  refine foldl_still fun a ha => hafter a (List.mem_append_right _ (List.mem_cons_of_mem _ ha)) fun h => ?_
  exact (List.nodup_cons.mp hrest).1 (h ▸ ha)

theorem foldl_finRange_still {n : Nat} {β : Type} {f : β → Fin n → β} {b : β} (h : ∀ k, f b k = b) :
    (List.finRange n).foldl f b = b := foldl_still fun k _ => h k

theorem foldl_finRange_one {n : Nat} {β : Type} {f : β → Fin n → β} {b d : β} (k : Fin n)
    (hbefore : ∀ a, a ≠ k → f b a = b) (hat : f b k = d) (hafter : ∀ a, a ≠ k → f d a = d) :
    (List.finRange n).foldl f b = d :=
  foldl_one (List.nodup_finRange n) (List.mem_finRange k) (fun a _ => hbefore a) hat fun a _ => hafter a

/-- The gap timer and the holdoff timers. -/
def State.expireFirst (u : State) : State := (List.finRange 4).foldl expireInput (expireGap u)

def Moment.expireCadences (x : Moment) : Moment := (List.finRange 4).foldl (fun x n => x.also (expireCadence n)) x

def Moment.expirePorts (x : Moment) : Moment := (List.finRange 8).foldl Moment.expirePort x

def Moment.expireEngines (x : Moment) : Moment := (List.finRange 4).foldl (fun x e => x.also (expireEngine e)) x

theorem State.expire_eq : u.expire
    = ((Moment.start u.expireFirst).expireCadences.expirePorts.expireEngines).also fun s => (s, s.startingActs) := rfl

theorem State.startingActs_nil (h : ∀ e n, (u.engine e).state ≠ .starting n) : u.startingActs = [] := by
  unfold State.startingActs
  refine List.map_eq_nil_iff.mpr (List.filter_eq_nil_iff.mpr fun e _ => ?_)
  cases hx : (u.engine e).state with
  | starting n => exact absurd hx (h e n)
  | idle => exact Bool.false_ne_true
  | awaitPort => exact Bool.false_ne_true
  | transact => exact Bool.false_ne_true
  | spacing n => exact Bool.false_ne_true
  | waiting n => exact Bool.false_ne_true
  | stalled x => exact Bool.false_ne_true
  | ending => exact Bool.false_ne_true

theorem Moment.starting_still {x : Moment} (h : ∀ e n, (x.st.engine e).state ≠ .starting n) :
    (x.also fun s => (s, s.startingActs)) = x :=
  Moment.also_still (congrArg (x.st, ·) (State.startingActs_nil h))

theorem Moment.expireCadences_still {x : Moment} (h : ∀ n, (x.st.cadence n).countdown ≠ some 0) : x.expireCadences = x :=
  foldl_finRange_still fun n => Moment.also_still (expireCadence_still (h n))

theorem Moment.expirePort_still {x : Moment} (h : (x.st.port p).Still p) : x.expirePort p = x := by
  unfold Moment.expirePort
  rw [Moment.also_still (expireTxn_still h.txn)]
  dsimp only
  rw [expireQuiet_still h.quiet, expirePhase_still h.phase, expireHostWait_still h.access]

theorem Moment.expirePorts_still {x : Moment} (h : ∀ p, (x.st.port p).Still p) : x.expirePorts = x :=
  foldl_finRange_still fun p => Moment.expirePort_still (h p)

theorem Moment.expireEngines_still {x : Moment} (h : ∀ e, x.st.StillEngine e) : x.expireEngines = x :=
  foldl_finRange_still fun e => Moment.also_still (expireEngine_still (h e))

/-! ## The expiries of a microsecond in which one timer ends -/

/-- One of the first timers: the rest is still. -/
theorem expire_of_first (hfirst : u.expireFirst = w) (hcadences : ∀ n, (w.cadence n).countdown ≠ some 0)
    (hports : ∀ p, (w.port p).Still p) (hengines : ∀ e, w.StillEngine e) : u.expire = Moment.start w := by
  rw [State.expire_eq, hfirst, Moment.expireCadences_still hcadences, Moment.expirePorts_still hports,
    Moment.expireEngines_still hengines, Moment.starting_still fun e => (hengines e).starting]

theorem expire_of_cadence (hfirst : u.expireFirst = u) (hcadences : (Moment.start u).expireCadences = Moment.start w)
    (hports : ∀ p, (w.port p).Still p) (hengines : ∀ e, w.StillEngine e) : u.expire = Moment.start w := by
  rw [State.expire_eq, hfirst, hcadences, Moment.expirePorts_still hports,
    Moment.expireEngines_still hengines, Moment.starting_still fun e => (hengines e).starting]

theorem expire_of_port (hfirst : u.expireFirst = u) (hcadences : ∀ n, (u.cadence n).countdown ≠ some 0)
    (hports : (Moment.start u).expirePorts = Moment.start w) (hengines : ∀ e, w.StillEngine e) :
    u.expire = Moment.start w := by
  rw [State.expire_eq, hfirst, Moment.expireCadences_still hcadences, hports,
    Moment.expireEngines_still hengines, Moment.starting_still fun e => (hengines e).starting]

theorem expire_of_engine {x : Moment} (hfirst : u.expireFirst = u) (hcadences : ∀ n, (u.cadence n).countdown ≠ some 0)
    (hports : ∀ p, (u.port p).Still p) (hengines : (Moment.start u).expireEngines = x)
    (hstarting : ∀ e n, (x.st.engine e).state ≠ .starting n) : u.expire = x := by
  rw [State.expire_eq, hfirst, Moment.expireCadences_still hcadences, Moment.expirePorts_still hports, hengines,
    Moment.starting_still hstarting]

theorem expireFirst_still (hgap : ∀ bytes, u.link.receiver ≠ .frame bytes 0) (hinputs : ∀ n, (u.input n).timer ≠ some 0) :
    u.expireFirst = u := by
  unfold State.expireFirst
  rw [expireGap_still hgap]
  exact foldl_finRange_still fun n => expireInput_still (hinputs n)

theorem expireFirst_of (h : u.EndsOnly P) (hgap : ∀ c, P c → clockOf c ≠ some .gap)
    (hinput : ∀ c n, P c → clockOf c ≠ some (.input n)) : u.expireFirst = u :=
  expireFirst_still (fun bytes hr => hgap _ (h.gap bytes hr) rfl) fun n hn => hinput _ n (h.input n hn) rfl

theorem cadences_of (h : u.EndsOnly P) (hno : ∀ c n, P c → clockOf c ≠ some (.cadence n)) (n : Fin 4) :
    (u.cadence n).countdown ≠ some 0 := fun hn => hno _ n (h.cadence n hn) rfl

end

end Sys2Proof.Machine
end

section
/-! PROOFS. The step without a command (R47, notes/assumptions/2): with no timer at its end the clocks alone move; with one
at its end the step is that expiry. -/

namespace Sys2Proof.Machine

-- One proof after the other, as in the tests: many at once would each hold a thread.
set_option Elab.async false

/-- `w` has what `u` has at every port but `p`, at every engine and ring, and the same frame being sent. -/
structure State.OnlyPort (p : Fin 8) (u w : State) : Prop where
  engines : w.engines = u.engines
  rings : w.rings = u.rings
  others : ∀ q, q ≠ p → w.port q = u.port q
  frame : u.SameFrame w

section
variable {s u w : State} {p : Fin 8} {e : Fin 4} {c : Instr}

theorem State.OnlyPort.refl (u : State) : u.OnlyPort p u := ⟨rfl, rfl, fun _ _ => rfl, rfl⟩

theorem State.OnlyPort.setPort (h : u.OnlyPort p w) (x : Port) : u.OnlyPort p (w.setPort p x) :=
  ⟨h.engines, h.rings, fun q hq => (State.setPort_other _ _ _ _ hq).trans (h.others q hq), h.frame⟩

theorem State.OnlyPort.placeReply (h : u.OnlyPort p w) (tag kind : Byte) (body : List Byte) :
    u.OnlyPort p (w.placeReply tag kind body) := ⟨h.engines, h.rings, h.others, h.frame⟩

theorem State.OnlyPort.post (h : u.OnlyPort p w) (kind : NoticeKind) (subject : Byte) (a : Word) (b : Half) :
    u.OnlyPort p (w.post kind subject a b) := ⟨h.engines, h.rings, h.others, h.frame⟩

theorem State.setPort_onlyPort (u : State) (x : Port) : u.OnlyPort p (u.setPort p x) := (State.OnlyPort.refl u).setPort x

theorem quietPeriodEnd_onlyPort : u.OnlyPort p (quietPeriodEnd p u) := by
  unfold quietPeriodEnd
  dsimp only
  split
  · exact .refl u
  · exact u.setPort_onlyPort _

theorem endWaiting_onlyPort (st : Status) : u.OnlyPort p (u.endWaiting p st) := by
  unfold State.endWaiting
  split
  · exact .refl u
  · exact (u.setPort_onlyPort _).placeReply ..

/-- What the end of a port's phase leaves: at most the port changed, its host access kept. -/
theorem setPort_access {q : Port} (h : q.access = (u.port p).access) :
    u.OnlyPort p (u.setPort p q) ∧ ((u.setPort p q).port p).access = (u.port p).access :=
  ⟨u.setPort_onlyPort q, by rw [State.setPort_self, h]⟩

theorem Port.attempt_access (q : Port) : q.attempt.access = q.access := by
  unfold Port.attempt
  split <;> rfl

theorem setPortIf_access {d : Prop} [Decidable d] {q : Port} (h : q.access = (u.port p).access) :
    u.OnlyPort p (if d then u.setPort p q else u)
      ∧ ((if d then u.setPort p q else u).port p).access = (u.port p).access := by
  split
  · exact setPort_access h
  · exact ⟨.refl u, rfl⟩

theorem phaseEnd_onlyPort : u.OnlyPort p (phaseEnd u p) ∧ ((phaseEnd u p).port p).access = (u.port p).access := by
  unfold phaseEnd
  split
  · exact setPortIf_access rfl
  · exact setPortIf_access (Port.attempt_access _)
  · exact setPortIf_access (Port.attempt_access _)
  · split
    · exact setPortIf_access (Port.attempt_access _)
    · exact setPortIf_access (Port.attempt_access _)
  · split
    · exact setPortIf_access rfl
    · unfold dischargeExpiry
      dsimp only
      split
      · exact ⟨(u.setPort_onlyPort _).post .., (congrArg Port.access (State.setPort_self u p _)).trans rfl⟩
      · exact ⟨.refl u, rfl⟩
  · exact ⟨.refl u, rfl⟩
  · exact ⟨.refl u, rfl⟩
  · exact ⟨.refl u, rfl⟩
  · exact ⟨.refl u, rfl⟩

theorem State.StillEngine.congr (h : u.StillEngine e) (hengine : w.engine e = u.engine e) (hrings : w.rings = u.rings) :
    w.StillEngine e := by
  have hended : w.stallEnded e = u.stallEnded e := by
    unfold State.stallEnded State.ring
    rw [hrings]
  exact ⟨by rw [hengine]; exact h.spacing, by rw [hengine]; exact h.waiting,
    fun x hx => hended.trans (h.stalled x (hengine ▸ hx)), by rw [hengine]; exact h.starting⟩

theorem State.OnlyPort.stillEngine (k : u.OnlyPort p w) (h : u.StillEngine e) : w.StillEngine e := by
  refine h.congr ?_ k.rings
  unfold State.engine
  rw [k.engines]

/-! ## The one block whose timer ends -/

/-- Nothing else than `c` ends, and no engine rests in STARTING. -/
structure State.EndsOne (u : State) (c : Instr) : Prop where
  only : u.EndsOnly (· = c)
  starting : ∀ e n, (u.engine e).state ≠ .starting n

theorem State.EndsOne.port (h : u.EndsOne c) (hno : clockOf c ≠ some (.port p)) : (u.port p).Still p :=
  Port.still_of h.only fun _ hd => by rw [hd]; exact hno

theorem State.EndsOne.engine (h : u.EndsOne c) (hno : clockOf c ≠ some (.engine e)) : u.StillEngine e :=
  State.stillEngine_of h.only (fun _ hd => by rw [hd]; exact hno) (h.starting e)

theorem State.EndsOne.cadence (h : u.EndsOne c) {n : Fin 4} (hno : clockOf c ≠ some (.cadence n)) :
    (u.cadence n).countdown ≠ some 0 := fun hn => hno ((h.only.cadence n hn) ▸ rfl)

theorem State.EndsOne.input (h : u.EndsOne c) {n : Fin 4} (hno : clockOf c ≠ some (.input n)) :
    (u.input n).timer ≠ some 0 := fun hn => hno ((h.only.input n hn) ▸ rfl)

theorem State.EndsOne.gap (h : u.EndsOne c) (hno : clockOf c ≠ some .gap) (bytes : List Byte) :
    u.link.receiver ≠ .frame bytes 0 := fun hr => hno ((h.only.gap bytes hr) ▸ rfl)

theorem Clock.port_ne {q : Fin 8} (h : q ≠ p) : some (Clock.port p) ≠ some (.port q) := by
  simpa using Ne.symm h

theorem expire_port (h : u.EndsOne c) (hclock : clockOf c = some (.port p))
    (hat : (Moment.start u).expirePort p = Moment.start w) (honly : u.OnlyPort p w) : u.expire = Moment.start w := by
  have hno : ∀ d, some (Clock.port p) ≠ d → clockOf c ≠ d := fun d hd => hclock ▸ hd
  refine expire_of_port (expireFirst_still (h.gap (hno _ nofun)) fun n => h.input (hno _ nofun))
    (fun n => h.cadence (hno _ nofun)) (foldl_finRange_one p (fun q hq => ?_) hat fun q hq => ?_)
    fun e => honly.stillEngine (h.engine (hno _ nofun))
  · exact Moment.expirePort_still (h.port (hno _ (Clock.port_ne hq)))
  · refine Moment.expirePort_still (x := Moment.start w) ?_
    rw [show (Moment.start w).st.port q = u.port q from honly.others q hq]
    exact h.port (hno _ (Clock.port_ne hq))

theorem expire_engine {x : Moment} (h : u.EndsOne c) (hclock : clockOf c = some (.engine e))
    (hat : (Moment.start u).also (expireEngine e) = x) (hothers : ∀ f, f ≠ e → x.st.StillEngine f)
    (hself : ∀ n, (x.st.engine e).state ≠ .starting n) : u.expire = x := by
  have hno : ∀ d, some (Clock.engine e) ≠ d → clockOf c ≠ d := fun d hd => hclock ▸ hd
  refine expire_of_engine (expireFirst_still (h.gap (hno _ nofun)) fun n => h.input (hno _ nofun))
    (fun n => h.cadence (hno _ nofun)) (fun q => h.port (hno _ nofun)) (foldl_finRange_one e (fun f hf => ?_) hat fun f hf => ?_)
    fun f n => ?_
  · exact Moment.also_still (expireEngine_still (h.engine (hno _ (by simpa using Ne.symm hf))))
  · exact Moment.also_still (expireEngine_still (hothers f hf))
  · by_cases hf : f = e
    · rw [hf]
      exact hself n
    · exact (hothers f hf).starting n

/-! ## What the one expiry is -/

theorem Moment.also_does {x : Moment} {f : State → State × List Act} {acts last : List Act} {t : State} {n : Nat}
    (hf : f x.st = (t, acts)) (h : Does acts t w last n 0) (hn : n ≤ 1048576) :
    x.also f = ⟨w, x.last ++ last, x.begins⟩ := by
  have hrun := h (1048576 - n) [] x.last x.begins
  have hfuel : Config.eventFuel = (1048576 - n) + n := (Nat.sub_add_cancel hn).symm
  rw [List.append_nil, carryOut_nil] at hrun
  unfold Moment.also
  rw [hf, hfuel]
  exact hrun

theorem event_also (f : State → State × List Act) (u : State) :
    event (f u) = settle Config.settleFuel ((Moment.start u).also f) := rfl

/-- The port's response timeout, its other timers still. -/
theorem expirePort_txn (hat : (Moment.start u).also (expireTxn p) = Moment.start w) (hquiet : (w.port p).quiet ≠ some 0)
    (hphase : (w.port p).phase = some 0 → (w.port p).phaseCommands p = [])
    (haccess : ∀ a, (w.port p).access = some a → a.waitLeft ≠ some 0) :
    (Moment.start u).expirePort p = Moment.start w := by
  unfold Moment.expirePort
  rw [hat]
  dsimp only
  rw [expireQuiet_still (u := (Moment.start w).st) hquiet, expirePhase_still (u := (Moment.start w).st) hphase,
    expireHostWait_still (u := (Moment.start w).st) haccess]

theorem Port.attempt_phase (q : Port) : q.attempt.phase = none := by
  unfold Port.attempt
  split <;> rfl

/-- The port's quiet period, its other timers still. -/
theorem expirePort_quiet (htxn : ∀ t, (u.port p).txn = some t → t.wordLeft = 0 → t.left ≠ 0)
    (hquiet : (u.port p).quiet = some 0) (hphase : (u.port p).phase = some 0 → (u.port p).phaseCommands p = [])
    (haccess : ∀ a, (u.port p).access = some a → a.waitLeft ≠ some 0) :
    (Moment.start u).expirePort p = Moment.start (quietPeriodEnd p u) := by
  have hend : expireQuiet u p = quietPeriodEnd p u := by
    unfold expireQuiet
    rw [hquiet]
    rfl
  have hport : (quietPeriodEnd p u).port p = if { u.port p with quiet := none }.attemptDue
      then { u.port p with quiet := none }.attempt else { u.port p with quiet := none } := by
    have hset : quietPeriodEnd p u = u.setPort p (if { u.port p with quiet := none }.attemptDue
        then { u.port p with quiet := none }.attempt else { u.port p with quiet := none }) :=
      if_neg (by rw [hquiet]; exact Bool.false_ne_true)
    rw [hset, State.setPort_self]
  have hphase' : ((quietPeriodEnd p u).port p).phase = some 0 → ((quietPeriodEnd p u).port p).phaseCommands p = [] := by
    rw [hport]
    split
    · rw [Port.attempt_phase]
      nofun
    · exact hphase
  have haccess' : ((quietPeriodEnd p u).port p).access = (u.port p).access := by
    rw [hport]
    split
    · exact Port.attempt_access _
    · rfl
  unfold Moment.expirePort
  rw [Moment.also_still (expireTxn_still htxn)]
  dsimp only
  rw [show (Moment.start u).st = u from rfl, hend, expirePhase_still hphase',
    expireHostWait_still (by rw [haccess']; exact haccess)]
  rfl

/-- The phase timer of the port's state, its other timers still. -/
theorem expirePort_phase (htxn : ∀ t, (u.port p).txn = some t → t.wordLeft = 0 → t.left ≠ 0)
    (hquiet : (u.port p).quiet ≠ some 0) (hphase : (u.port p).phase = some 0)
    (haccess : ∀ a, (u.port p).access = some a → a.waitLeft ≠ some 0) :
    (Moment.start u).expirePort p = Moment.start (phaseEnd u p) := by
  have hend : expirePhase u p = phaseEnd u p := by
    unfold expirePhase
    rw [hphase]
    rfl
  obtain ⟨-, hkept⟩ := phaseEnd_onlyPort (u := u) (p := p)
  unfold Moment.expirePort
  rw [Moment.also_still (expireTxn_still htxn)]
  dsimp only
  rw [show (Moment.start u).st = u from rfl, expireQuiet_still hquiet, hend,
    expireHostWait_still (by rw [hkept]; exact haccess)]
  rfl

/-- The wait limit of the port's host access, its other timers still. -/
theorem expirePort_hostWait {a : HostAccess} (htxn : ∀ t, (u.port p).txn = some t → t.wordLeft = 0 → t.left ≠ 0)
    (hquiet : (u.port p).quiet ≠ some 0) (hphase : (u.port p).phase = some 0 → (u.port p).phaseCommands p = [])
    (haccess : (u.port p).access = some a) (hleft : a.waitLeft = some 0) :
    (Moment.start u).expirePort p = Moment.start (hostWaitLimitExpiry p u) := by
  have hend : expireHostWait u p = hostWaitLimitExpiry p u := by
    obtain ⟨tag, fn, sub, waitLeft⟩ := a
    subst hleft
    unfold expireHostWait
    rw [haccess]
    rfl
  unfold Moment.expirePort
  rw [Moment.also_still (expireTxn_still htxn)]
  dsimp only
  rw [show (Moment.start u).st = u from rfl, expireQuiet_still hquiet, expirePhase_still hphase, hend]
  rfl

/-! ## The step -/

/-- The step of a microsecond whose expiries are known, while a frame is being sent. -/
theorem step_of_expire {x : Moment} (hpending : s.pending = []) (hreset : s.inReset = false)
    (hsend : s.link.transmitter.isSome = true) (hx : s.elapse.expire = x) (hframe : s.elapse.SameFrame x.st) :
    step s = .next (settle Config.settleFuel x) := by
  rw [step_of_idle hpending]
  unfold tick
  rw [if_neg (by rw [hreset]; exact Bool.false_ne_true), hx,
    settle_transmit _ _ ((congrArg Option.isSome hframe).trans hsend)]

theorem step_of_expire_start (hpending : s.pending = []) (hreset : s.inReset = false)
    (hsend : s.link.transmitter.isSome = true) (hx : s.elapse.expire = Moment.start w) (hframe : s.elapse.SameFrame w) :
    step s = .next w :=
  (step_of_expire hpending hreset hsend hx hframe).trans (congrArg Host.Outcome.next (settle_nil _ _ _))

end

end Sys2Proof.Machine
end

section
/-! PROOFS. A microsecond in which one timer comes to its end is the command of that expiry (R47, notes/assumptions/2). -/

namespace Sys2Proof.Machine

-- One proof after the other, as in the tests: many at once would each hold a thread.
set_option Elab.async false

/-! ## The timer that ends -/

theorem clockOf_portDue {q : Port} {p : Fin 8} {c : Instr} (h : c ∈ q.due p) : clockOf c = some (.port p) := by
  obtain ⟨-, rfl⟩ | ⟨-, rfl⟩ | ⟨-, hc⟩ | ⟨-, rfl⟩ := Port.mem_due.mp h
  · rfl
  · rfl
  · exact clockOf_phaseCommands hc
  · rfl

theorem clockOf_engineDue {s : State} {e : Fin 4} {c : Instr} (h : c ∈ s.engineDue e) :
    clockOf c = some (.engine e) := by
  obtain ⟨-, rfl⟩ | ⟨-, rfl⟩ | ⟨-, -, rfl⟩ := State.mem_engineDue.mp h <;> rfl

/-- What times a port's state is none of its other timers. -/
theorem Port.phaseCommands_nil_of {q : Port} {p : Fin 8} {c : Instr} (h : ∀ d ∈ q.phaseCommands p, d = c)
    (hc : c = .responseTimeout p ∨ c = .quietPeriodEnd p ∨ c = .hostWaitLimitExpiry p) : q.phaseCommands p = [] := by
  have hno : c ∉ q.phaseCommands p := fun hmem => by
    unfold Port.phaseCommands at hmem
    repeat' split at hmem
    all_goals simp only [List.mem_singleton, List.not_mem_nil] at hmem
    all_goals obtain h | h | h := hc <;> exact absurd (h.symm.trans hmem) nofun
  exact List.eq_nil_iff_forall_not_mem.mpr fun d hd => hno (h d hd ▸ hd)

/-- A step without a command, a frame being sent, in which the one expiry is that of `c`. -/
structure State.Ends (s : State) (c : Instr) : Prop where
  pending : s.pending = []
  reset : s.elapse.inReset = false
  sending : s.link.transmitter.isSome = true
  one : s.elapse.EndsOne c
  due : c ∈ s.due

section
variable {s u w : State} {c : Instr} {p : Fin 8} {e : Fin 4} {n : Fin 4}

theorem engine_elapse_starting (x : Engine) (time : Time) : x.elapse.state = .starting time ↔ x.state = .starting time := by
  unfold Engine.elapse
  split <;> simp_all

theorem State.ends_of (hpending : s.pending = []) (hreset : s.inReset = false)
    (hstarting : ∀ e n, (s.engine e).state ≠ .starting n) (hsend : s.link.transmitter.isSome = true) (hdue : s.due = [c]) :
    s.Ends c := by
  have hone : ∀ d, d ∈ s.due → d = c := fun d hd => List.mem_singleton.mp (hdue ▸ hd)
  have honly := elapse_endsOnly (s := s)
  refine ⟨hpending, hreset, hsend, ⟨⟨fun bytes h => hone _ (honly.gap bytes h), fun n h => hone _ (honly.input n h),
    fun n h => hone _ (honly.cadence n h), fun p t ht hw hl => hone _ (honly.txn p t ht hw hl),
    fun p h => hone _ (honly.quiet p h), fun p h c hc => hone _ (honly.phase p h c hc),
    fun p a ha hl => hone _ (honly.access p a ha hl), fun e h => hone _ (honly.spacing e h),
    fun e h => hone _ (honly.waiting e h), fun e x h hs => hone _ (honly.stalled e x h hs)⟩, fun e n h => ?_⟩, ?_⟩
  · rw [elapse_engine, engine_elapse_starting] at h
    exact hstarting e n h
  · rw [hdue]
    exact List.mem_singleton_self c

theorem State.Ends.port (h : s.Ends c) (hclock : clockOf c = some (.port p)) : c ∈ (s.port p).due p := by
  obtain ⟨-, rfl⟩ | ⟨n, -, rfl⟩ | ⟨n, -, rfl⟩ | ⟨q, hq⟩ | ⟨e, he⟩ := State.mem_due.mp h.due
  · exact absurd hclock nofun
  · exact absurd hclock nofun
  · exact absurd hclock nofun
  · obtain rfl : q = p := by simpa using (clockOf_portDue hq).symm.trans hclock
    exact hq
  · exact absurd ((clockOf_engineDue he).symm.trans hclock) nofun

theorem State.Ends.engine (h : s.Ends c) (hclock : clockOf c = some (.engine e)) : c ∈ s.engineDue e := by
  obtain ⟨-, rfl⟩ | ⟨n, -, rfl⟩ | ⟨n, -, rfl⟩ | ⟨q, hq⟩ | ⟨f, hf⟩ := State.mem_due.mp h.due
  · exact absurd hclock nofun
  · exact absurd hclock nofun
  · exact absurd hclock nofun
  · exact absurd ((clockOf_portDue hq).symm.trans hclock) nofun
  · obtain rfl : f = e := by simpa using (clockOf_engineDue hf).symm.trans hclock
    exact hf

theorem State.Ends.gap (h : s.Ends .gapTimerExpiry) : ∃ bytes, s.elapse.link.receiver = .frame bytes 0 := by
  obtain ⟨hgap, -⟩ | ⟨n, -, hc⟩ | ⟨n, -, hc⟩ | ⟨q, hq⟩ | ⟨f, hf⟩ := State.mem_due.mp h.due
  · exact hgap
  · exact absurd hc nofun
  · exact absurd hc nofun
  · exact absurd (clockOf_portDue hq) nofun
  · exact absurd (clockOf_engineDue hf) nofun

theorem State.Ends.input (h : s.Ends (.holdoffExpiry n)) : (s.elapse.input n).timer = some 0 := by
  obtain ⟨-, hc⟩ | ⟨k, hk, hc⟩ | ⟨k, -, hc⟩ | ⟨q, hq⟩ | ⟨f, hf⟩ := State.mem_due.mp h.due
  · exact absurd hc nofun
  · obtain rfl := Instr.holdoffExpiry.inj hc
    exact hk
  · exact absurd hc nofun
  · exact absurd (clockOf_portDue hq) nofun
  · exact absurd (clockOf_engineDue hf) nofun

theorem State.Ends.cadence (h : s.Ends (.cadenceExpiry n)) : (s.elapse.cadence n).countdown = some 0 := by
  obtain ⟨-, hc⟩ | ⟨k, -, hc⟩ | ⟨k, hk, hc⟩ | ⟨q, hq⟩ | ⟨f, hf⟩ := State.mem_due.mp h.due
  · exact absurd hc nofun
  · exact absurd hc nofun
  · obtain rfl := Instr.cadenceExpiry.inj hc
    exact hk
  · exact absurd (clockOf_portDue hq) nofun
  · exact absurd (clockOf_engineDue hf) nofun

/-- The step is known where its expiries are. -/
theorem State.Ends.step (h : s.Ends c) (hx : s.elapse.expire = Moment.start w) (hframe : s.elapse.SameFrame w)
    (hexec : exec c s.elapse = .next w) : step s = exec c s.elapse :=
  (step_of_expire_start h.pending h.reset h.sending hx hframe).trans hexec.symm

/-! ## The gap timer, the holdoff timers, the cadences -/

/-- The gap timer's expiry changes the Host Link alone, and not its transmitter. -/
theorem gapTimerExpiry_frame : ∃ l : Link, gapTimerExpiry u = { u with link := l } ∧ l.transmitter = u.link.transmitter := by
  unfold gapTimerExpiry
  split
  · exact ⟨u.link, rfl, rfl⟩
  · split <;> exact ⟨_, rfl, rfl⟩

theorem step_gap (h : s.Ends .gapTimerExpiry) : Sys2Proof.Machine.step s = exec .gapTimerExpiry s.elapse := by
  obtain ⟨bytes, hgap⟩ := h.gap
  obtain ⟨l, hl, hframe⟩ := gapTimerExpiry_frame (u := s.elapse)
  have hfirst : s.elapse.expireFirst = { s.elapse with link := l } := by
    have hend : expireGap s.elapse = { s.elapse with link := l } := by
      unfold expireGap
      rw [hgap]
      exact hl
    unfold State.expireFirst
    rw [hend]
    exact foldl_finRange_still fun n => expireInput_still (u := { s.elapse with link := l }) (h.one.input (n := n) nofun)
  refine h.step (expire_of_first hfirst (fun n => h.one.cadence (n := n) nofun) (fun p => h.one.port (p := p) nofun) fun e =>
    (h.one.engine (e := e) nofun).congr rfl rfl) hframe (congrArg Host.Outcome.next ((awake_eq h.reset).trans hl))

theorem step_holdoff (h : s.Ends (.holdoffExpiry n)) : Sys2Proof.Machine.step s = exec (.holdoffExpiry n) s.elapse := by
  have hfirst : s.elapse.expireFirst = holdoffExpiry n s.elapse := by
    have hend : expireInput s.elapse n = holdoffExpiry n s.elapse := by
      unfold expireInput
      rw [h.input]
      rfl
    unfold State.expireFirst
    rw [expireGap_still (h.one.gap nofun)]
    refine foldl_finRange_one n (fun k hk => ?_) hend fun k hk => ?_
    · exact expireInput_still (h.one.input (by simpa [clockOf] using Ne.symm hk))
    · refine expireInput_still ?_
      rw [show (holdoffExpiry n s.elapse).input k = s.elapse.input k from State.setInput_other _ _ _ _ hk]
      exact h.one.input (by simpa [clockOf] using Ne.symm hk)
  exact h.step (w := holdoffExpiry n s.elapse) (expire_of_first hfirst (fun n => h.one.cadence (n := n) nofun)
    (fun p => h.one.port (p := p) nofun) fun e => (h.one.engine (e := e) nofun).congr rfl rfl) rfl (congrArg Host.Outcome.next (awake_eq h.reset))

/-- A cadence nothing is bound to reloads (R56, R58). -/
theorem State.cadenceEnd_unbound (hcount : (u.cadence n).countdown = some 0) (hunbound : u.Unbound (.cadence n)) :
    u.cadenceEnd n = (u.setCadence n { u.cadence n with countdown := some (u.cadence n).period }, []) := by
  unfold State.cadenceEnd
  dsimp only
  rw [if_pos (by rw [hcount]; rfl)]
  exact congrArg (_, ·) (State.Unbound.arrivals (s := u.setCadence n _) hunbound _)

theorem step_cadence (h : s.Ends (.cadenceExpiry n)) (hunbound : s.Unbound (.cadence n)) :
    Sys2Proof.Machine.step s = exec (.cadenceExpiry n) s.elapse := by
  have hend := State.cadenceEnd_unbound h.cadence (u := s.elapse) hunbound
  have hexpire : expireCadence n s.elapse = s.elapse.cadenceEnd n := by
    unfold expireCadence
    rw [h.cadence]
    rfl
  have hcadences : (Moment.start s.elapse).expireCadences = Moment.start (s.elapse.setCadence n
      { s.elapse.cadence n with countdown := some (s.elapse.cadence n).period }) := by
    refine foldl_finRange_one n (fun k hk => ?_) (Moment.also_nothing (hexpire.trans hend)) fun k hk => ?_
    · exact Moment.also_still (expireCadence_still (h.one.cadence (by simpa [clockOf] using Ne.symm hk)))
    · refine Moment.also_still (expireCadence_still ?_)
      rw [show (Moment.start (s.elapse.setCadence n _)).st.cadence k = s.elapse.cadence k from
        State.setCadence_other _ _ _ _ hk]
      exact h.one.cadence (by simpa [clockOf] using Ne.symm hk)
  have hexec : exec (.cadenceExpiry n) s.elapse = .next (s.elapse.setCadence n
      { s.elapse.cadence n with countdown := some (s.elapse.cadence n).period }) := by
    refine congrArg Host.Outcome.next ((awake_eq h.reset).trans ?_)
    unfold cadenceExpiry
    rw [hend]
    exact event_eq (.nil _)
  refine h.step ?_ ?_ hexec
  · exact (expire_of_cadence (expireFirst_still (h.one.gap nofun) fun n => h.one.input (n := n) nofun) hcadences
    (fun p => h.one.port (p := p) nofun) fun e => (h.one.engine (e := e) nofun).congr rfl rfl)
  · rfl

/-! ## The timers of a port -/

theorem State.EndsOne.txn_still (h : u.EndsOne c) (hne : c ≠ .responseTimeout p) :
    ∀ t, (u.port p).txn = some t → t.wordLeft = 0 → t.left ≠ 0 := fun t ht hw hl => hne (h.only.txn p t ht hw hl).symm

theorem State.EndsOne.quiet_still (h : u.EndsOne c) (hne : c ≠ .quietPeriodEnd p) : (u.port p).quiet ≠ some 0 :=
  fun hq => hne (h.only.quiet p hq).symm

theorem State.EndsOne.phase_still (h : u.EndsOne c)
    (hc : c = .responseTimeout p ∨ c = .quietPeriodEnd p ∨ c = .hostWaitLimitExpiry p) :
    (u.port p).phase = some 0 → (u.port p).phaseCommands p = [] := fun hk =>
  Port.phaseCommands_nil_of (h.only.phase p hk) hc

theorem State.EndsOne.access_still (h : u.EndsOne c) (hne : c ≠ .hostWaitLimitExpiry p) :
    ∀ a, (u.port p).access = some a → a.waitLeft ≠ some 0 := fun a ha hl => hne (h.only.access p a ha hl).symm

/-- Every timer of a port but the response timeout. -/
theorem step_port (h : s.Ends c) (hclock : clockOf c = some (.port p)) (hne : c ≠ .responseTimeout p) :
    Sys2Proof.Machine.step s = exec c s.elapse := by
  have hdue := Port.mem_due.mp (h.port hclock)
  rw [← elapse_port] at hdue
  obtain ⟨-, hc⟩ | ⟨hquiet, rfl⟩ | ⟨hphase, hc⟩ | ⟨⟨a, ha, hleft⟩, rfl⟩ := hdue
  · exact absurd hc hne
  · exact h.step (expire_port h.one hclock (expirePort_quiet (h.one.txn_still hne) hquiet
      (h.one.phase_still (.inr (.inl rfl))) (h.one.access_still nofun)) quietPeriodEnd_onlyPort)
      quietPeriodEnd_onlyPort.frame (congrArg Host.Outcome.next (awake_eq h.reset))
  · have hquiet : c ≠ .quietPeriodEnd p := fun hq => by
      have hnil := Port.phaseCommands_nil_of (h.one.only.phase p hphase) (.inr (.inl hq))
      exact List.not_mem_nil (hnil ▸ hc)
    have hwait : c ≠ .hostWaitLimitExpiry p := fun hq => by
      have hnil := Port.phaseCommands_nil_of (h.one.only.phase p hphase) (.inr (.inr hq))
      exact List.not_mem_nil (hnil ▸ hc)
    exact h.step (expire_port h.one hclock (expirePort_phase (h.one.txn_still hne) (h.one.quiet_still hquiet) hphase
      (h.one.access_still hwait)) phaseEnd_onlyPort.1) phaseEnd_onlyPort.1.frame (exec_phaseEnd h.reset hc)
  · exact h.step (expire_port h.one hclock (expirePort_hostWait (h.one.txn_still hne) (h.one.quiet_still nofun)
      (h.one.phase_still (.inr (.inr rfl))) ha hleft) (endWaiting_onlyPort _)) (endWaiting_onlyPort _).frame
      (congrArg Host.Outcome.next (awake_eq h.reset))

end

end Sys2Proof.Machine
end

section
/-! PROOFS. A microsecond in which a response timeout or an engine's timer comes to its end, and the step without a command
as a whole (R47, R74, R84, R87, R123, notes/assumptions/2). -/

namespace Sys2Proof.Machine

-- One proof after the other, as in the tests: many at once would each hold a thread.
set_option Elab.async false

/-! ## A response timeout (R123) -/

section
variable {s u t w : State} {c : Instr} {p : Fin 8} {e : Fin 4} {acts : List Act} {n : Nat}

theorem State.Ends.txn (h : s.Ends (.responseTimeout p)) :
    ∃ x, (s.elapse.port p).txn = some x ∧ x.wordLeft = 0 ∧ x.left = 0 := by
  have hdue := Port.mem_due.mp (h.port rfl)
  rw [← elapse_port] at hdue
  obtain ⟨hx, -⟩ | ⟨-, hc⟩ | ⟨hphase, hc⟩ | ⟨-, hc⟩ := hdue
  · exact hx
  · exact absurd hc nofun
  · have hnil := Port.phaseCommands_nil_of (h.one.only.phase p hphase) (.inl rfl)
    exact absurd (hnil ▸ hc) List.not_mem_nil
  · exact absurd hc nofun

/-- What the response timeout leads to is known, and the port's other timers are then still. -/
theorem step_timeout (h : s.Ends (.responseTimeout p)) (hend : s.elapse.txnEnd p .silent 0#24 = (t, acts))
    (hdoes : Does acts t w [] n 0) (hn : n ≤ 1048576) (honly : s.elapse.OnlyPort p w)
    (hquiet : (w.port p).quiet ≠ some 0) (hphase : (w.port p).phase = some 0 → (w.port p).phaseCommands p = [])
    (haccess : ∀ a, (w.port p).access = some a → a.waitLeft ≠ some 0) :
    Sys2Proof.Machine.step s = exec (.responseTimeout p) s.elapse := by
  obtain ⟨x, hx, hword, hleft⟩ := h.txn
  have hexpire : expireTxn p (Moment.start s.elapse).st = (t, acts) := by
    unfold expireTxn
    rw [show (Moment.start s.elapse).st = s.elapse from rfl, hx]
    exact (if_pos ⟨hword, hleft⟩).trans hend
  have hat : (Moment.start s.elapse).also (expireTxn p) = Moment.start w := Moment.also_does hexpire hdoes hn
  refine h.step (expire_port h.one rfl (expirePort_txn hat hquiet hphase haccess) honly) honly.frame ?_
  rw [exec_responseTimeout h.reset, hend]
  exact congrArg Host.Outcome.next (event_eq hdoes hn)

/-- A failed identify attempt below the third sets the retry spacing, if the port's state identifies at all (R101). -/
theorem State.identifyEnd_silent_few (h : (u.port p).attempts < 3) {v : Value} :
    u.identifyEnd p .silent v = (u, [])
    ∨ u.identifyEnd p .silent v = (u.setPort p { u.port p with phase := some ((u.port p).active.spacing * 10) }, []) := by
  cases hst : (u.port p).state with
  | identifying => exact .inr ((State.identifyEnd_silent (.inl hst)).trans (State.identifyFailed_retry h))
  | retraining => exact .inr ((State.identifyEnd_silent (.inr hst)).trans (State.identifyFailed_retry h))
  | off => exact .inl (by unfold State.identifyEnd; dsimp only; rw [hst])
  | powering => exact .inl (by unfold State.identifyEnd; dsimp only; rw [hst])
  | clocking => exact .inl (by unfold State.identifyEnd; dsimp only; rw [hst])
  | up => exact .inl (by unfold State.identifyEnd; dsimp only; rw [hst])
  | draining => exact .inl (by unfold State.identifyEnd; dsimp only; rw [hst])
  | stopping => exact .inl (by unfold State.identifyEnd; dsimp only; rw [hst])
  | fault => exact .inl (by unfold State.identifyEnd; dsimp only; rw [hst])

/-- The timeout of an identify attempt below the third, the spacing after it not 0. -/
theorem step_timeout_identify {x : Transaction} (h : s.Ends (.responseTimeout p)) (hx : (s.elapse.port p).txn = some x)
    (hreq : x.requester = none) (hfew : (s.elapse.port p).attempts < 3) (hspacing : 0 < (s.elapse.port p).active.spacing) :
    Sys2Proof.Machine.step s = exec (.responseTimeout p) s.elapse := by
  have hself : (s.elapse.setPort p { s.elapse.port p with txn := none }).port p = { s.elapse.port p with txn := none } :=
    State.setPort_self _ _ _
  have hquiet := h.one.quiet_still (p := p) nofun
  have haccess := h.one.access_still (p := p) nofun
  have hend := State.txnEnd_identify (o := .silent) (v := 0#24) hx hreq
  obtain hidentify | hidentify := State.identifyEnd_silent_few (u := s.elapse.setPort p { s.elapse.port p with txn := none })
    (p := p) (v := 0#24) (by rw [hself]; exact hfew)
  · refine step_timeout h (hend.trans hidentify) (.nil _) (by decide) (s.elapse.setPort_onlyPort _) ?_ ?_ ?_
    · rw [hself]; exact hquiet
    · rw [hself]; exact h.one.phase_still (.inl rfl)
    · rw [hself]; exact haccess
  · rw [hself, State.setPort_twice] at hidentify
    refine step_timeout h (hend.trans hidentify) (.nil _) (by decide) (s.elapse.setPort_onlyPort _) ?_ ?_ ?_
    · rw [State.setPort_self]; exact hquiet
    · rw [State.setPort_self]
      intro hzero
      have hspan : (s.elapse.port p).active.spacing * 10 = 0 := Option.some.inj hzero
      omega
    · rw [State.setPort_self]; exact haccess

/-- A host access's outcome changes its port alone, and ends the access (R136). -/
theorem hostOutcome_onlyPort (o : TxnOutcome) (v : Value) : u.OnlyPort p (u.hostOutcome p o v)
    ∧ (u.hostOutcome p o v).port p = { u.port p with access := none } := by
  cases ha : (u.port p).access with
  | none =>
    have hsame : u.hostOutcome p o v = u := by
      unfold State.hostOutcome
      dsimp only
      rw [ha]
    rw [hsame]
    exact ⟨.refl u, by rw [← ha]⟩
  | some a =>
    rw [State.hostOutcome_eq ha]
    exact ⟨(u.setPort_onlyPort _).placeReply .., (State.placeReply_get_port ..).trans (State.setPort_self ..)⟩

theorem State.OnlyPort.trans (h : u.OnlyPort p t) (k : t.OnlyPort p w) : u.OnlyPort p w :=
  ⟨k.engines.trans h.engines, k.rings.trans h.rings, fun q hq => (k.others q hq).trans (h.others q hq),
    h.frame.trans k.frame⟩

/-- The timeout of a host access at an UP port that no one waits for (R111, R112, R123, R136). -/
theorem step_timeout_host {x : Transaction} (h : s.Ends (.responseTimeout p)) (hx : (s.elapse.port p).txn = some x)
    (hreq : x.requester = some .host) (hst : (s.elapse.port p).state = .up) (hw : (s.elapse.port p).waiters = [])
    (hc : (s.elapse.port p).commitPending = false) :
    Sys2Proof.Machine.step s = exec (.responseTimeout p) s.elapse := by
  have hquiet := h.one.quiet_still (p := p) nofun
  obtain ⟨honly, hport⟩ := hostOutcome_onlyPort (u := s.elapse.setPort p ((s.elapse.port p).spent .silent)) (p := p)
    .silent 0#24
  rw [State.setPort_self] at hport
  have honly := (s.elapse.setPort_onlyPort _).trans honly
  by_cases hlimit : ((s.elapse.port p).spent .silent).silenceReached = true
  · have hend := State.txnEnd_silenced (v := 0#24) hx hreq hst hlimit
    unfold State.silenceFault at hend
    dsimp only at hend
    generalize (s.elapse.setPort p ((s.elapse.port p).spent .silent)).hostOutcome p .silent 0#24 = v at hend honly hport
    have hself : (v.setPort p { v.port p with holder := none }).port p = { v.port p with holder := none } :=
      State.setPort_self _ _ _
    rw [State.portFault_of_nobody .silent (by rw [hself]) (by rw [hself, hport]; exact hw)
      (by rw [hself, hport]; exact hc)] at hend
    refine step_timeout h hend (.just rfl (act_portNotice ..)) (by decide)
      (((honly.setPort _).setPort _).post ..) ?_ ?_ ?_
    · rw [State.postPortState_setPort, State.post_get_port, State.setPort_self]
      nofun
    · rw [State.postPortState_setPort, State.post_get_port, State.setPort_self]
      nofun
    · rw [State.postPortState_setPort, State.post_get_port, State.setPort_self]
      nofun
  · have hend := State.txnEnd_host (v := 0#24) hx hreq hst (.inr (Bool.eq_false_iff.mpr hlimit))
    generalize (s.elapse.setPort p ((s.elapse.port p).spent .silent)).hostOutcome p .silent 0#24 = v at hend honly hport
    have hrelease := State.releaseGrant_quiet (s := v) (p := p) (by rw [hport]; exact hw) (by rw [hport]; exact hc)
    refine step_timeout h hend (.andThen rfl (congrArg Eff.andThen hrelease) (.nil _)) (by decide) (honly.setPort _) ?_ ?_ ?_
    · rw [State.setPort_self, hport]
      exact hquiet
    · rw [State.setPort_self, hport]
      exact h.one.phase_still (.inl rfl)
    · rw [State.setPort_self, hport]
      nofun

/-! ## The timers of an engine -/

theorem State.setEngine_others {u : State} {e f : Fin 4} {x : Engine} (h : u.StillEngine f) (hf : f ≠ e) :
    (u.setEngine e x).StillEngine f := h.congr (State.setEngine_other _ _ _ _ hf) rfl

theorem State.EndsOne.others (h : u.EndsOne c) (hclock : clockOf c = some (.engine e)) {f : Fin 4} (hf : f ≠ e) :
    u.StillEngine f := h.engine (by rw [hclock]; simpa using Ne.symm hf)

/-- The retry spacing (R74). -/
theorem step_spacing (h : s.Ends (.spacingExpiry e)) :
    Sys2Proof.Machine.step s = exec (.spacingExpiry e) s.elapse := by
  have hx : (s.elapse.engine e).state = .spacing 0 := by
    obtain ⟨hx, -⟩ | ⟨-, hc⟩ | ⟨-, -, hc⟩ := State.mem_engineDue.mp (h.engine rfl)
    · exact hx
    · exact absurd hc nofun
    · exact absurd hc nofun
  have hexpire : expireEngine e s.elapse = (spacingExpiry e s.elapse, []) := by
    unfold expireEngine
    rw [hx]
    rfl
  have hleft : spacingExpiry e s.elapse = s.elapse ∨ ∃ st, spacingExpiry e s.elapse = s.elapse.startTransfer e st := by
    unfold spacingExpiry
    rw [hx]
    cases (s.elapse.engine e).run with
    | none => exact .inl rfl
    | some r =>
      dsimp only
      split
      · exact .inr ⟨_, rfl⟩
      · exact .inl rfl
  refine h.step (w := spacingExpiry e s.elapse) (expire_engine h.one rfl (Moment.also_nothing hexpire) (fun f hf => ?_)
    fun n => ?_) ?_ (congrArg Host.Outcome.next (awake_eq h.reset))
  · have hstill := h.one.others (e := e) rfl hf
    show (spacingExpiry e s.elapse).StillEngine f
    obtain heq | ⟨st, heq⟩ := hleft
    · rw [heq]
      exact hstill
    · rw [heq]
      exact State.setEngine_others (u := s.elapse.setPort st.port _) (hstill.congr rfl rfl) hf
  · show ((spacingExpiry e s.elapse).engine e).state ≠ .starting n
    obtain heq | ⟨st, heq⟩ := hleft
    · rw [heq]
      exact h.one.starting e n
    · rw [heq]
      exact ne_of_eq_of_ne (congrArg Engine.state (State.setEngine_self _ _ _)) nofun
  · obtain heq | ⟨st, heq⟩ := hleft <;> rw [heq] <;> rfl

/-- The WAIT timer, the step after it a WAIT too (R84). -/
theorem step_waiting {r : Run} {d : Nat} (h : s.Ends (.waitExpiry e)) (hr : (s.elapse.engine e).run = some r)
    (hwait : (s.elapse.plan r.plan).steps[r.stepIndex + 1]? = some (.wait d)) :
    Sys2Proof.Machine.step s = exec (.waitExpiry e) s.elapse := by
  have hx : (s.elapse.engine e).state = .waiting 0 := by
    obtain ⟨-, hc⟩ | ⟨hx, -⟩ | ⟨-, -, hc⟩ := State.mem_engineDue.mp (h.engine rfl)
    · exact absurd hc nofun
    · exact hx
    · exact absurd hc nofun
  have hexpire : expireEngine e s.elapse = (s.elapse, [.next e]) := by
    unfold expireEngine State.waitEnd
    rw [hx]
    rfl
  have hdoes := does_next_wait (s := s.elapse) hr hwait
  have hat : (Moment.start s.elapse).also (expireEngine e) = Moment.start (s.elapse.inWait e r d) :=
    Moment.also_does hexpire hdoes (by decide)
  refine h.step (expire_engine h.one rfl hat (fun f hf => State.setEngine_others (h.one.others (e := e) rfl hf) hf)
    fun n => ?_) rfl ((exec_waitExpiry h.reset hx).trans (congrArg Host.Outcome.next (event_eq hdoes)))
  exact ne_of_eq_of_ne (congrArg Engine.state (State.setEngine_self _ _ _)) nofun

/-- An engine that leaves the stall lists ends no other engine's stall. -/
theorem State.leaveStall_stillEngine {f : Fin 4} (h : u.StillEngine f) : (u.leaveStall e).StillEngine f := by
  refine ⟨h.spacing, h.waiting, fun x hx => ?_, h.starting⟩
  have hnone := h.stalled x hx
  unfold State.stallEnded at hnone ⊢
  rw [List.any_eq_false] at hnone ⊢
  intro k hk hany
  refine hnone k hk ?_
  have hring : (u.leaveStall e).ring k = (u.ring k).map fun r => r.removeStalled e :=
    (Vector.getElem_map (xs := u.rings) (i := k) (fun o : Option Ring => o.map fun (r : Ring) => r.removeStalled e) k.isLt :)
  rw [hring] at hany
  cases hr : u.ring k with
  | none => rw [hr] at hany; exact hany
  | some r =>
    rw [hr] at hany
    obtain ⟨y, hy, hend⟩ := List.any_eq_true.mp hany
    exact List.any_eq_true.mpr ⟨y, List.mem_of_mem_filter hy, hend⟩

/-- The stall timer of an engine without a grant: the run fails (R87). -/
theorem step_stall {r : Run} (h : s.Ends (.stallTimerExpiry e)) (hr : (s.elapse.engine e).run = some r)
    (hheld : (s.elapse.plan r.plan).held = false) (hport : s.elapse.heldPort e = none) :
    Sys2Proof.Machine.step s = exec (.stallTimerExpiry e) s.elapse := by
  obtain ⟨y, hx, hended⟩ : ∃ y, (s.elapse.engine e).state = .stalled y ∧ s.elapse.stallEnded e = true := by
    obtain ⟨-, hc⟩ | ⟨-, hc⟩ | ⟨⟨y, hx⟩, hended, -⟩ := State.mem_engineDue.mp (h.engine rfl)
    · exact absurd hc nofun
    · exact absurd hc nofun
    · exact ⟨y, hx, hended⟩
  have hexpire : expireEngine e s.elapse
      = ((s.elapse.leaveStall e).atRun e (.stalled y) r.emptied, [.release e, .stallFailed e]) := by
    unfold expireEngine State.stallEnd
    rw [hx, hr]
    dsimp only
    rw [if_pos hended, State.setRun_eq_atRun (s := s.elapse.leaveStall e) hx]
    rfl
  have hrelease := does_release_none (s := (s.elapse.leaveStall e).atRun e (.stalled y) r.emptied) (e := e) hport
  have hdoes := hrelease.cons (does_stallFailed (s := s.elapse.leaveStall e) (e := e) (x := .stalled y) (r := r.emptied) hheld)
  have hat := Moment.also_does (x := Moment.start s.elapse) hexpire hdoes (by decide)
  refine (step_of_expire h.pending h.reset h.sending (expire_engine h.one rfl hat (fun f hf => ?_) fun n => ?_) rfl).trans ?_
  · refine State.setEngine_others (u := ((s.elapse.leaveStall e).failedStall r.emptied).reported r.plan) ?_ hf
    exact (State.leaveStall_stillEngine (h.one.others (e := e) rfl hf)).congr rfl rfl
  · exact ne_of_eq_of_ne State.atRun_state nofun
  · rw [exec_stallTimerExpiry h.reset hx hr, ← hexpire, event_also, hat]

/-! ## Nothing due -/

theorem expire_nothing (h : u.EndsOnly fun _ => False) (hstarting : ∀ e n, (u.engine e).state ≠ .starting n) :
    u.expire = Moment.start u :=
  expire_of_first (expireFirst_still (fun bytes hr => h.gap bytes hr) fun n hn => h.input n hn)
    (fun n hn => h.cadence n hn) (fun _ => Port.still_of h fun _ => False.elim)
    fun e => State.stillEngine_of h (fun _ => False.elim) (hstarting e)

theorem elapse_starting (h : ∀ e n, (s.engine e).state ≠ .starting n) (e : Fin 4) (n : Time) :
    (s.elapse.engine e).state ≠ .starting n := fun hx => by
  rw [elapse_engine, engine_elapse_starting] at hx
  exact h e n hx

/-- Nothing is due and there is no frame to take: the clocks alone move. -/
theorem step_nothing (hpending : s.pending = []) (hreset : s.inReset = false)
    (hstarting : ∀ e n, (s.engine e).state ≠ .starting n) (hdue : s.due = [])
    (htake : s.link.transmitter.isSome = true ∨ (s.link.rejects = [] ∧ s.link.announcePending = false
      ∧ s.link.replies = [] ∧ s.notices.offering = false ∧ s.nextStream = none)) :
    Sys2Proof.Machine.step s = .next s.elapse := by
  have hnone : s.elapse.EndsOnly fun _ => False := by
    have honly := elapse_endsOnly (s := s)
    rw [hdue] at honly
    simpa only [List.not_mem_nil] using honly
  have htransmit : s.elapse.transmit = s.elapse := by
    by_cases hsend : s.link.transmitter.isSome = true
    · exact State.transmit_sending (s := s.elapse) hsend
    · obtain ⟨hrejects, hannounce, hreplies, hoffer, hnext⟩ := htake.resolve_left hsend
      have hidle : s.link.transmitter = none := Option.not_isSome_iff_eq_none.mp hsend
      have hnothing := State.take_nothing (s := s.elapse) ⟨hidle, hrejects, hannounce⟩ hreplies hoffer hnext
      unfold State.transmit
      rw [hnothing]
      exact event_eq (.nil _)
  rw [step_of_idle hpending]
  unfold tick
  rw [if_neg (by rw [hreset]; exact Bool.false_ne_true), expire_nothing hnone (elapse_starting hstarting)]
  exact congrArg Host.Outcome.next ((congrArg State.transmit (settle_nil _ _ _)).trans htransmit)

/-- The clocks a microsecond on, each written out. -/
theorem State.elapse_of {fi : TrigInput → TrigInput} {fc : Cadence → Cadence} {fe : Engine → Engine}
    {fr : Ring → Ring} {fp : Port → Port} {receiver : Receiver} (hi : ∀ x, fi x = { x with timer := lessOne x.timer })
    (hc : ∀ x, fc x = { x with countdown := lessOne x.countdown }) (he : ∀ x, fe x = x.elapse)
    (hr : ∀ r, fr r = r.elapse) (hp : ∀ q, fp q = q.elapse) (hreceiver : receiver = s.link.receiver.elapse) :
    ({ s with
      timeBase := s.timeBase + 1
      inputs := s.inputs.map fi
      cadences := s.cadences.map fc
      engines := s.engines.map fe
      rings := s.rings.map fun o => o.map fr
      ports := s.ports.map fp
      link := { s.link with receiver := receiver } } : State) = s.elapse := by
  obtain rfl := funext hi
  obtain rfl := funext hc
  obtain rfl := funext he
  obtain rfl := funext hr
  obtain rfl := funext hp
  rw [hreceiver]
  rfl

theorem Transaction.elapse_eq (x : Transaction) : x.elapse = { x with
    wordLeft := x.wordLeft - 1, left := if x.wordLeft = 0 then x.left - 1 else x.left } := by
  unfold Transaction.elapse
  by_cases h : x.wordLeft = 0
  · rw [if_neg (by omega), if_pos h, h]
  · rw [if_pos (by omega), if_neg h]

theorem Transaction.elapse_requester (x : Transaction) : x.elapse.requester = x.requester := by
  unfold Transaction.elapse
  split <;> rfl

end

/-- Settles O2. -/
theorem idleStepCountsOneMicrosecond : Obligations.IdleStepCountsOneMicrosecond := by
  unfold Obligations.IdleStepCountsOneMicrosecond
  intro passed
  have hpassed : ∀ s, passed s = s.elapse := fun s =>
    State.elapse_of (fun _ => rfl) (fun _ => rfl)
      (fun x => by unfold Engine.elapse; cases hx : x.state <;> simp only [← hx])
      (fun _ => rfl) (fun q => congrArg (fun f : Transaction → Transaction => { q.elapse with txn := q.txn.map f })
        (funext Transaction.elapse_eq).symm) (by cases s.link.receiver <;> rfl)
  refine ⟨fun s hpending hreset => ⟨tick s, step_of_idle hpending, tick_timeBase hreset⟩,
    fun s hpending hreset hstarting hdue htake => ?_, fun s c hpending hreset hstarting hsend hdue hc => ?_⟩
  · rw [hpassed]
    exact step_nothing hpending hreset hstarting hdue htake
  · rw [hpassed]
    have hends := State.ends_of hpending hreset hstarting hsend hdue
    obtain (rfl | ⟨n, rfl⟩ | ⟨n, rfl, hunbound⟩) | ⟨p, hp⟩ | ⟨p, t, rfl, ht, hcase⟩ | ⟨e, rfl⟩ | ⟨e, r, st, d, rfl, ⟨hr, -⟩, hwait⟩
      | ⟨e, r, rfl, hr, hheld, hport⟩ := hc
    · exact step_gap hends
    · exact step_holdoff hends
    · exact step_cadence hends hunbound
    · have hclock : clockOf c = some (.port p) := by
        obtain rfl | rfl | rfl | rfl | rfl | rfl | rfl | rfl := hp <;> rfl
      have hne : c ≠ .responseTimeout p := by
        obtain rfl | rfl | rfl | rfl | rfl | rfl | rfl | rfl := hp <;> nofun
      exact step_port hends hclock hne
    · have hx : (s.elapse.port p).txn = some t.elapse := by
        rw [elapse_port]
        exact congrArg (Option.map Transaction.elapse) ht
      have hrequester := t.elapse_requester
      obtain ⟨hreq, hfew, hspacing⟩ | ⟨hreq, hst, -, hw, hcommit⟩ := hcase
      · exact step_timeout_identify hends hx (hrequester.trans hreq) (by rw [elapse_port]; exact hfew)
          (by rw [elapse_port]; exact hspacing)
      · exact step_timeout_host hends hx (hrequester.trans hreq) (by rw [elapse_port]; exact hst)
          (by rw [elapse_port]; exact hw) (by rw [elapse_port]; exact hcommit)
    · exact step_spacing hends
    · exact step_waiting hends (by rw [elapse_engine, engine_elapse_run]; exact hr) hwait
    · exact step_stall hends (by rw [elapse_engine, engine_elapse_run]; exact hr) hheld
        ((State.heldPort_congr fun q => by rw [elapse_port]; rfl).trans hport)

end Sys2Proof.Machine
end
